-- ==== Sys2Proof/Word.lean ====
section
/-! DEFINITION. The words of the device: a register and a bus access are 32 bits wide (R7), a memory cell is a byte. -/

namespace Sys2Proof

/-- A register word or a bus word (R7). -/
abbrev Word := BitVec 32

/-- A byte of memory. -/
abbrev Byte := BitVec 8

end Sys2Proof
end

