-- ==== Sys2Proof/Machine/Types.lean ====
section
/-! DEFINITION. The names commands are written with: the cores, who makes a bus access, the pad banks, the reset kinds, the
wake sources, and the answer a command leaves for whoever sent it. -/

namespace Sys2Proof

/-- The two Kalsebel K4 cores. -/
inductive Core where
  | a | b
  deriving DecidableEq, Repr

/-- Who makes a bus access: a core, at user level or not (R266), or the Audit chain, at supervisor level (R618). -/
inductive Agent where
  | core (c : Core) (user : Bool)
  | jtag
  deriving DecidableEq, Repr

/-- The VIO banks whose supplies R657 watches. -/
inductive Bank where
  | a | b | c | host
  deriving DecidableEq, Repr

/-- The reset kinds of Table 00-7. -/
inductive ResetKind where
  | por | bor | wdr | ldr | swr | hrst
  deriving DecidableEq, Repr

/-- The answer a command leaves at the port it came by: nothing, a word read, a bus error with its code of Table
07-5, or the bytes and code an outside party receives. -/
inductive Resp where
  | none
  | word (w : Word)
  | busError (code : Nat)
  | bytes (code : Nat) (b : List Byte)
  deriving DecidableEq, Repr

/-- Whose teller deadline passes (R362, R366): entry k of a core's request queue, request k that waits for a full queue, or the
byte KBC or ECI has handed to firmware. -/
inductive DeadlineOf where
  | queued (c : Core) (k : Nat)
  | held (k : Nat)
  | kbc
  | eci
  deriving DecidableEq, Repr

/-- How a two-wire controller's transaction meets the bus: every byte acknowledged, with the bytes the target sent; the byte written k-th,
address bytes included, not acknowledged; arbitration lost on it; cut off by ABORT after some bytes; SDA still low after a bus clear. -/
inductive TwEnd where
  | done (rx : List Byte)
  | nack (k : Nat)
  | lost (k : Nat)
  | cut (k : Nat) (rx : List Byte)
  | stuck
  deriving DecidableEq, Repr

/-- The three lamp blocks (chapter 16). -/
inductive LampBlock where
  | strings | matrix | chains
  deriving DecidableEq, Repr

/-- Where a lamp sync comes from: a write of a SYNC bit, the LMX_SYNC ball, or a lamp sync route of the Clearing house. -/
inductive SyncFrom where
  | write (who : Agent)
  | pin
  | route
  deriving DecidableEq, Repr

/-- What a bus access meets that its words do not tell: for each timer channel, the source events since its last command (advs); whether it meets
a limit on the same edge (tie); what else arrives in its AO cycle, as the row of the register it reaches reads it (met); bit i of
bad, the domains whose power-good does not arrive at a power-up it brings about, and bit 24 + i, those whose power-good arrives on the edge of
the 200 µs limit (R172, R166); for flash or SRAM data 1 for a corrected error, 2 for an uncorrectable one (ecc); the same for
the first window fill or return-stack transfer from SRAM that a bundle makes (fill, R283); and the SRAM blocks, bit j, that the bundle accesses in
the core cycle in which the other core accesses them too (turn, R137, R282). -/
structure BusNote where
  advs : List Nat := []
  tie : Bool := false
  met : Nat := 0
  bad : Nat := 0
  ecc : Nat := 0
  fill : Nat := 0
  turn : Nat := 0
  deriving DecidableEq, Repr

/-- A section's index in a reconcile request; met says that the other core's request comes in the same cycle (R128). -/
structure ReconArg where
  index : BitVec 6
  met : Bool := false
  deriving DecidableEq, Repr

/-- The word of a commit request. met tells what comes in the same cycle: bit 0 a hardware-originated commit, bit 1 the other core's request
(R235, R244). -/
structure CommitArg where
  w : Word
  met : BitVec 2 := 0
  deriving DecidableEq, Repr

/-- A core that enters a handler, and the SRAM blocks, bit j, that its spill accesses in the core cycle in which the other core accesses them too
(R137, R282). -/
structure EntryTurn where
  c : Core
  turn : BitVec 4 := 0
  deriving DecidableEq, Repr

/-- An interrupt's entry; tie says that its pending bit was set on the edge on which the bundle boundary was decided (R278). -/
structure EntryNote where
  c : Core
  tie : Bool := false
  turn : BitVec 4 := 0
  deriving DecidableEq, Repr

/-- A buffered store that reaches SRAM: a double-bit error marks its word (bad, R283); the other core accesses its block in the same core cycle
(turn, R137). -/
structure WriteBack where
  bad : Bool := false
  turn : Bool := false
  deriving DecidableEq, Repr

/-- The pins that are low when the Clearing house samples them: the WAKE pins and the TWn_ALERT_N lines (R487). -/
structure PinsLow where
  wake : BitVec 8 := 0
  alerts : BitVec 6 := 0
  deriving DecidableEq, Repr

/-- For each timer channel the source events since its last command, and the capture units, bit 4n + m, whose route CAPTURE is taken on the edge on
which their timeout count ends (R436). -/
structure TimerEdges where
  advs : List Nat := []
  ties : BitVec 64 := 0
  deriving DecidableEq, Repr

/-- A typematic repeat: the time since the start of the last frame, frozen time left out, in nanoseconds (when); a break of the typematic key is
accepted on the same edge (tie, R403). -/
structure RepeatNote where
  when : Nat
  tie : Bool := false
  deriving DecidableEq, Repr

/-- A channel to start, the source events since its last command (adv), and whether a route's STOP arrives in the same cycle (met, R322). -/
structure StartNote where
  n : Fin 16
  adv : Nat := 0
  met : Bool := false
  deriving DecidableEq, Repr

/-- A word written to a timer register, and the source events since the channel's last command (R427). -/
structure TimedWord where
  w : Word
  adv : Nat := 0
  deriving DecidableEq, Repr

/-- Where a clock-low timeout cuts a transaction: after idx bytes, rx those read. -/
structure TwCut where
  idx : Nat
  rx : List Byte := []
  deriving DecidableEq, Repr

/-- A lamp sync; met says that another sync has come in this cycle (R554). -/
structure SyncNote where
  src : SyncFrom
  met : Bool := false
  deriving DecidableEq, Repr

/-- Is the access a user-level one (R266)? -/
def Agent.user : Agent → Bool
  | .core _ u => u
  | .jtag => false

/-- Is the access made by this core? -/
def Agent.isCore (w : Agent) (c : Core) : Bool := match w with | .core d _ => d == c | .jtag => false

/-- The core that makes the access; the Audit chain is none. -/
def Agent.coreOf : Agent → Option Core
  | .core c _ => some c
  | .jtag => none

/-- The number of a core in a register: 0 A, 1 B. -/
def Core.num : Core → Nat | .a => 0 | .b => 1

end Sys2Proof
end

