-- ==== Sys2Proof/Syntax.lean ====
section
/-! DEFINITION. The commands the device takes: one constructor for each row of the command table, with the operands its outside
party supplies (who writes which word, which channel, what is measured or sampled). -/

namespace Sys2Proof

/-- A command of the SF-7300. -/
inductive Instr where
  /-- VIN_AO_VALID (R21). VIN_AO rises through 2.90 V after POR and first light runs through to t_READY and firmware start. -/
  | vinAoValid (xt32 : Bool) (pfailHigh : Bool) (bad : BitVec 48)
  /-- POR (R21). VIN_AO stays below 2.80 V for more than 5 µs and the whole device resets. -/
  | por
  /-- BOR (R150). VCORE falls below 0.78 V, non-AO islands restart and the running Ledger is reapplied. -/
  | bor
  /-- WATCHDOG_EXPIRY (R276). A core watchdog reaches TIMEOUT or a fatal condition occurs, causing a core- or device-scope WDR and a Daybook entry. -/
  | watchdogExpiry (c : Core) (tie : Bool) (bad : BitVec 48)
  /-- LDR (R52). An AO_LDR GO write reruns store selection and first light, and also resets the Sequencer state when SEQ is set. -/
  | ldr (who : Agent) (key : BitVec 8) (seq : Bool) (bad : BitVec 48)
  /-- SWR (R54). An AO_SWR write with the correct KEY resets the named islands from their kept tills. -/
  | swr (who : Agent) (key : BitVec 8) (mask : BitVec 24)
  /-- HRST (R43). eSPI_RESET_N is asserted, which resets HOST and returns the link to its reset settings. -/
  | hrst
  /-- ESPI_RESET_DEASSERT (R345). eSPI_RESET_N deasserts, HST_CAP_CFG is sampled and the link may answer. -/
  | espiResetDeassert
  /-- BACKUP_CELL_RESTART (R414). The Calendar backup cell loses its supply or XT32 and restarts with the count and RATE at 0. -/
  | backupCellRestart
  /-- BANK_PRESENT (R657). A VIO bank supply has been above 1.50 V for 100 µs, so the bank selects its level and becomes present. -/
  | bankPresent (bank : Bank) (high : Bool)
  /-- BANK_ABSENT (R657). A VIO bank supply falls below 1.50 V and its outputs turn off. -/
  | bankAbsent (bank : Bank)
  /-- RECOVERY_FRAME (R93). A whole recovery frame received on the UART console is checked and answered with ACK or NAK. -/
  | recoveryFrame (typ : BitVec 8) (payload : List Byte) (crc : Word) (bad : BitVec 48)
  /-- RECOVERY_BYTE_GAP (R93). More than 1 s passes between console bytes of a frame, so the service answers 0x15 0xFE and waits for sync. -/
  | recoveryByteGap (tie : Bool)
  /-- LEDGER_WINDOW_OPEN (R87). An LGR_WR_CTRL write with OPEN = 1 opens the write window on a store or is refused. -/
  | ledgerWindowOpen (who : Agent) (key : BitVec 8) (store : Bool) (met : Bool)
  /-- LEDGER_WINDOW_CLOSE (R90). An LGR_WR_CTRL write with OPEN = 0 closes the write window. -/
  | ledgerWindowClose (who : Agent) (key : BitVec 8) (store : Bool)
  /-- LEDGER_WORD_WRITE (R88). An LGR_WR_DATA write stores one word in the open store and advances the address. -/
  | ledgerWordWrite (who : Agent) (w : Word) (tie : Bool)
  /-- LEDGER_WINDOW_IDLE (R90). The window closes 100 ms after the last word write, or after opening when nothing was written. -/
  | ledgerWindowIdle
  /-- LEDGER_CHECK (R91). An LGR_CHECK GO starts the full check of the named store, or is refused. -/
  | ledgerCheck (who : Agent) (store : Bool)
  /-- LEDGER_CHECK_DONE (R91). The store check completes and updates CHECK_CODE, CHECK_DONE, the serial and DETAIL. -/
  | ledgerCheckDone
  /-- LGR_LOAD (R96). The JTAG LGR_LOAD instruction selects the 32-bit Ledger load register. -/
  | lgrLoad
  /-- LGR_LOAD_WORD (R95). A shifted LGR_LOAD word is taken; the first holds the window for JTAG and later ones are written to the store. -/
  | lgrLoadWord (w : Word)
  /-- LGR_LOAD_CAPTURE (R95). The final capture checks the loaded store, closes the window and returns the fault code. -/
  | lgrLoadCapture (bad : BitVec 48)
  /-- RECONCILE_REQUEST (R109). A TIL_RECON write with KEY and GO requests a reconcile of one section, or is refused while busy. -/
  | reconcileRequest (who : Agent) (key : BitVec 8) (limit : BitVec 8) (arg : ReconArg)
  /-- RECONCILE_SNAPSHOT (R110). The snapshot of the section is copied from the shadow and checked, and then passes or fails with a code. -/
  | reconcileSnapshot
  /-- RECONCILE_SWITCH (R112). At the section's safe point the island switches to the staging copy, and DONE and TIL_DONE follow. -/
  | reconcileSwitch (tie : Bool)
  /-- RECONCILE_LIMIT (R114). LIMIT × 10 ms passes without a safe point, so the reconcile ends NO_SAFE_POINT. -/
  | reconcileLimit (tie : Bool)
  /-- DIVERGENCE_AUDIT (R118). Every 1 ms the audit compares the CRC of each shadow section with its till. -/
  | divergenceAudit
  /-- DOMAIN_SET (R138). A PWR_SET write requests domains on, or is refused. -/
  | domainSet (who : Agent) (key : BitVec 8) (mask met : BitVec 24)
  /-- DOMAIN_ON_COMPLETE (R139). A domain switched on has its power good, its tills loaded and its registers reset, and it answers accesses. -/
  | domainOnComplete (d : Fin 24) (tie : Bool)
  /-- DOMAIN_CLEAR (R140). A PWR_CLR write requests domains off, or is refused. -/
  | domainClear (who : Agent) (key : BitVec 8) (mask met : BitVec 24)
  /-- DOMAIN_OFF_COMPLETE (R140). A domain finishes its accepted accesses and removes its clock and power. -/
  | domainOffComplete (d : Fin 24)
  /-- DOMAIN_POWER_FAIL (R172). A domain's power-good does not arrive within 200 µs, so the domain is switched off and PWR_FAULT is raised. -/
  | domainPowerFail (d : Fin 24)
  /-- DOMAIN_RETRY (R172). 1 ms after a failed power-up, FAN, FRAM or SEAL is retried once. -/
  | domainRetry (d : Fin 24)
  /-- STRAND_TIMEOUT (R173). A Strand handshake is not acknowledged within 2 µs, so the issuing core gets a bus error. -/
  | strandTimeout (c : Core)
  /-- STOP_REQUEST (R143). A PWR_STOP write by a core requests stop, and stop is accepted when all running cores have requested. -/
  | stopRequest (who : Agent) (key : BitVec 8) (ret : BitVec 4) (waitlim : BitVec 8) (tie : Bool)
  /-- STOP_PARTNER_TIMEOUT (R144). The other running core has not requested stop within WAITLIM, so stop is refused with PARTNER. -/
  | stopPartnerTimeout
  /-- STOP_ENTRY (R145). After the commit, flash and SEAL operations in progress complete, state is saved and the device powers down to stop. -/
  | stopEntry (die : Int) (edge : BitVec 19) (low : BitVec 16)
  /-- WAKE (R152). An enabled wake source is sampled in stop and the device wakes, running core A within t_WAKE. -/
  | wake (src : BitVec 19) (die : Option Int) (bad : BitVec 48)
  /-- STOP_BUDGET_CHECK (R149). Every 250 ms in stop the leakage budget is evaluated, and the device wakes with BUDGET if it is exceeded. -/
  | stopBudgetCheck (die : Int) (bad : BitVec 48)
  /-- XT32_FAIL (R174). XT32 produces no edge for 128 µs in stop, so the device wakes and substitutes the AO oscillator. -/
  | xt32Fail (bad : BitVec 48)
  /-- PROGRAM (R156). The flash PROGRAM command writes a 16-byte row and verifies it, or ends refused. -/
  | program (who : Agent) (key : BitVec 8)
  /-- ERASE_SECTOR (R156). The flash ERASE_SECTOR command erases the sector that holds FLC_ADDR. -/
  | eraseSector (who : Agent) (key : BitVec 8)
  /-- ERASE_HALF (R156). The flash ERASE_HALF command erases the half that holds FLC_ADDR. -/
  | eraseHalf (who : Agent) (key : BitVec 8)
  /-- BLANK_CHECK (R156). The flash BLANK_CHECK command reports whether the sector is wholly erased. -/
  | blankCheck (who : Agent) (key : BitVec 8)
  /-- FLASH_ABORT (R157). An FLC_CMD ABORT ends a running erase at its next pulse boundary with code ABORTED. -/
  | flashAbort (who : Agent) (key : BitVec 8)
  /-- FLASH_COMMAND_DONE (R158). A flash command ends, so BUSY clears, DONE and CODE are written and FLC_DONE pulses. -/
  | flashCommandDone (same : Bool)
  /-- FLASH_SCRUB_READ (R160). The scrubber reads the next row, counts any corrected error and reports a limit or an uncorrectable error. -/
  | flashScrubRead (corrected : Bool) (bad : Bool)
  /-- SEQUENCER_CYCLE (R177). Each 10 µs Sequencer cycle advances steps, judges conditions, accepts power-good and drops rails. -/
  | sequencerCycle (pg : Word)
  /-- STEP_DELAY_ELAPSED (R177). An active step's DELAY elapses and its action starts. -/
  | stepDelayElapsed (n : Nat)
  /-- RAIL_SETTLED (R179). A rail with no power-good source completes at RISE_MIN after its enable. -/
  | railSettled (n : Nat)
  /-- PG_LATE (R180). PG_TIMEOUT is reached without accepted power-good, and the rail's FAULT_RESP applies. -/
  | pgLate (n : Nat)
  /-- PG_STUCK (R187). Power-good is still valid at the end of the rail-on wait, and FAULT_RESP applies. -/
  | pgStuck (n : Nat)
  /-- SEQ_FALL_LATE (R179). A rail-off step's PG_TIMEOUT elapses with power-good still valid, so the step completes and SEQ_FALL_LATE is raised. -/
  | seqFallLate (n : Nat)
  /-- DISCHARGE_TIMEOUT (R188). PG_TIMEOUT after deassertion elapses and SEQ_DIS is released. -/
  | dischargeTimeout (rail : Nat)
  /-- RAIL_RETRY_RESTART (R187). 10 ms after a RETRY response the rail's step restarts from DELAY. -/
  | railRetryRestart (rail : Nat)
  /-- MONITOR_SAMPLE (R185). Every 5 µs a rail monitor samples and, after filtering, changes window state and raises SEQ_MONn. -/
  | monitorSample (m : Fin 16) (code : BitVec 10)
  /-- RUN_SET (R192). The RUN_SET command sets the RUN latch and may commit LAST. -/
  | runSet (who : Agent) (key : BitVec 8) (met : BitVec 4)
  /-- RUN_CLR (R192). The RUN_CLR command clears the RUN latch. -/
  | runClr (who : Agent) (key : BitVec 8) (met : BitVec 4)
  /-- RUN_TOGGLE (R192). The RUN_TOGGLE command inverts the RUN latch. -/
  | runToggle (who : Agent) (key : BitVec 8) (met : BitVec 4)
  /-- CLEAR_LOCK (R189). The CLEAR_LOCK command clears LOCKOUT. -/
  | clearLock (who : Agent) (key : BitVec 8) (met : BitVec 4)
  /-- STEP_REQ (R197). The STEP_REQ command requests a step under the QUEUE policy. -/
  | stepReq (who : Agent) (key : BitVec 8) (arg : BitVec 7)
  /-- REARM (R178). The REARM command returns a faulted step to idle. -/
  | rearm (who : Agent) (key : BitVec 8) (arg : BitVec 7)
  /-- FORCE_OFF (R188). The FORCE_OFF command drops one rail. -/
  | forceOff (who : Agent) (key : BitVec 8) (arg : BitVec 7)
  /-- ALL_OFF (R188). The ALL_OFF command drops every rail. -/
  | allOff (who : Agent) (key : BitVec 8)
  /-- COND_SET (R183). The COND_SET command sets a routed condition latch. -/
  | condSet (who : Agent) (key : BitVec 8) (arg : BitVec 7) (met : Bool)
  /-- COND_CLR (R183). The COND_CLR command clears a routed condition latch. -/
  | condClr (who : Agent) (key : BitVec 8) (arg : BitVec 7)
  /-- PFAIL_FALL (R194). A filtered PFAIL_N fall sets condition 141, raises SEQ_PFAIL and starts the hold count. -/
  | pfailFall
  /-- PFAIL_HOLD_ELAPSED (R194). PFAIL_N stays low for HOLD_MS with DROP set, so every rail is dropped and PFAIL_HOLD is set. -/
  | pfailHoldElapsed (tie : Bool)
  /-- PFAIL_RISE (R194). PFAIL_N rises and the RECOVER count starts. -/
  | pfailRise
  /-- PFAIL_RECOVER (R194). PFAIL_N has been high for RECOVER × 10 ms, so PFAIL_HOLD clears and SEQ_PFAIL_END is raised. -/
  | pfailRecover
  /-- POLICY_APPLY (R191). OFF_MIN after a device-scope WDR or an LDR with SEQ, the power-restore policy sets or leaves the RUN latch. -/
  | policyApply
  /-- VAULT_COMMIT_REQUEST (R220). A VLT_COMMIT GO requests a commit, which starts, waits for the gate or is refused. -/
  | vaultCommitRequest (who : Agent) (arg : CommitArg)
  /-- VAULT_GATE_OPEN (R219). A waiting commit finds the gate open and starts writing the standby bank. -/
  | vaultGateOpen (tie : Bool)
  /-- VAULT_COMMIT_DONE (R220). The commit reaches its commit point, the active bank switches and VLT_DONE is raised. -/
  | vaultCommitDone (readBackOk : Bool) (bad : BitVec 48)
  /-- VAULT_WAIT_EXPIRED (R239). The gate stays closed for WAIT, so the request ends WAIT_EXPIRED. -/
  | vaultWaitExpired
  /-- HW_COMMIT_RETRY (R237). Every 1 s a refused hardware-originated commit is retried while the pending set is non-empty. -/
  | hwCommitRetry
  /-- VAULT_DRAFT_APPEND (R218). A VLT_DRAFT_DATA write appends a word to the draft, or is refused. -/
  | vaultDraftAppend (who : Agent) (w : Word)
  /-- VAULT_DRAFT_CLEAR (R218). VLT_DRAFT_CTL CLEAR empties the draft. -/
  | vaultDraftClear (who : Agent) (w : Word)
  /-- VAULT_FIND (R231). A VLT_FIND write locates a record, shown in VLT_FOUND. -/
  | vaultFind (who : Agent) (w : Word) (bad : Bool)
  /-- DAYBOOK_LOG (R229). A VLT_LOG write of a firmware TYPE queues a Daybook entry. -/
  | daybookLog (who : Agent) (w : Word)
  /-- DAYBOOK_APPEND (R229). At a commit opportunity, one queued Daybook entry is written to the ring. -/
  | daybookAppend
  /-- RESERVE_SAMPLE (R224). Every 1 ms the gauge samples VHOLD and the load and recomputes RSV_ENERGY. -/
  | reserveSample (mv : Nat) (ma : Nat) (pfailHigh : Bool)
  /-- RSV_MEASURE (R225). An RSV_MEASURE write makes a capacitance measurement due. -/
  | rsvMeasure (who : Agent) (w : Word)
  /-- RESERVE_PERIOD_ELAPSED (R225). PERIOD seconds after the last measurement, a measurement becomes due. -/
  | reservePeriodElapsed
  /-- RESERVE_MEASURE_START (R225). VHOLD has been in band for 10 ms with a measurement due, so the charger stops and the 10 mA sink starts. -/
  | reserveMeasureStart
  /-- RESERVE_MEASURE_DONE (R225). The 20 mV fall is seen, RSV_CAP is computed and VALID is set on the first measurement. -/
  | reserveMeasureDone (tNs : Nat) (tie : Bool)
  /-- RESERVE_MEASURE_TIMEOUT (R225). No 20 mV fall within 20 ms, so RSV_CAP is written as 10,000. -/
  | reserveMeasureTimeout
  /-- BUNDLE_ISSUE (R248). A core issues one bundle, reading sources as before the bundle and executing every syllable. -/
  | bundleIssue (c : Core) (cyc : Nat) (fe : Nat) (note : BusNote)
  /-- STRAND_ACCESS_COMPLETE (R136). An outstanding Strand access completes and the stalled core resumes. -/
  | strandAccessComplete (c : Core) (note : BusNote)
  /-- DIVIDE_COMPLETE (R295). A divide finishes after 18 cycles and writes its result. -/
  | divideComplete (c : Core)
  /-- INTERRUPT_ENTRY (R272). A pending enabled vector above PSW.LVL is taken at a bundle boundary and the handler is entered. -/
  | interruptEntry (e : EntryNote)
  /-- EXCEPTION_ENTRY (R270). A raised exception slides the window and enters EVT_EXC of its code. -/
  | exceptionEntry (e : EntryTurn)
  /-- WAIT_RELEASE (R304). An enabled vector above PSW.LVL becomes pending and ends a WAIT. -/
  | waitRelease (c : Core)
  /-- WATCHDOG_START (R276). An EVT_WDOG_CTL write with EN = 1 and a non-zero TIMEOUT starts and locks the watchdog. -/
  | watchdogStart (who : Agent) (timeout : BitVec 24)
  /-- WATCHDOG_KICK (R276). An EVT_WDOG_KICK write of 0xD2 restarts the watchdog count. -/
  | watchdogKick (who : Agent) (key : BitVec 8) (tie : Bool)
  /-- EVENT_ACCEPT (R319). The Clearing house accepts a source change in an AO cycle and applies its routes to the destinations. -/
  | eventAccept (evs : List Nat) (low : PinsLow) (contended : Nat) (edges : TimerEdges)
  /-- KX_SWEV (R333). A KX_SWEV write pulses the software event sources it names. -/
  | kxSwev (who : Agent) (sw : BitVec 8)
  /-- KX_FORCE (R704). A KX_FORCE write pulses a pulse source once, or is refused. -/
  | kxForce (who : Agent) (key : BitVec 8) (src : BitVec 9)
  /-- ESPI_IO_READ (R347). An eSPI I/O read is answered by the teller whose window claims it. -/
  | espiIoRead (port : BitVec 16) (n : Nat) (bad : Bool)
  /-- ESPI_IO_WRITE (R347). An eSPI I/O write goes to the teller whose window claims it. -/
  | espiIoWrite (port : BitVec 16) (data : List Byte) (us : Nat) (bad : Bool)
  /-- ESPI_MEM_READ (R347). An eSPI memory read is answered by its teller. -/
  | espiMemRead (a : Word) (n : Nat) (bad : Bool)
  /-- ESPI_MEM_WRITE (R347). An eSPI memory write goes to its teller or to the owner's queue. -/
  | espiMemWrite (a : Word) (data : List Byte) (bad : Bool)
  /-- SET_CONFIGURATION (R344). The host sets link configuration within the advertised capabilities. -/
  | setConfiguration (freq : BitVec 3) (io : BitVec 2) (pin : Bool) (od : Bool) (crc : Bool) (ch : BitVec 4) (bad : Bool)
  /-- PUT_VWIRE (R352). The host sends virtual wires, which update conditions and wire sources. -/
  | putVwire (sys : List (Fin 10 × Bool)) (gen : List (BitVec 8 × Fin 4 × Bool)) (bad : Bool)
  /-- GET_VWIRE (R351). The host fetches the changed device-to-host virtual wires. -/
  | getVwire
  /-- HOST_RST_ACK (R353). After any deferred request completes, HOST_RST_ACK is asserted. -/
  | hostRstAck
  /-- OOB_RST_ACK (R353). After the upstream packet in transfer finishes, OOB_RST_ACK is asserted. -/
  | oobRstAck
  /-- PUT_OOB (R355). The host sends an OOB packet, which goes to the teller with that address or is discarded. -/
  | putOob (pkt : List Byte) (bad : Bool)
  /-- GET_OOB (R356). The host fetches an upstream OOB packet from the device. -/
  | getOob
  /-- OOB_RX_DELIVER (R357). A buffered OOB packet moves into the firmware receive area once VALID is clear. -/
  | oobRxDeliver
  /-- OOB_SEND (R357). HST_OOB_CTL SEND queues the transmit area as an upstream packet. -/
  | oobSend (who : Agent) (teller : BitVec 7)
  /-- OOB_RELEASE (R357). HST_OOB_CTL RELEASE clears receive VALID. -/
  | oobRelease (who : Agent) (teller : BitVec 7)
  /-- TELLER_RESPONSE (R361). A TLR_RSP write completes the head request of the core's queue. -/
  | tellerResponse (who : Agent) (c : Core) (w : Word) (tie : Bool)
  /-- TELLER_DEADLINE (R362). A request's DEADLINE passes, so it completes with FALLBACK and TLR_TARDY is raised. -/
  | tellerDeadline (d : DeadlineOf)
  /-- KBC_CONSUME (R366). The KBC autoteller consumes the written byte and carries out its command. -/
  | kbcConsume
  /-- KBD_RESET_COMPLETE (R367). 1 ms after a keyboard reset, 0xAA is sent. -/
  | kbdResetComplete
  /-- KBC_FIRMWARE_RELEASE (R366). HST_KBC_CMD or HST_ECI_CMD PENDING = 1 releases IBF for the byte handed to firmware. -/
  | kbcFirmwareRelease (who : Agent) (eci : Bool) (w : Word) (tie : Bool)
  /-- KBC_PUT (R368). An HST_KBC_PUT write queues a byte for the output buffer. -/
  | kbcPut (who : Agent) (w : Word)
  /-- KBC_OUTPUT_LOAD (R368). With OBF = 0, the next byte by precedence is loaded into the output buffer and IRQ1 or IRQ12 follows. -/
  | kbcOutputLoad
  /-- ECI_CONSUME (R369). ECI consumes the written byte within 1 µs and carries out its command. -/
  | eciConsume
  /-- ECI_QUERY_PUSH (R371). An HST_ECI_QUERY write pushes a query value. -/
  | eciQueryPush (who : Agent) (w : Word)
  /-- ECI_PUT (R369). An HST_ECI_PUT write loads the output buffer when OBF = 0. -/
  | eciPut (who : Agent) (w : Word)
  /-- NVX_LOAD_DONE (R373). The staging load from the active record or its default completes. -/
  | nvxLoadDone
  /-- CONSOLE_RX (R363). A byte received on CONS_RXD enters the console ring and raises HST_CONS_RX. -/
  | consoleRx (b : Byte)
  /-- CONSOLE_TX (R363). An HST_CONS_TX write queues a byte for CONS_TXD. -/
  | consoleTx (who : Agent) (w : Word)
  /-- KBD_FRAME_START (R387). A keyboard frame starts and scans every drive slot, sampling the sense lines. -/
  | kbdFrameStart (rows : List (BitVec 16)) (dt : Nat)
  /-- KBD_FRAME_BOUNDARY (R398). At the frame boundary the accepted breaks and makes are delivered. -/
  | kbdFrameBoundary
  /-- KBD_LINE_MEASURE (R388). One line's rise time is measured after a frame's last slot. -/
  | kbdLineMeasure (rise : Option (BitVec 16))
  /-- KBD_MEASURE_PERIOD (R389). MEAS_PERIOD seconds after the last set, a new measurement set starts. -/
  | kbdMeasurePeriod
  /-- MEASURE (R389). KBD_CMD.MEASURE starts a measurement set. -/
  | measure (who : Agent)
  /-- TYPEMATIC_REPEAT (R397). The repeat timer of the typematic key falls due and its make bytes are delivered again. -/
  | typematicRepeat (due : RepeatNote)
  /-- CLEAR_KBC (R406). KBD_CMD.CLEAR_KBC empties the KBC staging queue. -/
  | clearKbc (who : Agent)
  /-- CLEAR_FW (R406). KBD_CMD.CLEAR_FW empties the firmware queue. -/
  | clearFw (who : Agent)
  /-- KBC_STAGING_MOVE (R399). A staged key byte moves into the KBC key FIFO when a place is free there. -/
  | kbcStagingMove
  /-- KBD_FIFO_READ (R400). A KBD_FIFO read returns and removes the head firmware entry. -/
  | kbdFifoRead (who : Agent)
  /-- KBD_HOSTCFG_WRITE (R401). A KBD_HOSTCFG write sets the LED outputs and the typematic byte. -/
  | kbdHostcfgWrite (who : Agent) (w : Word)
  /-- KBD_WAKE_DETECT (R409). In stop, an unmasked sense line is low for 20 µs and the KBD wake source becomes active. -/
  | kbdWakeDetect (sense : Fin 16)
  /-- KBD_SENSE_UNMASK (R409). In stop, a masked sense line that has been high for 20 µs is unmasked. -/
  | kbdSenseUnmask (sense : Fin 16)
  /-- CALENDAR_TICK (R413). Each XT32 tick adds the trimmed increment to the Calendar count. -/
  | calendarTick
  /-- CALENDAR_SECOND (R413). SECONDS changes and CAL_SECOND pulses. -/
  | calendarSecond
  /-- ALARM_MATCH (R421). A Calendar alarm matches, pulses CAL_ALARMk, clears EN and activates the CAL wake source. -/
  | alarmMatch (k : Fin 2)
  /-- PPS_EDGE (R416). A qualifying PPS_IN edge is measured for phase and considered. -/
  | ppsEdge (since : Nat) (tie : Bool)
  /-- HOLDOVER (R420). 2 s pass with no accepted or step edge, so the Calendar enters holdover. -/
  | holdover
  /-- CALENDAR_SET (R423). CAL_CMD SET loads CAL_SET into the count at the next tick and sets VALID. -/
  | calendarSet (who : Agent) (key : BitVec 8)
  /-- CAL_RATE_WRITE (R423). A CAL_RATE write takes effect, clamped, at the next tick. -/
  | calRateWrite (who : Agent) (w : Word)
  /-- CAL_NOW_LO_READ (R422). A CAL_NOW_LO read returns the low bits and latches the high bits for the reading core. -/
  | calNowLoRead (who : Agent)
  /-- CAL_NOW_HI_READ (R422). A CAL_NOW_HI read returns the latched bits and releases the latch. -/
  | calNowHiRead (who : Agent)
  /-- VBAT_SAMPLE (R414). Once per second VBAT is sampled for CAL_VBAT_LOW. -/
  | vbatSample (mv : Nat)
  /-- XT32_LOSS (R415). XT32 has given no edge for 128 µs in run, so the Calendar substitutes the AO oscillator and CLK_XT32_FAIL is raised. -/
  | xt32Loss
  /-- XT32_RETURN (R415). The Calendar returns to XT32 at its first edge after XT32_OK. -/
  | xt32Return
  /-- TIMER_WRAP (R425). A timer count carries out of bit W, pulses TCn_WRAP and transfers preloads. -/
  | timerWrap (n : Fin 16)
  /-- COMPARE_MATCH (R427). The counter reaches a CC value, raises TCn_CCm, applies OUT and auto-adds STEP. -/
  | compareMatch (n : Fin 16) (m : Fin 4)
  /-- START (R426). The timer START command sets RUN. -/
  | start (who : Agent) (note : StartNote)
  /-- STOP (R426). The timer STOP command clears RUN. -/
  | stop (who : Agent) (n : Fin 16) (adv : Nat)
  /-- CLEAR (R426). The timer CLEAR command zeros the counter, remainder and residue and resets the outputs. -/
  | clear (who : Agent) (n : Fin 16)
  /-- TIMER_HI_WRITE (R428). A write to a timer HI register is held for the writing core. -/
  | timerHiWrite (who : Agent) (n : Fin 16) (u : Option (Fin 4)) (w : Word)
  /-- TIMER_LO_WRITE (R428). A LO write writes all 48 bits with any held HI, to the counter or a CC. -/
  | timerLoWrite (who : Agent) (n : Fin 16) (u : Option (Fin 4)) (v : TimedWord)
  /-- TIMER_LO_READ (R432). A timer LO read in WIDE_MODE 0 latches the high bits for the reading core. -/
  | timerLoRead (who : Agent) (n : Fin 16) (u : Option (Fin 4)) (adv : Nat)
  /-- TIMER_HI_READ (R432). A timer HI read returns the latched bits and releases the latch. -/
  | timerHiRead (who : Agent) (n : Fin 16) (u : Option (Fin 4)) (adv : Nat)
  /-- CAPTURE (R430). A qualifying input edge or a route CAPTURE copies the counter into CC. -/
  | capture (n : Fin 16) (m : Fin 4) (rising : Bool) (adv : Nat) (tie : Bool)
  /-- CAPTURE_TIMEOUT (R431). STEP counts pass without a capture, so TOUT is set and TCn_CCm is raised. -/
  | captureTimeout (n : Fin 16) (m : Fin 4)
  /-- SNAPSHOT (R433). TC_SNAP GO or a route copies all 16 counters in one cycle. -/
  | snapshot (who : Agent) (advs : List Nat)
  /-- ADC_TRIGGER (R460). A trigger from ADC_CMD.TRIG or a route makes a scan-list pass pending under its OVERLAP policy. -/
  | adcTrigger (who : Agent) (lists : BitVec 8)
  /-- ADC_PASS_START (R461). A pending pass starts on an idle live slice by priority. -/
  | adcPassStart
  /-- ADC_ENTRY_DONE (R463). A scan-list entry completes and its result is written. -/
  | adcEntryDone (x : Fin 3) (raw : BitVec 16) (raw2 : BitVec 16) (tie : Bool)
  /-- ADC_PASS_DONE (R463). A pass completes, PASSES increments and ADC_SLk_DONE is raised. -/
  | adcPassDone (x : Fin 3)
  /-- ADC_SWAP (R450). A swap falls due, so the ready relief slice goes live and the oldest live slice starts leaving. -/
  | adcSwap
  /-- RELIEF_CALIBRATION_DONE (R447). A relief calibration completes and passes or marks the slice bad. -/
  | reliefCalibrationDone (x : Fin 3) (vz : Nat) (lo : Nat) (hi : Nat)
  /-- BAD_SLICE_RETRY (R447). Each ROT period a bad slice is calibrated again. -/
  | badSliceRetry (x : Fin 3)
  /-- SURVEY (R465). ADC_CMD.SURVEY or a route makes a Survey due. -/
  | survey (who : Agent)
  /-- SURVEY_PERIOD (R465). SURVEY_S seconds after the last Survey, a new one becomes due. -/
  | surveyPeriod
  /-- SURVEY_DONE (R465). The Survey writes its record and raises ADC_SURVEY_DONE. -/
  | surveyDone (raws : List (BitVec 16))
  /-- SENSOR_FAULT_SET (R456). A temperature channel stays implausible for FAULT_MS and its FAULT is set. -/
  | sensorFaultSet (c : Fin 12)
  /-- SENSOR_FAULT_CLEAR (R456). A faulted channel stays plausible for FAULT_MS and its FAULT clears. -/
  | sensorFaultClear (c : Fin 12)
  /-- TWB_GO (R477). TWB_CMD GO copies the transaction and marks it waiting, or is refused. -/
  | twbGo (who : Agent) (p : Fin 6)
  /-- TWB_TRANSACTION_START (R477). With the controller idle and the bus free, the waiting transaction starts on the bus. -/
  | twbTransactionStart (p : Fin 6)
  /-- TWB_TRANSACTION_END (R482). A transaction ends, so BUSY clears, DONE and RESULT are written and TWn_DONE pulses. -/
  | twbTransactionEnd (p : Fin 6) (e : TwEnd)
  /-- TWB_RETRY (R480). After ARB_LOST or NACK_ADDR, a retry attempt starts when the bus is free or after 1 ms. -/
  | twbRetry (p : Fin 6)
  /-- ABORT (R495). TWB_CMD ABORT ends the transaction at the next byte boundary. -/
  | abort (who : Agent) (p : Fin 6)
  /-- BUS_CLEAR (R496). TWB_CMD BUS_CLEAR clocks SCL up to nine times to free SDA. -/
  | busClear (who : Agent) (p : Fin 6)
  /-- TWB_CLOCK_LOW_TIMEOUT (R481). SCL stays low for TOUT during the controller's transaction, so it stops with TIMEOUT. -/
  | twbClockLowTimeout (p : Fin 6) (cut : TwCut) (tie : Bool)
  /-- TWB_TARGET_TIMEOUT (R486). SCL stays low for TOUT during a target transaction, so the target releases and forgets it. -/
  | twbTargetTimeout (p : Fin 6) (tie : Bool)
  /-- TWB_STUCK_TIMEOUT (R496). A line stays low for 35 ms while a transaction waits, giving SCL_STUCK, a bus clear or BUS_STUCK. -/
  | twbStuckTimeout (p : Fin 6) (scl : Bool) (sda : Bool) (freed : Bool)
  /-- TWB_BUS_FREE (R476). Both lines have stayed high for 50 µs, so the bus counts as free. -/
  | twbBusFree (p : Fin 6) (alertLow : Bool)
  /-- TWB_TARGET_TRANSACTION (R484). A transaction addressed to the port's target ends at STOP, serving a teller and raising TWn_TARGET. -/
  | twbTargetTransaction (p : Fin 6) (addr : BitVec 7) (read : Bool) (wrote : List Byte) (n : Nat) (sr : Bool) (won : Bool)
  /-- HOST_NOTIFY (R490). A Host Notify write to 0x08 is stored in TWB_HN and raises TWn_TARGET. -/
  | hostNotify (p : Fin 6) (b : List Byte)
  /-- TWB_ALERT_WRITE (R488). TWB_TGT.ALERT = 1 drives the port's alert line low. -/
  | twbAlertWrite (who : Agent) (p : Fin 6) (w : Word)
  /-- AUTO_ARA (R489). With AUTO_ARA, at most once per ms while an alert is active, an ARA transaction queues the answer. -/
  | autoAra (p : Fin 6) (alertLow : Bool)
  /-- TWB_ARA_READ (R489). A TWB_ARA read returns and removes the head ARA entry. -/
  | twbAraRead (who : Agent) (p : Fin 6)
  /-- SENSOR_SLOT_POLL (R491). A sensor slot's PERIOD falls due and a poll is queued on its port. -/
  | sensorSlotPoll (k : Fin 8)
  /-- FAN_LOOP_PERIOD (R504). Each loop period a fan channel recomputes its duty by its mode. -/
  | fanLoopPeriod (n : Fin 8)
  /-- FAN_TACH_EDGE (R503). A filtered tach edge is counted and RPM is updated. -/
  | fanTachEdge (n : Fin 8) (dt : Nat) (rel : Bool) (phase : Bool) (tie : Bool)
  /-- FAN_TACH_LAPSE (R503). 2 s pass with no counted edge and TACH_SEEN clears. -/
  | fanTachLapse (n : Fin 8)
  /-- FAN_KICK_END (R508). KICK × 10 ms after a start from 0, the 100 % kick ends. -/
  | fanKickEnd (n : Fin 8)
  /-- FAN_STALL (R509). No edge for STALL × 100 ms at non-zero duty, so the channel stalls and drives 100 %. -/
  | fanStall (n : Fin 8)
  /-- FAN_STALL_CLEAR (R509). Edges for 1 s without a break clear STALLED. -/
  | fanStallClear (n : Fin 8)
  /-- FAN_PUMP_LOW (R510). A pump's RPM stays below PUMP_RPM for the stall time, so PUMP_LOW is set and MAX_DUTY driven. -/
  | fanPumpLow (n : Fin 8)
  /-- FAN_PUMP_RECOVER (R510). RPM at or above PUMP_RPM for 1 s clears PUMP_LOW. -/
  | fanPumpRecover (n : Fin 8)
  /-- FAN_SAFETY_PERIOD (R512). At each 10 ms safety boundary the causes are evaluated and channels taken or released. -/
  | fanSafetyPeriod
  /-- FAN_HEARTBEAT (R513). A FAN_SAFE_HB write of 0xB5 arms the watch and restarts its count. -/
  | fanHeartbeat (who : Agent) (key : BitVec 8) (tie : Bool)
  /-- FAN_HEARTBEAT_TIMEOUT (R512). No heartbeat for HB_TIMEOUT × 100 ms while armed, so HEARTBEAT holds. -/
  | fanHeartbeatTimeout
  /-- FORCE (R512). FAN_SAFE_CMD FORCE makes the FORCE cause hold. -/
  | force (who : Agent) (key : BitVec 8)
  /-- UNFORCE (R512). FAN_SAFE_CMD UNFORCE removes the FORCE cause. -/
  | unforce (who : Agent) (key : BitVec 8)
  /-- FAN_LEARN (R519). A FAN_LEARN GO starts a baseline learn on a channel, or is refused. -/
  | fanLearn (who : Agent) (key : BitVec 8) (ch : Fin 8)
  /-- FAN_LEARN_ABORT (R520). FAN_LEARN ABORT ends the learn with code ABORTED. -/
  | fanLearnAbort (who : Agent) (key : BitVec 8)
  /-- FAN_LEARN_POINT (R519). After SETTLE and 2 s of averaging, a learn point is recorded and the next begins. -/
  | fanLearnPoint (rpm : BitVec 16)
  /-- FAN_AGEING_SAMPLE (R521). Once per second a usable channel takes an ageing sample. -/
  | fanAgeingSample (n : Fin 8) (tie : Bool)
  /-- FAN_AGEING_WINDOW (R522). At the end of a 600 s window RATIO is updated and WARN or ALARM judged. -/
  | fanAgeingWindow (n : Fin 8)
  /-- LAMP_PERIOD_BOUNDARY (R535). A string PWM period begins, applying written values and switch changes. -/
  | lampPeriodBoundary
  /-- HEADROOM_SAMPLE (R537). 2 µs into an on-time of at least 4 µs, V_SNK and the lamp voltages are sampled. -/
  | headroomSample (x : Fin 4) (vsnk : BitVec 16) (vf : List (BitVec 16))
  /-- BOOST_UPDATE (R538). Every 100 µs the boost target moves toward the largest string need. -/
  | boostUpdate (vbst : BitVec 16)
  /-- LAMP_COMPENSATION (R532). Every 100 ms each lamp block computes its colour factors from its temperature source. -/
  | lampCompensation (b : LampBlock)
  /-- DROPOUT_ENTER (R539). H below HR for 10 ms puts a string in DROPOUT. -/
  | dropoutEnter (x : Fin 4) (tie : Bool)
  /-- DROPOUT_EXIT (R539). H at or above HR for 10 ms takes a string out of DROPOUT. -/
  | dropoutExit (x : Fin 4) (tie : Bool)
  /-- SHED_TICK (R540). Every 10 ms each string may shed or restore one lamp. -/
  | shedTick (ties : BitVec 4)
  /-- LAMP_OPEN (R555). Low string current at BST_VMAX for 1 ms marks the highest-voltage lamp OPEN and bypasses it. -/
  | lampOpen (x : Fin 4)
  /-- LAMP_SHORT (R555). A lamp below 1.0 V for 100 ms of on-time sets SHORT. -/
  | lampShort (x : Fin 4) (k : Fin 8)
  /-- CLEAR_OPEN (R555). LST_CMD CLEAR_OPEN clears a string's OPEN bits. -/
  | clearOpen (who : Agent) (key : BitVec 8) (strings : BitVec 4)
  /-- BOOST_OVP (R556). V_BST exceeds its limit, so the gate turns off and OVP is set, latching on the third in 1 s. -/
  | boostOvp (vbst : BitVec 16) (dt : Nat)
  /-- BOOST_WEAK (R556). V_BST stays 2 V below target for 50 ms at the current limit, so WEAK is set. -/
  | boostWeak
  /-- BST_RESTART (R556). LST_CMD BST_RESTART clears LATCHED. -/
  | bstRestart (who : Agent) (key : BitVec 8)
  /-- MATRIX_SYNC (R545). A matrix sync swaps the buffers when armed and starts a frame, or is queued. -/
  | matrixSync (sync : SyncNote)
  /-- MATRIX_FRAME_TIMER (R545). The FRAME period elapses and gives a sync when SYNC_EXT = 0. -/
  | matrixFrameTimer
  /-- MATRIX_ARM (R545). LMX_CMD ARM sets ARMED. -/
  | matrixArm (who : Agent)
  /-- MATRIX_ROW_SLOT (R543). A row slot begins, with blanking and then selection of the next row. -/
  | matrixRowSlot
  /-- MATRIX_FRAME_END (R545). A matrix frame ends and any queued sync acts. -/
  | matrixFrameEnd
  /-- CHAIN_SYNC (R549). A chain sync swaps the buffers when armed and starts a chain frame, or is queued. -/
  | chainSync (n : Fin 4) (sync : SyncNote)
  /-- CHAIN_FRAME_TIMER (R549). The chain FRAME period elapses and gives a sync. -/
  | chainFrameTimer (n : Fin 4)
  /-- CHAIN_ARM (R549). LCH_CMD ARM sets ARMED. -/
  | chainArm (n : Fin 4) (who : Agent)
  /-- CHAIN_FRAME_END (R548). Reception ends on an idle return line and the echo is checked. -/
  | chainFrameEnd (n : Fin 4) (rx : Nat) (last : BitVec 24) (rt : BitVec 16) (stuck : Bool)
  /-- CHAIN_RET_TIMEOUT (R548). RET_TIMEOUT passes after the last transmitted bit and ends reception. -/
  | chainRetTimeout (n : Fin 4) (rx : Nat) (last : BitVec 24) (rt : BitVec 16) (stuck tie : Bool)
  /-- LOOP_UPDATE (R563). Every 1 ms a loop output computes its target and loads the DAC. -/
  | loopUpdate (c : Fin 2)
  /-- COMPLIANCE_ENTER (R568). Samples disagree for 10 ms, so the output enters COMPLIANCE. -/
  | complianceEnter (c : Fin 2) (tie : Bool)
  /-- COMPLIANCE_EXIT (R569). The exit test holds for 100 ms, so the output leaves COMPLIANCE. -/
  | complianceExit (c : Fin 2) (tie : Bool)
  /-- LOOP_TRIM_STEP (R571). Every 100 ms with TRACK set, TRIM moves one LSB toward agreement. -/
  | loopTrimStep (c : Fin 2)
  /-- OVER_SET (R576). Current above target + 200 µA for 10 ms sets OVER. -/
  | overSet (c : Fin 2)
  /-- OVER_CLEAR (R576). Current within target + 50 µA for 100 ms clears OVER. -/
  | overClear (c : Fin 2)
  /-- MEAS_STALE (R576). No new result for 5 ms sets MEAS_STALE. -/
  | measStale (c : Fin 2)
  /-- RETRY (R570). LOOP_OP RETRY ends COMPLIANCE at once. -/
  | retry (c : Fin 2) (who : Agent) (key : BitVec 8)
  /-- TRIM_CLEAR (R571). LOOP_OP TRIM_CLEAR sets TRIM to 0. -/
  | trimClear (c : Fin 2) (who : Agent) (key : BitVec 8)
  /-- DISPLAY_LINE_START (R595). A raster line begins, with fetch, events and underrun judged for that line. -/
  | displayLineStart (underBase underOver : Bool) (seen : Option (List (BitVec 24))) (ctrlBad : Bool) (ties : Nat)
  /-- FRAME_COMMIT (R593). DSP_COMMIT FRAME sets FRAME_PEND. -/
  | frameCommit (who : Agent)
  /-- LINE_COMMIT (R594). DSP_COMMIT LINE sets LINE_PEND. -/
  | lineCommit (who : Agent)
  /-- DISPLAY_ENABLE_WRITE (R584). A DSP_CTRL.EN change enables or disables the raster at the next line start. -/
  | displayEnableWrite (who : Agent) (w : Word)
  /-- XSPI_COMMAND (R599). DSP_XSPI_CMD GO sends one command to the xSPI memory, or is refused. -/
  | xspiCommand (who : Agent) (w : Word)
  /-- XSPI_COMMAND_DONE (R599). An xSPI command ends with a code. -/
  | xspiCommandDone (rx : List Byte)
  /-- XSPI_STROBE_TIMEOUT (R600). No data strobe within 1 µs, so the read returns all ones and sets ERR. -/
  | xspiStrobeTimeout (who : Option Agent)
  /-- XSPI_WINDOW_READ (R600). A core read of the xSPI window fetches from the memory. -/
  | xspiWindowRead (who : Agent) (off : BitVec 26)
  /-- FREEZE_REQUEST (R609). A FREEZE_N fall, route or AUD_FREEZE requests a freeze at an AO edge. -/
  | freezeRequest (pin : Bool) (route : Bool)
  /-- FREEZE_APPLIED (R611). Every non-exempt island has stopped at a handshake boundary and FROZEN is set. -/
  | freezeApplied
  /-- FREEZE_WINDOW_EXPIRY (R623). The freeze window elapses and releases the freeze. -/
  | freezeWindowExpiry (tie : Bool)
  /-- FREEZE_PIN_RELEASE (R623). A FREEZE_N rise with PIN_RELEASE releases the freeze. -/
  | freezePinRelease
  /-- FREEZE_RELEASE_APPLY (R623). After any audit access completes, queued writes are applied, islands resume and FROZEN_GAP is queued. -/
  | freezeReleaseApply (bad : BitVec 48) (fw : BitVec 16)
  /-- TAP_RESET (R617). TRST_N or Test-Logic-Reset resets the TAP and selects IDCODE. -/
  | tapReset
  /-- EXTEST (R622). EXTEST holds the pads from the boundary-scan register, or is refused. -/
  | extest (cells : Option (List Bool)) (seen : List Bool)
  /-- IDCODE (R617). IDCODE selects the identification register. -/
  | idcode
  /-- SAMPLE_PRELOAD (R617). SAMPLE/PRELOAD selects the boundary-scan register. -/
  | samplePreload (cells : Option (List Bool)) (seen : List Bool)
  /-- CLAMP (R622). CLAMP holds the pads with the bypass register selected. -/
  | clamp
  /-- HIGHZ (R622). HIGHZ turns the pads off with the bypass register selected. -/
  | highz
  /-- AUD_FREEZE (R609). The AUD_FREEZE instruction requests a freeze at Update-IR. -/
  | audFreeze
  /-- AUD_RELEASE (R623). The AUD_RELEASE instruction releases a freeze at Update-IR. -/
  | audRelease
  /-- AUD_STAT (R617). The AUD_STAT instruction captures AUD_STATUS. -/
  | audStat
  /-- AUD_ACCESS_READ (R618). An AUD_ACCESS read of a word through the address map. -/
  | audAccessRead (a : BitVec 32)
  /-- AUD_ACCESS_WRITE (R619). An AUD_ACCESS write, applied at once or queued for release. -/
  | audAccessWrite (a : BitVec 32) (w : Word)
  /-- AUD_ACCESS_SNAPSHOT (R621). An AUD_ACCESS read of an exempt island's snapshot. -/
  | audAccessSnapshot (a : BitVec 32)
  /-- AUD_ACCESS_DONE (R618). An audit access completes and its data and result code are captured. -/
  | audAccessDone (note : BusNote)
  /-- LC_NONCE (R630). The LC_NONCE instruction captures a new nonce. -/
  | lcNonce
  /-- LC_CMD (R629). The LC_CMD instruction shifts in and submits a lifecycle command block. -/
  | lcCmd (words : List Word)
  /-- LC_RESULT (R617). The LC_RESULT instruction captures AUD_LC_RESULT. -/
  | lcResult
  /-- BYPASS (R617). BYPASS, or any refused or unknown instruction, selects the 1-bit bypass register. -/
  | bypass (code : BitVec 8)
  /-- INSTALL_KEY (R628). The lifecycle command that makes an empty key slot active. -/
  | installKey (path : Option Agent) (slot signer : BitVec 8) (payload sig : List Word)
  /-- REVOKE (R628). The lifecycle command that revokes a key slot. -/
  | revoke (path : Option Agent) (slot signer : BitVec 8) (sig : List Word)
  /-- ADVANCE (R624). The lifecycle command that moves the state forward. -/
  | advance (path : Option Agent) (state signer : BitVec 8) (sig : List Word)
  /-- RAISE_EPOCH (R631). The lifecycle command that raises the device epoch. -/
  | raiseEpoch (path : Option Agent) (epoch signer : BitVec 8) (sig : List Word)
  /-- UNLOCK (R628). The lifecycle command that sets UNLOCKED in FIELD. -/
  | unlock (path : Option Agent) (signer : BitVec 8) (sig : List Word)
  /-- LOCK (R628). The lifecycle command that clears UNLOCKED. -/
  | lock (path : Option Agent)
  /-- NONCE (R630). AUD_LC_CMD NONCE makes a new nonce. -/
  | nonce (who : Agent) (key : BitVec 8)
  /-- NONCE_LAPSE (R630). A nonce lapses 60 s after it was made. -/
  | nonceLapse
  /-- LIFECYCLE_WRITE_DONE (R631). A passed lifecycle command finishes writing both sealed copies and reports its result. -/
  | lifecycleWriteDone (okA okB : Bool)
  /-- HASH_START (R632). SEAL HASH_START initialises the firmware hash state. -/
  | hashStart (who : Agent) (key : BitVec 8)
  /-- HASH_DATA (R633). SEAL HASH_DATA hashes SEAL_LEN bytes from SEAL_SRC. -/
  | hashData (who : Agent) (key : BitVec 8)
  /-- HASH_END (R632). SEAL HASH_END pads and writes the digest. -/
  | hashEnd (who : Agent) (key : BitVec 8)
  /-- VERIFY (R632). SEAL VERIFY checks an ECDSA P-256 signature. -/
  | verify (who : Agent) (key : BitVec 8)
  /-- ENCRYPT (R634). SEAL ENCRYPT encrypts with AES. -/
  | encrypt (who : Agent) (key : BitVec 8)
  /-- DECRYPT (R634). SEAL DECRYPT decrypts with AES. -/
  | decrypt (who : Agent) (key : BitVec 8)
  /-- RANDOM (R636). SEAL RANDOM writes random bytes to SEAL_DST. -/
  | random (who : Agent) (key : BitVec 8)
  /-- KEY_STORE (R635). SEAL KEY_STORE writes a key-store slot. -/
  | keyStore (who : Agent) (key : BitVec 8)
  /-- KEY_LOCK (R635). SEAL KEY_LOCK locks a key-store slot. -/
  | keyLock (who : Agent) (key : BitVec 8)
  /-- SEAL_DEFERRED_START (R632). A firmware SEAL GO that waited starts when first light, an image check or a lifecycle command releases the engine. -/
  | sealDeferredStart
  /-- SEAL_OPERATION_DONE (R632). A SEAL operation ends, so DONE and CODE are written and SEAL_DONE pulses. -/
  | sealOperationDone
  /-- WIPE (R635). SEAL_CMD WIPE clears the key registers. -/
  | wipe (who : Agent) (key : BitVec 8)
  /-- SEAL_RNG_READ (R636). A SEAL_RNG read consumes one random word, or sets RNG_EMPTY. -/
  | sealRngRead (who : Agent)
  /-- RNG_FAILURE (R636). A noise-source health test fails, so RNG_BAD is set and random output is refused. -/
  | rngFailure
  /-- COUNTER_READ_CLEAR (R330). A read of an RS counter returns it and clears it. -/
  | counterReadClear (who : Agent) (a : BitVec 32)
  /-- REGISTER_WRITE (R11). A write to a register with no row of its own acts by its access code. -/
  | registerWrite (who : Agent) (a : BitVec 32) (w : Word) (note : BusNote)
  /-- VCORE_READY (R150). After a BOR, VCORE rises back above 0.80 V, the release of the reset cause from which first light restarts at step 2 and t_READY is counted. -/
  | vcoreReady (bad : BitVec 48)
  /-- STORE_BUFFER_WRITE_BACK (R251). A store held in a core's 4-entry store buffer is written into SRAM and becomes visible to the other core, with a double-bit error marking the word bad under R283. -/
  | storeBufferWriteBack (c : Core) (note : WriteBack)
  /-- RNG_REFILL (R636). The noise source refills SEAL_RNG with a new random word within 2 µs of the previous read. -/
  | rngRefill
  /-- CONSOLE_BYTE_SENT (R363). A byte from the 16-byte console transmit FIFO finishes going out on CONS_TXD and frees its place, lowering TXQ. -/
  | consoleByteSent
  /-- TWB_START_CONDITION (R476). A START by another controller on a two-wire bus makes the port count the bus as busy. -/
  | twbStartCondition (p : Fin 6) (alertLow : Bool) (tie : Bool)
  /-- TWB_STOP_CONDITION (R476). A STOP by another controller on a two-wire bus makes the port count the bus as free, so a waiting transaction may start. -/
  | twbStopCondition (p : Fin 6) (alertLow : Bool)
  deriving DecidableEq, Repr

end Sys2Proof
end

