-- ==== Sys2Proof/Decode.lean ====
section
/-! DEFINITION. Decoding by the command table. The table gives no row any bits: a command is a register access, a bus cycle, a pin or an
elapsed time, and none is spelled by a word. So no word spells a command, and the function answers none for each. -/

namespace Sys2Proof

/-- The command a word spells by the table's bits: none, since no row of the table has a field. -/
def decodeTableWord (_nbits _w : Nat) : Option Instr := none

end Sys2Proof
end

