-- ==== Sys2Proof/Config.lean ====
section
/-! DEFINITION. What one device fixes and the spec leaves open: opaque constants with no body, so that no proof can see a value. -/

namespace Sys2Proof.Config

/-- The free values: an unstated number for each use, by the count State.free holds (assumption 3). -/
opaque freeNat : Nat → Nat

/-- The boot ROM's bytes (R702). -/
opaque bootRom : Nat → Byte

/-- The four words of the device's unique identifier, factory set. -/
opaque uid : Nat → Word

/-- The factory trim word of the AO oscillator (CLK_STATUS.TRIM). -/
opaque oscTrim : Nat

/-- The bytes of the external xSPI memory, by the number of commands it has been sent and by memory address. -/
opaque xspiByte : Nat → Nat → Byte

/-- The reading in mV of a channel behind an internal divider, whose ratio is not given, by channel, SUB and corrected code. -/
opaque ballMv : Nat → Nat → Nat → Nat

/-- The die sensor's reading in 1/16 °C for a corrected code, whose law is not given. -/
opaque dieTemp : Nat → Int

end Sys2Proof.Config
end

