-- ==== Sys2Proof/Machine/Bits.lean ====
section
/-! DEFINITION. Bit fields of numbers, little-endian reading of byte lists (R58), saturating counts and small list helpers. -/

namespace Sys2Proof.Machine

/-- Bits [hi:lo] of a number. -/
def bits (n hi lo : Nat) : Nat := (n >>> lo) % 2 ^ (hi + 1 - lo)

/-- A number with bits [hi:lo] replaced by the low bits of v. -/
def setBits (n hi lo v : Nat) : Nat := n - (bits n hi lo) <<< lo + (v % 2 ^ (hi + 1 - lo)) <<< lo

/-- Bit i of a number. -/
def bit (n i : Nat) : Bool := bits n i i == 1

/-- A number with bit i set. -/
def orBit (n i : Nat) : Nat := n ||| (1 <<< i)

/-- A number with bit i cleared. -/
def clrBit (n i : Nat) : Nat := setBits n i i 0

/-- 1 for true. -/
def b2n (b : Bool) : Nat := if b then 1 else 0

/-- Add k to a count that saturates at its limit. -/
def satAdd (lim n k : Nat) : Nat := min lim (n + k)

/-- Twos-complement value of the low w bits of a number. -/
def sext (w n : Nat) : Int :=
  let m := n % 2 ^ w
  if 2 * m < 2 ^ w then (m : Int) else (m : Int) - 2 ^ w

/-- The low w bits of an integer, as a number. -/
def wrapInt (w : Nat) (i : Int) : Nat := (i % (2 ^ w : Nat)).toNat

/-- An integer held between two limits. -/
def clampInt (lo hi x : Int) : Int := max lo (min hi x)

/-- s1 is higher than s2 in modulo-2^32 comparison (R86). -/
def higher (s1 s2 : Nat) : Bool :=
  let d := (s1 + 2 ^ 32 - s2 % 2 ^ 32) % 2 ^ 32
  1 ≤ d && d ≤ 2 ^ 31 - 1

/-- Byte i of a list, 0 beyond its end. -/
def u8At (b : List Byte) (i : Nat) : Nat := (b.getD i 0).toNat

/-- Little-endian halfword at byte i (R58). -/
def u16At (b : List Byte) (i : Nat) : Nat := u8At b i + 256 * u8At b (i + 1)

/-- Little-endian word at byte i (R58). -/
def u32At (b : List Byte) (i : Nat) : Nat := u16At b i + 65536 * u16At b (i + 2)

/-- The n low bytes of a number, least significant first. -/
def leBytes : Nat → Nat → List Byte
  | 0, _ => []
  | n + 1, v => BitVec.ofNat 8 v :: leBytes n (v / 256)

/-- The number whose bytes are b, least significant first. -/
def ofLe : List Byte → Nat
  | [] => 0
  | x :: r => x.toNat + 256 * ofLe r

/-- The number whose bytes are b, most significant first. -/
def ofBe (b : List Byte) : Nat := b.foldl (fun a x => a * 256 + x.toNat) 0

/-- The n low bytes of a number, most significant first. -/
def beBytes (n v : Nat) : List Byte := (leBytes n v).reverse

/-- The words of a byte list, little-endian, four bytes each. -/
def leWords (n : Nat) (b : List Byte) : List Nat := (List.range n).map fun i => u32At b (4 * i)

/-- Bytes lo to lo + n - 1 of a list. -/
def slice (b : List Byte) (lo n : Nat) : List Byte := (b.drop lo).take n

/-- The entry at place i of a list of numbers, 0 beyond its end. -/
def natAt (l : List Nat) (i : Nat) : Nat := l.getD i 0

/-- The indices at which a list of flags is true. -/
def trueAt (l : List Bool) : List Nat := (List.range l.length).filter fun i => l.getD i false

/-- Insert a number into a list without repeats. -/
def insertNat (l : List Nat) (x : Nat) : List Nat := if x ∈ l then l else x :: l

/-- A number put in its place in a rising list. -/
def insertUp (x : Nat) : List Nat → List Nat
  | [] => [x]
  | y :: r => if x ≤ y then x :: y :: r else y :: insertUp x r

/-- A list of numbers in rising order. -/
def sortUp (l : List Nat) : List Nat := l.foldr insertUp []

/-- A field of a calibration record, or its default when it is 0 (Table 13-4). -/
def orDefault (v d : Nat) : Nat := if v = 0 then d else v

/-- Population count of the low w bits. -/
def popCount (w n : Nat) : Nat := ((List.range w).filter (bit n)).length

end Sys2Proof.Machine
end

