-- ==== Sys2Proof/Machine/Crc.lean ====
section
/-! DEFINITION. The checksums of the spec: CRC-32 of R59 (IEEE 802.3, reflected) and the 8-bit CRC of two-wire packet error checking (R479). -/

namespace Sys2Proof.Machine

/-- One bit of the reflected CRC-32. -/
def crc32Bit (c : Nat) : Nat := if c % 2 = 1 then (c >>> 1) ^^^ 0xEDB88320 else c >>> 1

/-- One byte of the reflected CRC-32, on the running value. -/
def crc32Byte (c : Nat) (x : Byte) : Nat := Nat.repeat crc32Bit 8 (c ^^^ x.toNat)

/-- CRC-32 of a run of bytes under R59. -/
def crc32 (b : List Byte) : Nat := (b.foldl crc32Byte 0xFFFFFFFF) ^^^ 0xFFFFFFFF

/-- One bit of the CRC-8 with polynomial x^8 + x^2 + x + 1, most significant bit first. -/
def crc8Bit (c : Nat) : Nat := if c ≥ 128 then ((c <<< 1) % 256) ^^^ 0x07 else (c <<< 1) % 256

/-- CRC-8 of a run of bytes, initial value 0 (R479). -/
def crc8 (b : List Byte) : Nat := b.foldl (fun c x => Nat.repeat crc8Bit 8 (c ^^^ x.toNat)) 0

end Sys2Proof.Machine
end

