-- ==== Sys2Proof/Machine/P256.lean ====
section
/-! DEFINITION. ECDSA over P-256, the signature the spec names (R23, R83, R632). Curve and verification are those of FIPS 186-4
(PRESUMED: the spec names them and does not restate them, assumption 5). -/

namespace Sys2Proof.Machine

/-- The field prime of P-256. -/
def p256P : Nat := 0xffffffff00000001000000000000000000000000ffffffffffffffffffffffff

/-- The group order of P-256. -/
def p256N : Nat := 0xffffffff00000000ffffffffffffffffbce6faada7179e84f3b9cac2fc632551

/-- The curve coefficient b. -/
def p256B : Nat := 0x5ac635d8aa3a93e7b3ebbd55769886bc651d06b0cc53b0f63bce3c3e27d2604b

/-- The base point. -/
def p256Gx : Nat := 0x6b17d1f2e12c4247f8bce6e563a440f277037d812deb33a0f4a13945d898c296
/-- The base point. -/
def p256Gy : Nat := 0x4fe342e2fe1a7f9b8ee7eb4a7c0f9e162bce33576b315ececbb6406837bf51f5

/-- Subtraction modulo m. -/
def subMod (m a b : Nat) : Nat := (a + m - b % m) % m

/-- Power modulo m, over the low bits of the exponent. -/
def powMod (m : Nat) : Nat → Nat → Nat → Nat
  | 0, _, _ => 1
  | n + 1, b, e => let r := powMod m n (b * b % m) (e / 2); if e % 2 = 1 then b * r % m else r

/-- Inverse modulo a prime. -/
def invMod (m a : Nat) : Nat := powMod m 256 (a % m) (m - 2)

/-- A point in Jacobian coordinates; z = 0 is the point at infinity. -/
structure JPoint where
  x : Nat
  y : Nat
  z : Nat

/-- Point doubling. -/
def jDouble (q : JPoint) : JPoint :=
  let p := p256P
  if q.z = 0 ∨ q.y = 0 then ⟨1, 1, 0⟩ else
  let d := q.z * q.z % p
  let a := 3 * (subMod p q.x d * ((q.x + d) % p) % p) % p
  let g := q.y * q.y % p
  let b := q.x * g % p
  let x3 := subMod p (a * a % p) (8 * b % p)
  let z3 := 2 * q.y * q.z % p
  let y3 := subMod p (a * subMod p (4 * b % p) x3 % p) (8 * (g * g % p) % p)
  ⟨x3, y3, z3⟩

/-- Point addition. -/
def jAdd (q r : JPoint) : JPoint :=
  let p := p256P
  if q.z = 0 then r else if r.z = 0 then q else
  let z1 := q.z * q.z % p
  let z2 := r.z * r.z % p
  let u1 := q.x * z2 % p
  let u2 := r.x * z1 % p
  let s1 := q.y * r.z * z2 % p
  let s2 := r.y * q.z * z1 % p
  if u1 = u2 then (if s1 = s2 then jDouble q else ⟨1, 1, 0⟩) else
  let h := subMod p u2 u1
  let rr := subMod p s2 s1
  let h2 := h * h % p
  let h3 := h2 * h % p
  let v := u1 * h2 % p
  let x3 := subMod p (subMod p (rr * rr % p) h3) (2 * v % p)
  let y3 := subMod p (rr * subMod p v x3 % p) (s1 * h3 % p)
  ⟨x3, y3, h * q.z * r.z % p⟩

/-- Scalar multiple over the low n bits of k. -/
def jMul : Nat → Nat → JPoint → JPoint
  | 0, _, _ => ⟨1, 1, 0⟩
  | n + 1, k, q => let r := jMul n (k / 2) (jDouble q); if k % 2 = 1 then jAdd q r else r

/-- The affine x of a point. -/
def jX (q : JPoint) : Nat := let i := invMod p256P q.z; q.x * (i * i % p256P) % p256P

/-- The affine y of a point. -/
def jY (q : JPoint) : Nat := let i := invMod p256P q.z; q.y * (i * i % p256P * i % p256P) % p256P

/-- Is (x, y) a point of the curve? -/
def onCurve (x y : Nat) : Bool :=
  decide (x < p256P) && decide (y < p256P) &&
    y * y % p256P == (x * x % p256P * x + (p256P - 3) * x + p256B) % p256P

/-- ECDSA verification of a digest with a public key (x, y) and a signature (r, s). -/
def ecdsaVerify (x y : Nat) (digest : List Byte) (r s : Nat) : Bool :=
  let n := p256N
  if r = 0 ∨ s = 0 ∨ r ≥ n ∨ s ≥ n ∨ !onCurve x y then false else
  let e := ofBe digest % n
  let w := invMod n s
  let q := jAdd (jMul 256 (e * w % n) ⟨p256Gx, p256Gy, 1⟩) (jMul 256 (r * w % n) ⟨x, y, 1⟩)
  q.z != 0 && jX q % n == r

/-- The 28 ASCII bytes "SF-7300 BOOT-ROM DEVELOPMENT" (R701). -/
def bootRomPhrase : List Byte := "SF-7300 BOOT-ROM DEVELOPMENT".toList.map fun c => BitVec.ofNat 8 c.toNat

/-- The private scalar of the boot-ROM key (R701). -/
def bootRomScalar : Nat := ofBe (sha256 bootRomPhrase) % p256N

/-- The public point of the boot-ROM key (R701). -/
def bootRomPoint : JPoint := jMul 256 bootRomScalar ⟨p256Gx, p256Gy, 1⟩

end Sys2Proof.Machine
end

