-- ==== Sys2Proof/Machine/Pins.lean ====
section
/-! DEFINITION. The balls of the package and the functions each offers by ALT (R645, R646, R652-R655, Tables 20-1 to 20-7). -/

namespace Sys2Proof.Machine

/-- The functions PINS can give a multi-function ball (Tables 20-6 and 20-7). -/
inductive PinFn where
  | seqEn (n : Nat) | seqDis (n : Nat) | seqPg (n : Nat) | seqSw (n : Nat) | wake (n : Nat)
  | kbdDrv (n : Nat) | kbdSns (n : Nat) | kbdLed (n : Nat) | consTxd | consRxd | ppsIn
  | twScl (n : Nat) | twSda (n : Nat) | twAlert (n : Nat)
  | tcClk (n : Nat) | tcIn (n m : Nat) | tcOut (n m : Nat)
  | lmxCol (n : Nat) | lmxRow (n : Nat) | lmxSync | lchDo (n : Nat) | lchRet (n : Nat)
  deriving DecidableEq, Repr

/-- The function ball AOPn offers at an ALT (R652, Table 20-6). -/
def aopFn (n alt : Nat) : Option PinFn :=
  if n < 32 then (match alt with
    | 1 => some (.seqEn n) | 2 => some (.seqDis n) | 3 => some (.seqPg ((n + 16) % 32)) | _ => none)
  else if n < 40 then (match alt with | 1 => some (.wake (n - 32)) | 2 => some (.seqSw (n - 32)) | _ => none)
  else if n < 60 then (match alt with
    | 1 => some (.seqPg (n - 40)) | 2 => some (.seqSw (n - 40)) | 3 => some (.kbdDrv (n - 40)) | _ => none)
  else if n < 72 then (match alt with
    | 1 => some (.seqPg (n - 40)) | 2 => some (.seqSw (n - 40)) | 3 => some (.kbdSns (n - 60)) | _ => none)
  else if n < 76 then (match alt with
    | 1 => if n = 73 then some .consTxd else if n = 74 then some .consRxd else if n = 75 then some .ppsIn else none
    | 2 => some (.wake (n - 72)) | 3 => some (.kbdSns (12 + (n - 72))) | _ => none)
  else (match alt with
    | 2 => some (.wake (4 + (n - 76))) | 3 => if n < 79 then some (.kbdLed (n - 76)) else none | _ => none)

/-- The function ball GPAn offers at an ALT (R653, Table 20-7). -/
def gpaFn (n alt : Nat) : Option PinFn :=
  match alt with
  | 1 =>
    if n < 18 then (if n % 3 = 0 then some (.twScl (n / 3)) else if n % 3 = 1 then some (.twSda (n / 3))
      else some (.twAlert (n / 3)))
    else if n = 18 then some (.lchDo 3) else if n = 19 then some (.lchRet 3) else none
  | 2 =>
    if n < 16 then some (.tcClk n) else if n < 18 then some (.tcIn (n - 16) 0)
    else if n < 32 then some (.tcIn (n - 16) 0) else some (.tcOut (n - 32) 0)
  | 3 => if 16 ≤ n then some (.lmxCol (n - 16)) else none
  | _ => none

/-- The function ball GPBn offers at an ALT (R653, Table 20-7). -/
def gpbFn (n alt : Nat) : Option PinFn :=
  match alt with
  | 1 =>
    if n < 16 then some (.lmxRow n) else if n = 16 then some .lmxSync
    else if n < 23 then (if n % 2 = 1 then some (.lchDo ((n - 17) / 2)) else some (.lchRet ((n - 17) / 2)))
    else none
  | 2 =>
    if n < 8 then some (.tcOut (8 + n) 0) else if n < 16 then some (.tcIn (n - 8) 1) else some (.tcOut (n - 16) 1)
  | _ => none

/-- The function the ball of an index offers at an ALT above 0 (R646); a fixed-function ball offers none (R655). -/
def ballFn (ball alt : Nat) : Option PinFn :=
  if ball < 80 then aopFn ball alt
  else if ball < 120 then gpaFn (ball - 80) alt
  else if ball < 144 then gpbFn (ball - 120) alt
  else none

/-- What a ball that is not multi-function carries (R646-R649, Tables 20-1 to 20-4). -/
inductive FixedBall where
  | fanPwm (k : Nat) | fanTach (k : Nat)
  | dspRed (n : Nat) | dspGrn (n : Nat) | dspBlu (n : Nat) | dspPclk | dspHsync | dspVsync | dspDe
  | xspiClk | xspiCsN | xspiDqs | xspiResetN | xspiDq (n : Nat)
  | espiClk | espiCsN | espiIo (n : Nat) | espiAlertN | espiResetN
  | tck | tms | tdi | tdo | trstN | freezeN | pfailN | ledgerFaultN
  | xt32In | xt32Out | ain (n : Nat) | th (n : Nat) | thExc | rdP (n : Nat) | rdN (n : Nat) | vrefCap | rmon (n : Nat)
  | loopV (c : Nat) | loopDrv (c : Nat) | loopSns (c : Nat)
  | tap (x k : Nat) | bstGate | bstCs | bstFb
  | supply (name : String) | ground (name : String) | keepOut
  deriving DecidableEq, Repr

/-- The balls of rows L to P (Table 20-2), by row index and column. -/
def midBall (row col : Nat) : FixedBall :=
  if row = 10 then
    (if col = 1 then .espiClk else if col = 2 then .espiCsN else if col ≤ 6 then .espiIo (col - 3) else if col = 7 then .espiAlertN
    else if col = 8 then .espiResetN else if col % 2 = 0 then .ground "VSS"
    else if col < 12 then .supply "VIO_HOST" else if col < 18 then .supply "VIO_C" else .supply "VIO_A")
  else if row = 11 then
    (if col ≤ 8 then [FixedBall.tck, .tms, .tdi, .tdo, .trstN, .freezeN, .pfailN, .ledgerFaultN].getD (col - 1) .tck
    else if col % 2 = 1 then .ground "VSS" else if col < 15 then .supply "VDD33" else if col = 16 then .supply "VIO_A" else .supply "VIO_B")
  else if row = 12 then
    (if col = 1 then .xt32In else if col = 2 then .xt32Out else if col = 3 then .supply "VBAT" else if col ≤ 6 then .supply "VIN_AO"
    else if col ≤ 8 then .supply "VHOLD" else if col = 10 then .supply "VCORE"
    else if col = 12 || col = 14 || col = 16 then .supply "VDD33" else if col = 19 then .supply "AVDD" else .ground "VSS")
  else if col = 10 then .supply "VCORE" else .ground "VSS"

/-- The balls of the analogue region (Table 20-3), columns 1 to 11 of rows T to AA. -/
def analogBall (row col : Nat) : FixedBall :=
  match row with
  | 14 => .ain (col - 1)
  | 15 => if col ≤ 5 then .ain (10 + col) else if col = 6 then .ground "AGND" else .th (col - 7)
  | 16 => if col ≤ 3 then .th (col + 4) else if col = 4 then .thExc else if col = 5 || col = 10 then .ground "AGND" else if col = 11 then .vrefCap
    else if col % 2 = 0 then .rdP ((col - 6) / 2) else .rdN ((col - 7) / 2)
  | 17 => if col = 5 then .ground "AGND" else if 6 ≤ col then .rmon (col - 6)
    else if col % 2 = 1 then .rdP (2 + (col - 1) / 2) else .rdN (2 + (col - 2) / 2)
  | 18 => if col = 11 then .ground "AGND" else .rmon (col + 5)
  | _ => [FixedBall.supply "AVDD", .ground "AGND", .ground "AGND", .loopV 0, .loopDrv 0, .loopSns 0, .ground "AGND", .loopV 1, .loopDrv 1,
      .loopSns 1, .supply "AVDD"].getD (col - 1) (.supply "AVDD")

/-- The balls of the high-voltage corner (Table 20-4), columns 13 to 20 of rows U to AA. -/
def cornerBall (row col : Nat) : FixedBall :=
  let x := (col - 13) % 4
  let left := decide (col < 17)
  match row with
  | 15 => if left then .tap x 8 else [FixedBall.bstGate, .bstCs, .ground "LGND", .bstFb].getD x .bstGate
  | 16 => .tap x (if left then 6 else 7)
  | 17 => .tap x (if left then 5 else 2)
  | 18 => .tap x (if left then 4 else 1)
  | _ => .tap x (if left then 3 else 0)

/-- What a ball of an index from 144 on carries; none for a multi-function ball or no ball. -/
def fixedBall (ball : Nat) : Option FixedBall :=
  let row := ball / 20
  let col := ball % 20 + 1
  if ball < 144 || 400 ≤ ball then none
  else some (
    if ball < 160 then (if ball % 2 = 0 then .fanPwm ((ball - 144) / 2) else .fanTach ((ball - 144) / 2))
    else if ball < 168 then .dspRed (ball - 160)
    else if ball < 176 then .dspGrn (ball - 168)
    else if ball < 184 then .dspBlu (ball - 176)
    else if ball < 192 then [FixedBall.dspPclk, .dspHsync, .dspVsync, .dspDe, .xspiClk, .xspiCsN, .xspiDqs, .xspiResetN].getD (ball - 184) .dspPclk
    else if ball < 200 then .xspiDq (ball - 192)
    else if row < 14 then midBall row col
    else if row = 14 then (if col ≤ 11 then analogBall row col else .keepOut)
    else if col ≤ 11 then analogBall row col
    else if col = 12 then .keepOut
    else cornerBall row col)

/-- The keep-out, supply and ground balls, which no PINS entry may name (R655, Tables 20-2 to 20-4). -/
def noPinsBall (ball : Nat) : Bool :=
  let row := ball / 20
  let col := ball % 20 + 1
  match row with
  | 10 => decide (9 ≤ col)
  | 11 => decide (9 ≤ col)
  | 12 => decide (3 ≤ col)
  | 13 => true
  | 14 => decide (12 ≤ col)
  | 15 => decide (col = 6) || decide (col = 12) || decide (col = 19)
  | 16 => decide (col = 5) || decide (col = 10) || decide (col = 11) || decide (col = 12)
  | 17 => decide (col = 5) || decide (col = 12)
  | 18 => decide (col = 11) || decide (col = 12)
  | 19 => decide (col = 1) || decide (col = 2) || decide (col = 3) || decide (col = 7) || decide (col = 11)
          || decide (col = 12)
  | _ => false

end Sys2Proof.Machine
end

