-- ==== Sys2Proof/Machine/RegFile.lean ====
section
/-! DEFINITION. The register file as plain data, the shape of a register's description, and reading and writing a field.
A register word is listed under its address; an address that is not listed reads 0, as R18 gives for an address
with no register. The list is canonical: addresses strictly rise and no listed word is 0. -/

namespace Sys2Proof.Machine

/-- A field of a register: the register's address and the field's bits [hi:lo]. -/
structure Fld where
  reg : Nat
  hi : Nat
  lo : Nat
  deriving DecidableEq, Repr

/-- The access codes of Table 00-6. -/
inductive Acc where
  | rw | ro | w1c | w1p | rwl | rs | wo
  deriving DecidableEq, Repr

/-- One field of a register table: bits [hi:lo], access code, reset value, whether the reset value is L (R8),
and the mask of the reset kinds of its Cleared by column (R9). -/
structure FieldDesc where
  hi : Nat
  lo : Nat
  acc : Acc
  rst : Nat
  isL : Bool
  clr : Nat
  deriving DecidableEq, Repr

/-- One register table entry: base address, how often and at which strides it repeats, and its fields. -/
structure RegDesc where
  base : Nat
  step1 : Nat
  count1 : Nat
  step2 : Nat
  count2 : Nat
  fields : List FieldDesc
  deriving DecidableEq, Repr

/-- The register words that are not 0, by rising address. -/
abbrev RegFile := List (Nat × Word)

/-- The word of the register at an address. -/
def rfGet (r : RegFile) (a : Nat) : Word :=
  match r with
  | [] => 0
  | (b, w) :: t => if b = a then w else rfGet t a

/-- The register file with one word replaced, in canonical form. -/
def rfSet (r : RegFile) (a : Nat) (w : Word) : RegFile :=
  r.filter (fun p => decide (p.1 < a)) ++ (if w = 0 then [] else [(a, w)]) ++ r.filter (fun p => decide (a < p.1))

/-- Addresses strictly rise. -/
def rfSorted : RegFile → Bool
  | (a, _) :: (b, x) :: t => decide (a < b) && rfSorted ((b, x) :: t)
  | _ => true

/-- The canonical form of the register file: addresses strictly rise and no listed word is 0. -/
def RegFile.wf (r : RegFile) : Bool := rfSorted r && r.all fun p => p.2 != 0

/-- The field's value in a word. -/
def Fld.get (f : Fld) (w : Word) : Nat := bits w.toNat f.hi f.lo

/-- The word with the field replaced. -/
def Fld.set (f : Fld) (w : Word) (v : Nat) : Word := BitVec.ofNat 32 (setBits w.toNat f.hi f.lo v)

/-- Does the register described stand at this address, in one of its places? -/
def RegDesc.covers (d : RegDesc) (a : Nat) : Bool :=
  (List.range d.count1).any fun i => (List.range d.count2).any fun j => a == d.base + d.step1 * i + d.step2 * j

/-- The description of the register at an address, if the block has one there. -/
def findReg : List RegDesc → Nat → Option RegDesc
  | [], _ => none
  | d :: t, a => if a < d.base then findReg t a else if d.covers a then some d else findReg t a

end Sys2Proof.Machine
end

