-- ==== Sys2Proof/Machine/RegTable.lean ====
section
/-! DEFINITION. The register table: for every register of the Registers sections its base address, how it repeats,
and for every field its bits, its access code (Table 00-6), its reset value, whether that value is L (taken from the
block's till, with the value here when no REGSET entry gives one: R8, R81), and the reset kinds of its Cleared by
column (R9) as a mask: POR 1, BOR 2, WDR 4, LDR 8, SWR 16, HRST 32. One list per register block of R317. -/

namespace Sys2Proof.Machine


/-- The registers of block 0. -/
def regsBlock0 : List RegDesc := [
  ⟨0x40000000, 0x0, 1, 0x0, 1, [⟨28, 24, .ro, 0, false, 1⟩, ⟨7, 7, .w1c, 0, false, 1⟩, ⟨6, 6, .w1c, 0, false, 1⟩, ⟨5, 5, .w1c, 0, false, 1⟩, ⟨4, 4, .w1c, 0, false, 1⟩, ⟨3, 3, .w1c, 0, false, 1⟩, ⟨2, 2, .w1c, 0, false, 1⟩, ⟨1, 1, .w1c, 0, false, 1⟩, ⟨0, 0, .w1c, 1, false, 1⟩]⟩,  -- AO_RESET_CAUSE
  ⟨0x40000004, 0x0, 1, 0x0, 1, [⟨31, 28, .ro, 0, false, 15⟩, ⟨27, 24, .ro, 0, false, 15⟩, ⟨23, 23, .ro, 0, false, 15⟩, ⟨22, 22, .ro, 0, false, 15⟩, ⟨17, 17, .ro, 0, false, 15⟩, ⟨16, 16, .ro, 0, false, 15⟩, ⟨15, 12, .ro, 0, false, 15⟩, ⟨11, 8, .ro, 0, false, 15⟩, ⟨7, 7, .ro, 0, false, 15⟩, ⟨1, 1, .ro, 0, false, 15⟩, ⟨0, 0, .ro, 0, false, 15⟩]⟩,  -- AO_FL_STATUS
  ⟨0x40000008, 0x0, 1, 0x0, 1, [⟨31, 16, .ro, 0, false, 15⟩, ⟨15, 0, .ro, 0, false, 15⟩]⟩,  -- AO_FL_TIME
  ⟨0x4000000C, 0x0, 1, 0x0, 1, [⟨15, 0, .ro, 0, false, 15⟩]⟩,  -- AO_FL_TFW
  ⟨0x40000010, 0x0, 1, 0x0, 1, [⟨31, 24, .w1p, 0, false, 0⟩, ⟨23, 0, .w1p, 0, false, 0⟩]⟩,  -- AO_SWR
  ⟨0x40000014, 0x0, 1, 0x0, 1, [⟨31, 24, .w1p, 0, false, 0⟩, ⟨1, 1, .w1p, 0, false, 0⟩, ⟨0, 0, .w1p, 0, false, 0⟩]⟩,  -- AO_LDR
  ⟨0x40000100, 0x0, 1, 0x0, 1, [⟨21, 16, .ro, 0, false, 0⟩, ⟨11, 8, .ro, 0, false, 5⟩, ⟨7, 7, .w1c, 0, false, 13⟩, ⟨6, 6, .ro, 0, false, 13⟩, ⟨5, 5, .ro, 0, false, 5⟩, ⟨4, 4, .w1c, 0, false, 5⟩, ⟨3, 3, .ro, 0, false, 15⟩, ⟨2, 2, .ro, 0, false, 15⟩, ⟨1, 1, .ro, 0, false, 15⟩, ⟨0, 0, .ro, 0, false, 15⟩]⟩,  -- LGR_STATUS
  ⟨0x40000104, 0x0, 1, 0x0, 1, [⟨31, 0, .ro, 0, false, 15⟩]⟩,  -- LGR_A_SERIAL
  ⟨0x40000108, 0x0, 1, 0x0, 1, [⟨31, 0, .ro, 0, false, 15⟩]⟩,  -- LGR_B_SERIAL
  ⟨0x4000010C, 0x0, 1, 0x0, 1, [⟨23, 16, .ro, 255, false, 15⟩, ⟨15, 0, .ro, 65535, false, 15⟩]⟩,  -- LGR_A_DETAIL
  ⟨0x40000110, 0x0, 1, 0x0, 1, [⟨23, 16, .ro, 255, false, 15⟩, ⟨15, 0, .ro, 65535, false, 15⟩]⟩,  -- LGR_B_DETAIL
  ⟨0x40000114, 0x0, 1, 0x0, 1, [⟨31, 24, .w1p, 0, false, 0⟩, ⟨1, 1, .rw, 0, false, 15⟩, ⟨0, 0, .rw, 0, false, 15⟩]⟩,  -- LGR_WR_CTRL
  ⟨0x40000118, 0x0, 1, 0x0, 1, [⟨15, 2, .rw, 0, false, 15⟩]⟩,  -- LGR_WR_ADDR
  ⟨0x4000011C, 0x0, 1, 0x0, 1, [⟨31, 0, .rw, 0, false, 0⟩]⟩,  -- LGR_WR_DATA
  ⟨0x40000120, 0x0, 1, 0x0, 1, [⟨1, 1, .rw, 0, false, 5⟩, ⟨0, 0, .w1p, 0, false, 0⟩]⟩,  -- LGR_CHECK
  ⟨0x40000124, 0x0, 1, 0x0, 1, [⟨15, 0, .rs, 0, false, 5⟩]⟩,  -- LGR_COINCIDE
  ⟨0x40000200, 0x0, 1, 0x0, 1, [⟨31, 24, .w1p, 0, false, 0⟩, ⟨23, 16, .w1p, 0, false, 0⟩, ⟨13, 8, .w1p, 0, false, 0⟩, ⟨0, 0, .w1p, 0, false, 0⟩]⟩,  -- TIL_RECON
  ⟨0x40000204, 0x0, 1, 0x0, 1, [⟨27, 24, .ro, 0, false, 13⟩, ⟨21, 16, .ro, 0, false, 13⟩, ⟨3, 3, .w1c, 0, false, 13⟩, ⟨2, 2, .w1c, 0, false, 13⟩, ⟨1, 1, .ro, 0, false, 13⟩, ⟨0, 0, .ro, 0, false, 13⟩]⟩,  -- TIL_STATUS
  ⟨0x40000208, 0x0, 1, 0x0, 1, [⟨31, 0, .w1c, 0, false, 13⟩]⟩,  -- TIL_DIV_LO
  ⟨0x4000020C, 0x0, 1, 0x0, 1, [⟨15, 0, .w1c, 0, false, 13⟩]⟩,  -- TIL_DIV_HI
  ⟨0x40000210, 0x0, 1, 0x0, 1, [⟨31, 0, .ro, 0, false, 13⟩]⟩,  -- TIL_NOW_LO
  ⟨0x40000214, 0x0, 1, 0x0, 1, [⟨15, 0, .ro, 0, false, 13⟩]⟩,  -- TIL_NOW_HI
  ⟨0x40000218, 0x0, 1, 0x0, 1, [⟨5, 0, .rw, 0, false, 5⟩]⟩,  -- TIL_CRC_SEL
  ⟨0x4000021C, 0x0, 1, 0x0, 1, [⟨31, 0, .ro, 0, false, 15⟩]⟩,  -- TIL_CRC
  ⟨0x40000220, 0x0, 1, 0x0, 1, [⟨15, 0, .rs, 0, false, 5⟩]⟩,  -- TIL_COINCIDE
  ⟨0x40000224, 0x0, 1, 0x0, 1, [⟨15, 0, .ro, 65535, false, 13⟩]⟩,  -- TIL_DETAIL
  ⟨0x40000300, 0x0, 1, 0x0, 1, [⟨31, 24, .w1p, 0, false, 0⟩, ⟨23, 0, .w1p, 0, false, 0⟩]⟩,  -- PWR_SET
  ⟨0x40000304, 0x0, 1, 0x0, 1, [⟨31, 24, .w1p, 0, false, 0⟩, ⟨23, 0, .w1p, 0, false, 0⟩]⟩,  -- PWR_CLR
  ⟨0x40000308, 0x0, 1, 0x0, 1, [⟨23, 0, .ro, 0, true, 13⟩]⟩,  -- PWR_STATUS
  ⟨0x4000030C, 0x0, 1, 0x0, 1, [⟨23, 0, .ro, 0, false, 13⟩]⟩,  -- PWR_TRANS
  ⟨0x40000310, 0x0, 1, 0x0, 1, [⟨31, 31, .w1c, 0, false, 5⟩, ⟨23, 0, .w1c, 0, false, 5⟩]⟩,  -- PWR_FAIL
  ⟨0x40000314, 0x0, 1, 0x0, 1, [⟨31, 24, .w1p, 0, false, 0⟩, ⟨19, 16, .w1p, 0, false, 0⟩, ⟨15, 8, .w1p, 0, false, 0⟩, ⟨0, 0, .w1p, 0, false, 0⟩]⟩,  -- PWR_STOP
  ⟨0x40000318, 0x0, 1, 0x0, 1, [⟨31, 28, .ro, 0, false, 5⟩, ⟨27, 16, .ro, 0, false, 5⟩, ⟨15, 8, .ro, 0, false, 5⟩, ⟨7, 7, .ro, 0, false, 5⟩, ⟨6, 0, .ro, 0, false, 1⟩]⟩,  -- PWR_STOP_STAT
  ⟨0x4000031C, 0x0, 1, 0x0, 1, [⟨18, 18, .ro, 1, false, 5⟩, ⟨17, 17, .ro, 1, false, 5⟩, ⟨16, 16, .ro, 1, false, 5⟩, ⟨15, 8, .rw, 0, false, 5⟩, ⟨6, 6, .rw, 0, false, 5⟩, ⟨5, 5, .rw, 0, false, 5⟩, ⟨4, 4, .rw, 0, false, 5⟩, ⟨3, 3, .rw, 0, false, 5⟩, ⟨2, 2, .rw, 0, false, 5⟩, ⟨1, 1, .rw, 0, false, 5⟩, ⟨0, 0, .rw, 0, false, 5⟩]⟩,  -- PWR_WAKE_EN
  ⟨0x40000320, 0x0, 1, 0x0, 1, [⟨18, 18, .w1c, 0, false, 5⟩, ⟨17, 17, .w1c, 0, false, 5⟩, ⟨16, 16, .w1c, 0, false, 5⟩, ⟨15, 8, .w1c, 0, false, 5⟩, ⟨6, 6, .w1c, 0, false, 5⟩, ⟨5, 5, .w1c, 0, false, 5⟩, ⟨4, 4, .w1c, 0, false, 5⟩, ⟨3, 3, .w1c, 0, false, 5⟩, ⟨2, 2, .w1c, 0, false, 5⟩, ⟨1, 1, .w1c, 0, false, 5⟩, ⟨0, 0, .w1c, 0, false, 5⟩]⟩,  -- PWR_WAKE_CAUSE
  ⟨0x40000324, 0x0, 1, 0x0, 1, [⟨23, 0, .rw, 0, true, 13⟩]⟩,  -- PWR_WAKE_ON
  ⟨0x40000328, 0x0, 1, 0x0, 1, [⟨31, 2, .rw, 0, false, 5⟩]⟩,  -- PWR_VEC_A
  ⟨0x4000032C, 0x0, 1, 0x0, 1, [⟨31, 2, .rw, 0, false, 5⟩]⟩,  -- PWR_VEC_B
  ⟨0x40000330, 0x0, 1, 0x0, 1, [⟨31, 0, .ro, 0, false, 5⟩]⟩,  -- PWR_STOP_TICKS_LO
  ⟨0x40000334, 0x0, 1, 0x0, 1, [⟨15, 0, .ro, 0, false, 5⟩]⟩,  -- PWR_STOP_TICKS_HI
  ⟨0x40000338, 0x0, 1, 0x0, 1, [⟨15, 0, .rs, 0, false, 5⟩]⟩,  -- PWR_COINCIDE
  ⟨0x4000033C, 0x0, 1, 0x0, 1, [⟨31, 31, .ro, 0, false, 1⟩, ⟨30, 30, .ro, 0, false, 1⟩, ⟨29, 29, .ro, 0, false, 3⟩, ⟨11, 0, .ro, 0, false, 1⟩]⟩,  -- CLK_STATUS
  ⟨0x40000400, 0x0, 1, 0x0, 1, [⟨31, 31, .ro, 1, false, 1⟩, ⟨30, 30, .ro, 0, false, 7⟩, ⟨22, 16, .ro, 0, false, 1⟩, ⟨4, 0, .ro, 1, false, 1⟩]⟩,  -- FAN_SAFE_STAT
  ⟨0x40000404, 0x0, 1, 0x0, 1, [⟨31, 31, .rw, 0, true, 13⟩, ⟨23, 16, .rw, 0, true, 13⟩, ⟨7, 0, .rw, 0, true, 13⟩]⟩,  -- FAN_SAFE_CFG
  ⟨0x40000408, 0x0, 1, 0x0, 1, [⟨31, 24, .w1p, 0, false, 0⟩]⟩,  -- FAN_SAFE_HB
  ⟨0x4000040C, 0x0, 1, 0x0, 1, [⟨31, 24, .w1p, 0, false, 0⟩, ⟨1, 1, .w1p, 0, false, 0⟩, ⟨0, 0, .w1p, 0, false, 0⟩]⟩,  -- FAN_SAFE_CMD
  ⟨0x40000410, 0x0, 1, 0x0, 1, [⟨15, 0, .rs, 0, false, 5⟩]⟩,  -- FAN_COINCIDE
  ⟨0x40000020, 0x0, 1, 0x0, 1, [⟨31, 31, .ro, 0, false, 1⟩, ⟨30, 30, .w1c, 0, false, 1⟩, ⟨7, 7, .ro, 0, false, 1⟩, ⟨6, 6, .ro, 0, false, 1⟩, ⟨5, 5, .ro, 0, false, 1⟩, ⟨4, 4, .ro, 0, false, 1⟩, ⟨3, 3, .ro, 0, false, 1⟩, ⟨2, 2, .ro, 0, false, 1⟩, ⟨1, 1, .ro, 0, false, 1⟩, ⟨0, 0, .ro, 0, false, 1⟩]⟩]  -- AO_PAD_STAT

/-- The registers of block 1. -/
def regsBlock1 : List RegDesc := [
  ⟨0x40010000, 0x0, 1, 0x0, 1, [⟨31, 28, .ro, 0, false, 31⟩, ⟨24, 24, .w1c, 0, false, 31⟩, ⟨23, 23, .ro, 0, false, 31⟩, ⟨22, 22, .ro, 0, false, 31⟩, ⟨21, 21, .ro, 0, false, 1⟩, ⟨20, 20, .ro, 0, false, 31⟩, ⟨19, 19, .ro, 0, false, 31⟩, ⟨18, 18, .w1c, 0, false, 31⟩, ⟨17, 17, .w1c, 0, false, 31⟩, ⟨16, 16, .w1c, 0, false, 31⟩, ⟨10, 0, .ro, 0, false, 31⟩]⟩,  -- VLT_STATUS
  ⟨0x40010004, 0x0, 1, 0x0, 1, [⟨31, 28, .ro, 0, false, 15⟩, ⟨27, 26, .ro, 0, false, 15⟩, ⟨25, 24, .ro, 0, false, 15⟩, ⟨0, 0, .ro, 0, false, 15⟩]⟩,  -- VLT_START
  ⟨0x40010008, 0x0, 1, 0x0, 1, [⟨31, 0, .ro, 0, false, 15⟩]⟩,  -- VLT_SERIAL
  ⟨0x4001000C, 0x0, 1, 0x0, 1, [⟨31, 0, .ro, 0, false, 15⟩]⟩,  -- VLT_FAILED_SERIAL
  ⟨0x40010010, 0x0, 1, 0x0, 1, [⟨31, 24, .w1p, 0, false, 0⟩, ⟨23, 16, .w1p, 0, false, 0⟩, ⟨0, 0, .w1p, 0, false, 0⟩]⟩,  -- VLT_COMMIT
  ⟨0x40010014, 0x0, 1, 0x0, 1, [⟨31, 0, .w1p, 0, false, 0⟩]⟩,  -- VLT_DRAFT_DATA
  ⟨0x40010018, 0x0, 1, 0x0, 1, [⟨0, 0, .w1p, 0, false, 0⟩]⟩,  -- VLT_DRAFT_CTL
  ⟨0x4001001C, 0x0, 1, 0x0, 1, [⟨15, 0, .rw, 0, false, 31⟩]⟩,  -- VLT_FIND
  ⟨0x40010020, 0x0, 1, 0x0, 1, [⟨31, 31, .ro, 0, false, 31⟩, ⟨30, 30, .ro, 0, false, 31⟩, ⟨29, 24, .ro, 0, false, 31⟩, ⟨15, 0, .ro, 0, false, 31⟩]⟩,  -- VLT_FOUND
  ⟨0x40010028, 0x0, 1, 0x0, 1, [⟨31, 0, .rw, 0, false, 31⟩]⟩,  -- VLT_LOG_D0
  ⟨0x4001002C, 0x0, 1, 0x0, 1, [⟨31, 0, .rw, 0, false, 31⟩]⟩,  -- VLT_LOG_D1
  ⟨0x40010030, 0x0, 1, 0x0, 1, [⟨31, 0, .rw, 0, false, 31⟩]⟩,  -- VLT_LOG_D2
  ⟨0x40010034, 0x0, 1, 0x0, 1, [⟨7, 0, .w1p, 0, false, 0⟩]⟩,  -- VLT_LOG
  ⟨0x40010038, 0x0, 1, 0x0, 1, [⟨20, 16, .ro, 0, false, 1⟩, ⟨8, 0, .ro, 0, false, 15⟩]⟩,  -- VLT_DAYBOOK
  ⟨0x4001003C, 0x0, 1, 0x0, 1, [⟨31, 0, .ro, 0, false, 1⟩]⟩,  -- VLT_COMMITS
  ⟨0x40010040, 0x0, 1, 0x0, 1, [⟨15, 0, .rs, 0, false, 1⟩]⟩,  -- VLT_LOST
  ⟨0x40010044, 0x0, 1, 0x0, 1, [⟨15, 0, .rs, 0, false, 5⟩]⟩]  -- VLT_COINCIDE

/-- The registers of block 2. -/
def regsBlock2 : List RegDesc := [
  ⟨0x40020000, 0x0, 1, 0x0, 1, [⟨31, 31, .ro, 0, false, 31⟩, ⟨30, 30, .w1c, 0, false, 31⟩, ⟨29, 26, .ro, 0, false, 31⟩, ⟨25, 25, .ro, 0, false, 31⟩, ⟨24, 24, .w1c, 0, false, 31⟩, ⟨23, 23, .w1c, 0, false, 31⟩, ⟨22, 21, .ro, 0, false, 31⟩]⟩,  -- SEAL_STATUS
  ⟨0x40020004, 0x0, 1, 0x0, 1, [⟨31, 24, .w1p, 0, false, 0⟩, ⟨11, 8, .w1p, 0, false, 0⟩, ⟨1, 1, .w1p, 0, false, 0⟩, ⟨0, 0, .w1p, 0, false, 0⟩]⟩,  -- SEAL_CMD
  ⟨0x40020008, 0x0, 1, 0x0, 1, [⟨10, 8, .rw, 0, false, 31⟩, ⟨4, 4, .rw, 0, false, 31⟩, ⟨3, 3, .rw, 0, false, 31⟩, ⟨1, 0, .rw, 0, false, 31⟩]⟩,  -- SEAL_CFG
  ⟨0x4002000C, 0x0, 1, 0x0, 1, [⟨31, 0, .rw, 0, false, 31⟩]⟩,  -- SEAL_SRC
  ⟨0x40020010, 0x0, 1, 0x0, 1, [⟨31, 0, .rw, 0, false, 31⟩]⟩,  -- SEAL_DST
  ⟨0x40020014, 0x0, 1, 0x0, 1, [⟨23, 0, .rw, 0, false, 31⟩]⟩,  -- SEAL_LEN
  ⟨0x40020018, 0x0, 1, 0x0, 1, [⟨31, 0, .rs, 0, false, 31⟩]⟩,  -- SEAL_RNG
  ⟨0x4002001C, 0x0, 1, 0x0, 1, [⟨15, 0, .ro, 0, false, 0⟩]⟩,  -- SEAL_KS_STAT
  ⟨0x40020020, 0x4, 4, 0x0, 1, [⟨31, 0, .rw, 0, false, 31⟩]⟩,  -- SEAL_IV_i
  ⟨0x40020040, 0x4, 8, 0x0, 1, [⟨31, 0, .rw, 0, false, 31⟩]⟩,  -- SEAL_DIGEST_i
  ⟨0x40020060, 0x4, 8, 0x0, 1, [⟨31, 0, .wo, 0, false, 31⟩]⟩,  -- SEAL_KEY_i
  ⟨0x40020080, 0x4, 32, 0x0, 1, [⟨31, 0, .rw, 0, false, 31⟩]⟩]  -- SEAL_OPND_i

/-- The registers of block 3. -/
def regsBlock3 : List RegDesc := [
  ⟨0x40030000, 0x40, 8, 0x0, 1, [⟨31, 24, .rw, 50, true, 31⟩, ⟨23, 16, .rw, 0, true, 31⟩, ⟨9, 9, .rw, 0, true, 31⟩, ⟨8, 8, .rw, 0, true, 31⟩, ⟨7, 7, .rw, 0, true, 31⟩, ⟨6, 6, .rw, 0, true, 31⟩, ⟨5, 4, .rw, 1, true, 31⟩, ⟨2, 0, .rw, 1, true, 31⟩]⟩,  -- FAN_CFG_n
  ⟨0x40030004, 0x40, 8, 0x0, 1, [⟨25, 16, .rw, 1000, true, 31⟩, ⟨15, 10, .rw, 0, true, 31⟩, ⟨9, 0, .rw, 0, true, 31⟩]⟩,  -- FAN_LIMIT_n
  ⟨0x40030008, 0x40, 8, 0x0, 1, [⟨31, 16, .rw, 0, true, 31⟩, ⟨15, 0, .rw, 1000, true, 31⟩]⟩,  -- FAN_SET_n
  ⟨0x4003000C, 0x40, 8, 0x0, 1, [⟨31, 24, .rw, 0, true, 31⟩, ⟨23, 16, .rw, 0, true, 31⟩, ⟨15, 12, .rw, 0, true, 31⟩, ⟨11, 0, .rw, 0, true, 31⟩]⟩,  -- FAN_PI_n
  ⟨0x40030010, 0x40, 8, 0x0, 1, [⟨31, 0, .rw, 4294967295, true, 31⟩]⟩,  -- FAN_SRC_n
  ⟨0x40030014, 0x40, 8, 0x0, 1, [⟨31, 31, .ro, 0, false, 31⟩, ⟨30, 30, .ro, 0, false, 31⟩, ⟨29, 29, .ro, 0, false, 31⟩, ⟨28, 28, .w1c, 0, false, 31⟩, ⟨27, 27, .ro, 0, false, 31⟩, ⟨26, 26, .w1c, 0, false, 31⟩, ⟨25, 25, .ro, 0, false, 31⟩, ⟨9, 0, .ro, 0, false, 31⟩]⟩,  -- FAN_STAT_n
  ⟨0x40030018, 0x40, 8, 0x0, 1, [⟨31, 31, .ro, 0, false, 31⟩, ⟨15, 0, .ro, 0, false, 31⟩]⟩,  -- FAN_RPM_n
  ⟨0x4003001C, 0x40, 8, 0x0, 1, [⟨30, 30, .ro, 0, false, 31⟩, ⟨28, 28, .ro, 0, false, 31⟩, ⟨15, 0, .ro, 2400, false, 31⟩]⟩,  -- FAN_TEMP_n
  ⟨0x40030020, 0x40, 8, 0x0, 1, [⟨31, 31, .ro, 0, false, 31⟩, ⟨30, 30, .ro, 0, false, 31⟩, ⟨29, 29, .ro, 0, false, 31⟩, ⟨28, 28, .ro, 0, false, 31⟩, ⟨15, 0, .ro, 0, false, 31⟩]⟩,  -- FAN_AGE_n
  ⟨0x40030200, 0x20, 8, 0x4, 8, [⟨31, 16, .rw, 0, true, 31⟩, ⟨9, 0, .rw, 0, true, 31⟩]⟩,  -- FAN_TBL_n_i
  ⟨0x40030400, 0x0, 1, 0x0, 1, [⟨31, 24, .w1p, 0, false, 0⟩, ⟨10, 8, .w1p, 0, false, 0⟩, ⟨1, 1, .w1p, 0, false, 0⟩, ⟨0, 0, .w1p, 0, false, 0⟩]⟩,  -- FAN_LEARN
  ⟨0x40030404, 0x0, 1, 0x0, 1, [⟨31, 31, .ro, 0, false, 31⟩, ⟨30, 30, .w1c, 0, false, 31⟩, ⟨29, 27, .ro, 0, false, 31⟩, ⟨26, 24, .ro, 0, false, 31⟩, ⟨23, 20, .ro, 0, false, 31⟩]⟩,  -- FAN_LEARN_STAT
  ⟨0x40030408, 0x0, 1, 0x0, 1, [⟨31, 16, .rw, 1300, true, 31⟩, ⟨15, 0, .rw, 1150, true, 31⟩]⟩,  -- FAN_AGE_CFG
  ⟨0x4003040C, 0x0, 1, 0x0, 1, [⟨25, 16, .rw, 300, true, 31⟩, ⟨7, 0, .rw, 0, true, 31⟩]⟩]  -- FAN_LEARN_CFG

/-- The registers of block 4. -/
def regsBlock4 : List RegDesc := [
  ⟨0x40040000, 0x0, 1, 0x0, 1, [⟨31, 29, .ro, 0, false, 63⟩, ⟨28, 27, .ro, 0, false, 63⟩, ⟨26, 26, .ro, 0, false, 63⟩, ⟨25, 25, .ro, 0, false, 63⟩, ⟨24, 24, .ro, 0, false, 63⟩, ⟨23, 21, .ro, 0, false, 63⟩]⟩,  -- HST_LINK
  ⟨0x40040004, 0x0, 1, 0x0, 1, [⟨8, 8, .rw, 1, true, 63⟩, ⟨7, 7, .rw, 0, true, 63⟩, ⟨6, 6, .rw, 1, true, 63⟩, ⟨5, 5, .rw, 1, true, 63⟩, ⟨4, 4, .rw, 1, true, 63⟩, ⟨2, 0, .rw, 4, true, 63⟩]⟩,  -- HST_CAP_CFG
  ⟨0x40040008, 0x0, 1, 0x0, 1, [⟨31, 31, .ro, 0, false, 63⟩, ⟨30, 30, .ro, 0, false, 63⟩, ⟨29, 29, .ro, 0, false, 63⟩, ⟨28, 26, .ro, 0, false, 63⟩, ⟨25, 23, .ro, 0, false, 63⟩]⟩,  -- HST_STATUS
  ⟨0x4004000C, 0x0, 1, 0x0, 1, [⟨6, 6, .w1c, 0, false, 63⟩, ⟨5, 5, .w1c, 0, false, 63⟩, ⟨4, 4, .w1c, 0, false, 63⟩, ⟨3, 3, .w1c, 0, false, 63⟩, ⟨2, 2, .w1c, 0, false, 63⟩, ⟨1, 1, .w1c, 0, false, 63⟩, ⟨0, 0, .w1c, 0, false, 63⟩]⟩,  -- HST_ERR
  ⟨0x40040010, 0x0, 1, 0x0, 1, [⟨15, 0, .rs, 0, false, 63⟩]⟩,  -- HST_COINCIDE
  ⟨0x40040020, 0x0, 1, 0x0, 1, [⟨9, 0, .ro, 0, false, 63⟩]⟩,  -- HST_VW_OUT
  ⟨0x40040024, 0x0, 1, 0x0, 1, [⟨9, 0, .ro, 0, false, 63⟩]⟩,  -- HST_VW_IN
  ⟨0x40040028, 0x0, 1, 0x0, 1, [⟨31, 0, .ro, 0, false, 63⟩]⟩,  -- HST_VW_GEN
  ⟨0x40040040, 0x4, 8, 0x0, 1, [⟨8, 8, .rw, 0, true, 63⟩, ⟨7, 0, .rw, 0, true, 63⟩]⟩,  -- HST_VWG_g
  ⟨0x40040080, 0x0, 1, 0x0, 1, [⟨26, 26, .w1c, 0, false, 63⟩, ⟨25, 24, .ro, 0, false, 63⟩, ⟨20, 16, .ro, 0, false, 63⟩, ⟨15, 8, .ro, 0, false, 63⟩, ⟨7, 0, .ro, 16, false, 63⟩]⟩,  -- HST_KBC_STAT
  ⟨0x40040084, 0x0, 1, 0x0, 1, [⟨31, 31, .w1c, 0, false, 63⟩, ⟨30, 30, .ro, 0, false, 63⟩, ⟨29, 29, .ro, 0, false, 63⟩, ⟨28, 28, .ro, 0, false, 63⟩, ⟨15, 8, .ro, 0, false, 63⟩, ⟨7, 0, .ro, 0, false, 63⟩]⟩,  -- HST_KBC_CMD
  ⟨0x40040088, 0x0, 1, 0x0, 1, [⟨8, 8, .w1p, 0, false, 0⟩, ⟨7, 0, .w1p, 0, false, 0⟩]⟩,  -- HST_KBC_PUT
  ⟨0x400400A0, 0x0, 1, 0x0, 1, [⟨22, 22, .w1c, 0, false, 63⟩, ⟨21, 21, .w1c, 0, false, 63⟩, ⟨20, 20, .w1c, 0, false, 63⟩, ⟨19, 15, .ro, 0, false, 63⟩, ⟨7, 0, .ro, 0, false, 63⟩]⟩,  -- HST_ECI_STAT
  ⟨0x400400A4, 0x0, 1, 0x0, 1, [⟨7, 0, .w1p, 0, false, 0⟩]⟩,  -- HST_ECI_QUERY
  ⟨0x400400A8, 0x0, 1, 0x0, 1, [⟨31, 31, .w1c, 0, false, 63⟩, ⟨30, 30, .ro, 0, false, 63⟩, ⟨29, 29, .ro, 0, false, 63⟩, ⟨28, 28, .ro, 0, false, 63⟩, ⟨15, 8, .ro, 0, false, 63⟩, ⟨7, 0, .ro, 0, false, 63⟩]⟩,  -- HST_ECI_CMD
  ⟨0x400400AC, 0x0, 1, 0x0, 1, [⟨7, 0, .w1p, 0, false, 0⟩]⟩,  -- HST_ECI_PUT
  ⟨0x400400C0, 0x4, 8, 0x0, 1, [⟨24, 24, .rw, 0, true, 63⟩, ⟨23, 16, .rw, 0, true, 63⟩, ⟨8, 0, .rw, 0, true, 63⟩]⟩,  -- HST_ECI_QSRC_k
  ⟨0x400400E0, 0x0, 1, 0x0, 1, [⟨31, 0, .ro, 0, false, 63⟩]⟩,  -- HST_POST_LAST
  ⟨0x400400E4, 0x0, 1, 0x0, 1, [⟨15, 8, .ro, 0, false, 63⟩, ⟨7, 0, .ro, 0, false, 63⟩]⟩,  -- HST_NVX_STAT
  ⟨0x40040100, 0x0, 1, 0x0, 1, [⟨31, 31, .ro, 0, false, 63⟩, ⟨30, 30, .ro, 0, false, 63⟩, ⟨29, 29, .ro, 0, false, 63⟩, ⟨28, 27, .ro, 0, false, 63⟩, ⟨26, 24, .ro, 0, false, 63⟩, ⟨22, 16, .ro, 0, false, 63⟩, ⟨15, 0, .ro, 0, false, 63⟩]⟩,  -- TLR_REQ_A
  ⟨0x40040104, 0x0, 1, 0x0, 1, [⟨31, 0, .ro, 0, false, 63⟩]⟩,  -- TLR_REQ_DATA_A
  ⟨0x40040108, 0x0, 1, 0x0, 1, [⟨31, 0, .w1p, 0, false, 0⟩]⟩,  -- TLR_RSP_A
  ⟨0x40040110, 0x0, 1, 0x0, 1, [⟨31, 31, .ro, 0, false, 63⟩, ⟨30, 30, .ro, 0, false, 63⟩, ⟨29, 29, .ro, 0, false, 63⟩, ⟨28, 27, .ro, 0, false, 63⟩, ⟨26, 24, .ro, 0, false, 63⟩, ⟨22, 16, .ro, 0, false, 63⟩, ⟨15, 0, .ro, 0, false, 63⟩]⟩,  -- TLR_REQ_B
  ⟨0x40040114, 0x0, 1, 0x0, 1, [⟨31, 0, .ro, 0, false, 63⟩]⟩,  -- TLR_REQ_DATA_B
  ⟨0x40040118, 0x0, 1, 0x0, 1, [⟨31, 0, .w1p, 0, false, 0⟩]⟩,  -- TLR_RSP_B
  ⟨0x40040120, 0x0, 1, 0x0, 1, [⟨31, 31, .ro, 0, false, 63⟩, ⟨30, 30, .ro, 0, false, 63⟩, ⟨22, 16, .ro, 0, false, 63⟩, ⟨15, 0, .ro, 0, false, 63⟩]⟩,  -- TLR_DENY_LOG
  ⟨0x40040124, 0x0, 1, 0x0, 1, [⟨31, 31, .ro, 0, false, 63⟩, ⟨22, 16, .ro, 0, false, 63⟩]⟩,  -- TLR_TARDY_LOG
  ⟨0x40040128, 0x0, 1, 0x0, 1, [⟨0, 0, .w1c, 0, false, 63⟩]⟩,  -- TLR_STATUS
  ⟨0x4004012C, 0x0, 1, 0x0, 1, [⟨31, 16, .rs, 0, false, 63⟩, ⟨15, 0, .rs, 0, false, 63⟩]⟩,  -- TLR_COUNTS
  ⟨0x40040140, 0x0, 1, 0x0, 1, [⟨22, 16, .w1p, 0, false, 0⟩, ⟨1, 1, .w1p, 0, false, 0⟩, ⟨0, 0, .w1p, 0, false, 0⟩]⟩,  -- HST_OOB_CTL
  ⟨0x40040144, 0x0, 1, 0x0, 1, [⟨3, 0, .ro, 0, false, 63⟩]⟩,  -- HST_OOB_STAT
  ⟨0x40040150, 0x0, 1, 0x0, 1, [⟨7, 0, .w1p, 0, false, 0⟩]⟩,  -- HST_CONS_TX
  ⟨0x40040154, 0x0, 1, 0x0, 1, [⟨9, 9, .w1c, 0, false, 63⟩, ⟨8, 8, .w1c, 0, false, 63⟩, ⟨4, 0, .ro, 0, false, 63⟩]⟩]  -- HST_CONS_STAT

/-- The registers of block 5. -/
def regsBlock5 : List RegDesc := [
  ⟨0x40050000, 0x0, 1, 0x0, 1, [⟨31, 31, .ro, 0, false, 31⟩, ⟨30, 30, .ro, 0, false, 31⟩, ⟨29, 29, .w1c, 0, false, 31⟩, ⟨28, 28, .ro, 0, false, 31⟩, ⟨27, 27, .ro, 0, false, 31⟩, ⟨26, 26, .ro, 0, false, 31⟩, ⟨25, 25, .w1c, 0, false, 31⟩, ⟨24, 24, .w1c, 0, false, 31⟩, ⟨23, 23, .ro, 0, true, 31⟩, ⟨21, 16, .ro, 0, false, 31⟩, ⟨5, 0, .ro, 0, false, 31⟩]⟩,  -- KBD_STATUS
  ⟨0x40050004, 0x0, 1, 0x0, 1, [⟨15, 8, .rw, 60, true, 31⟩, ⟨3, 3, .rw, 1, true, 31⟩, ⟨2, 1, .rw, 0, true, 31⟩, ⟨0, 0, .rw, 1, true, 31⟩]⟩,  -- KBD_CFG
  ⟨0x40050008, 0x0, 1, 0x0, 1, [⟨31, 24, .rw, 0, true, 31⟩, ⟨23, 19, .rw, 10, true, 31⟩, ⟨18, 14, .rw, 10, true, 31⟩, ⟨13, 10, .rw, 8, true, 31⟩, ⟨9, 5, .rw, 4, true, 31⟩, ⟨4, 0, .rw, 0, true, 31⟩]⟩,  -- KBD_TIMING
  ⟨0x4005000C, 0x0, 1, 0x0, 1, [⟨10, 8, .rw, 0, true, 31⟩, ⟨7, 0, .rw, 43, true, 31⟩]⟩,  -- KBD_HOSTCFG
  ⟨0x40050010, 0x0, 1, 0x0, 1, [⟨2, 2, .w1p, 0, false, 0⟩, ⟨1, 1, .w1p, 0, false, 0⟩, ⟨0, 0, .w1p, 0, false, 0⟩]⟩,  -- KBD_CMD
  ⟨0x40050014, 0x0, 1, 0x0, 1, [⟨31, 31, .rs, 0, false, 31⟩, ⟨30, 30, .rs, 0, false, 31⟩, ⟨29, 29, .rs, 0, false, 31⟩, ⟨28, 27, .rs, 0, false, 31⟩, ⟨26, 26, .rs, 0, false, 31⟩, ⟨24, 16, .rs, 0, false, 31⟩, ⟨15, 12, .rs, 0, false, 31⟩, ⟨11, 0, .rs, 0, false, 31⟩]⟩,  -- KBD_FIFO
  ⟨0x40050018, 0x0, 1, 0x0, 1, [⟨31, 16, .ro, 0, false, 31⟩, ⟨15, 0, .ro, 2000, false, 31⟩]⟩,  -- KBD_SETTLE
  ⟨0x4005001C, 0x0, 1, 0x0, 1, [⟨11, 8, .ro, 0, false, 31⟩, ⟨7, 4, .ro, 0, false, 31⟩, ⟨1, 0, .ro, 0, false, 31⟩]⟩,  -- KBD_LAYER
  ⟨0x40050020, 0x0, 1, 0x0, 1, [⟨31, 16, .rs, 0, false, 31⟩, ⟨15, 0, .rs, 0, false, 31⟩]⟩,  -- KBD_COUNTS
  ⟨0x40050024, 0x0, 1, 0x0, 1, [⟨15, 0, .rs, 0, false, 31⟩]⟩,  -- KBD_COINCIDE
  ⟨0x40050040, 0x4, 36, 0x0, 1, [⟨31, 31, .ro, 0, false, 31⟩, ⟨30, 30, .ro, 0, false, 31⟩, ⟨27, 16, .ro, 0, false, 31⟩, ⟨15, 0, .ro, 0, false, 31⟩]⟩,  -- KBD_RISE_i
  ⟨0x40050100, 0x4, 20, 0x0, 1, [⟨15, 0, .ro, 0, false, 31⟩]⟩,  -- KBD_STATE_d
  ⟨0x40050180, 0x4, 20, 0x0, 1, [⟨15, 0, .ro, 0, false, 31⟩]⟩]  -- KBD_RAW_d

/-- The registers of block 6. -/
def regsBlock6 : List RegDesc := [
  ⟨0x40060000, 0x100, 6, 0x0, 1, [⟨31, 31, .rw, 0, true, 31⟩, ⟨30, 30, .rw, 0, true, 31⟩, ⟨29, 28, .rw, 0, true, 31⟩, ⟨27, 22, .rw, 0, true, 31⟩, ⟨21, 21, .rw, 0, true, 31⟩, ⟨20, 20, .rw, 0, true, 31⟩, ⟨19, 19, .rw, 0, true, 31⟩, ⟨18, 18, .rw, 1, true, 31⟩, ⟨17, 11, .rw, 0, true, 31⟩, ⟨10, 5, .rw, 0, true, 31⟩]⟩,  -- TWB_CFG_n
  ⟨0x40060004, 0x100, 6, 0x0, 1, [⟨31, 29, .rw, 0, false, 31⟩, ⟨28, 28, .rw, 0, false, 31⟩, ⟨27, 24, .rw, 0, false, 31⟩, ⟨22, 16, .rw, 0, false, 31⟩, ⟨15, 8, .rw, 0, false, 31⟩, ⟨7, 0, .rw, 0, false, 31⟩]⟩,  -- TWB_XFER_n
  ⟨0x40060008, 0x100, 6, 0x0, 1, [⟨2, 2, .w1p, 0, false, 0⟩, ⟨1, 1, .w1p, 0, false, 0⟩, ⟨0, 0, .w1p, 0, false, 0⟩]⟩,  -- TWB_CMD_n
  ⟨0x4006000C, 0x100, 6, 0x0, 1, [⟨31, 31, .ro, 0, false, 31⟩, ⟨30, 30, .w1c, 0, false, 31⟩, ⟨29, 26, .ro, 0, false, 31⟩, ⟨25, 20, .ro, 0, false, 31⟩, ⟨19, 17, .ro, 0, false, 31⟩, ⟨16, 16, .ro, 0, false, 31⟩, ⟨15, 15, .ro, 0, false, 31⟩, ⟨14, 14, .ro, 0, false, 31⟩, ⟨13, 13, .ro, 0, false, 31⟩, ⟨12, 12, .ro, 0, false, 31⟩]⟩,  -- TWB_STAT_n
  ⟨0x40060010, 0x100, 6, 0x0, 1, [⟨31, 31, .rw, 0, false, 31⟩, ⟨30, 30, .w1c, 0, false, 31⟩, ⟨23, 16, .ro, 0, false, 31⟩, ⟨15, 15, .ro, 0, false, 31⟩, ⟨14, 8, .ro, 0, false, 31⟩]⟩,  -- TWB_TGT_n
  ⟨0x40060014, 0x100, 6, 0x0, 1, [⟨31, 31, .w1c, 0, false, 31⟩, ⟨22, 16, .ro, 0, false, 31⟩, ⟨15, 0, .ro, 0, false, 31⟩]⟩,  -- TWB_HN_n
  ⟨0x40060018, 0x100, 6, 0x0, 1, [⟨31, 31, .rs, 0, false, 31⟩, ⟨26, 24, .ro, 0, false, 31⟩, ⟨7, 0, .rs, 0, false, 31⟩]⟩,  -- TWB_ARA_n
  ⟨0x4006001C, 0x100, 6, 0x0, 1, [⟨5, 5, .w1c, 0, false, 31⟩, ⟨4, 4, .w1c, 0, false, 31⟩, ⟨3, 3, .w1c, 0, false, 31⟩, ⟨2, 2, .w1c, 0, false, 31⟩, ⟨1, 1, .w1c, 0, false, 31⟩, ⟨0, 0, .w1c, 0, false, 31⟩]⟩,  -- TWB_ERR_n
  ⟨0x40060020, 0x100, 6, 0x0, 1, [⟨31, 24, .rs, 0, false, 31⟩, ⟨23, 16, .rs, 0, false, 31⟩, ⟨15, 8, .rs, 0, false, 31⟩, ⟨7, 0, .rs, 0, false, 31⟩]⟩,  -- TWB_COUNTS_n
  ⟨0x40060040, 0x100, 6, 0x4, 9, [⟨31, 0, .rw, 0, false, 31⟩]⟩,  -- TWB_TX_n_w
  ⟨0x40060080, 0x100, 6, 0x4, 9, [⟨31, 0, .ro, 0, false, 31⟩]⟩,  -- TWB_RX_n_w
  ⟨0x40060800, 0x0, 1, 0x0, 1, [⟨15, 0, .rs, 0, false, 31⟩]⟩,  -- TWB_COINCIDE
  ⟨0x40060900, 0x8, 8, 0x0, 1, [⟨31, 31, .rw, 0, true, 31⟩, ⟨30, 28, .rw, 0, true, 31⟩, ⟨27, 21, .rw, 0, true, 31⟩, ⟨20, 20, .rw, 0, true, 31⟩, ⟨19, 18, .rw, 0, true, 31⟩, ⟨17, 14, .rw, 0, true, 31⟩, ⟨13, 8, .rw, 0, true, 31⟩, ⟨7, 0, .rw, 0, true, 31⟩]⟩,  -- TWB_SNS_CFG_k
  ⟨0x40060904, 0x8, 8, 0x0, 1, [⟨31, 31, .ro, 0, false, 31⟩, ⟨30, 30, .ro, 0, false, 31⟩, ⟨28, 28, .ro, 0, false, 31⟩, ⟨15, 0, .ro, 2400, false, 31⟩]⟩]  -- TWB_SNS_k

/-- The registers of block 7. -/
def regsBlock7 : List RegDesc := [
  ⟨0x40070000, 0x0, 1, 0x0, 1, [⟨31, 31, .ro, 0, false, 31⟩, ⟨30, 30, .ro, 0, false, 31⟩, ⟨29, 29, .ro, 0, false, 31⟩, ⟨23, 20, .ro, 0, false, 31⟩, ⟨15, 0, .ro, 0, false, 31⟩]⟩,  -- ADC_STAT
  ⟨0x40070004, 0x0, 1, 0x0, 1, [⟨31, 16, .rw, 0, true, 31⟩, ⟨15, 8, .rw, 0, true, 31⟩, ⟨7, 0, .rw, 0, true, 31⟩]⟩,  -- ADC_CFG
  ⟨0x40070008, 0x0, 1, 0x0, 1, [⟨31, 24, .rw, 0, true, 31⟩, ⟨9, 9, .w1p, 0, false, 0⟩, ⟨7, 0, .w1p, 0, false, 0⟩]⟩,  -- ADC_CMD
  ⟨0x4007000C, 0x0, 1, 0x0, 1, [⟨15, 0, .rs, 0, false, 31⟩]⟩,  -- ADC_COINCIDE
  ⟨0x40070010, 0x4, 3, 0x0, 1, [⟨31, 29, .ro, 0, false, 31⟩, ⟨28, 24, .ro, 0, false, 31⟩]⟩,  -- ADC_SLICE_x
  ⟨0x40070020, 0x0, 1, 0x0, 1, [⟨31, 0, .ro, 0, false, 31⟩]⟩,  -- ADC_FAULT_LO
  ⟨0x40070024, 0x0, 1, 0x0, 1, [⟨7, 0, .ro, 0, false, 31⟩]⟩,  -- ADC_FAULT_HI
  ⟨0x40070028, 0x0, 1, 0x0, 1, [⟨7, 0, .w1c, 0, false, 31⟩]⟩,  -- ADC_LIM_STAT
  ⟨0x40070030, 0x4, 3, 0x0, 1, [⟨31, 16, .ro, 0, false, 31⟩, ⟨15, 0, .ro, 0, false, 31⟩]⟩,  -- ADC_CORR_x
  ⟨0x40070040, 0x4, 8, 0x0, 1, [⟨31, 16, .rw, 0, true, 31⟩, ⟨15, 0, .rw, 0, true, 31⟩]⟩,  -- ADC_LIM_w
  ⟨0x40070080, 0x4, 8, 0x0, 1, [⟨31, 31, .rw, 0, true, 31⟩, ⟨30, 30, .rw, 0, true, 31⟩, ⟨29, 28, .rw, 0, true, 31⟩, ⟨3, 0, .rw, 0, true, 31⟩]⟩,  -- ADC_SL_CFG_k
  ⟨0x400700A0, 0x4, 8, 0x0, 1, [⟨31, 31, .ro, 0, false, 31⟩, ⟨30, 30, .ro, 0, false, 31⟩, ⟨29, 28, .ro, 0, false, 31⟩, ⟨27, 0, .ro, 0, false, 31⟩]⟩,  -- ADC_SL_STAT_k
  ⟨0x400700C0, 0x4, 8, 0x0, 1, [⟨15, 0, .rs, 0, false, 31⟩]⟩,  -- ADC_SL_OVR_k
  ⟨0x40070100, 0x4, 40, 0x0, 1, [⟨31, 31, .ro, 0, false, 31⟩, ⟨30, 30, .ro, 0, false, 31⟩, ⟨29, 29, .ro, 0, false, 31⟩, ⟨28, 28, .ro, 0, false, 31⟩, ⟨27, 26, .ro, 0, false, 31⟩, ⟨23, 16, .ro, 0, false, 31⟩, ⟨15, 0, .ro, 0, false, 31⟩]⟩,  -- ADC_CH_c
  ⟨0x40070200, 0x40, 8, 0x4, 16, [⟨19, 16, .rw, 0, true, 31⟩, ⟨15, 12, .rw, 0, true, 31⟩, ⟨11, 9, .rw, 0, true, 31⟩, ⟨8, 6, .rw, 0, true, 31⟩, ⟨5, 0, .rw, 0, true, 31⟩]⟩,  -- ADC_ENT_k_j
  ⟨0x40070400, 0x40, 8, 0x4, 16, [⟨31, 31, .ro, 0, false, 31⟩, ⟨30, 30, .ro, 0, false, 31⟩, ⟨29, 29, .ro, 0, false, 31⟩, ⟨28, 28, .ro, 0, false, 31⟩, ⟨27, 26, .ro, 0, false, 31⟩, ⟨23, 16, .ro, 0, false, 31⟩, ⟨15, 0, .ro, 0, false, 31⟩]⟩,  -- ADC_RES_k_j
  ⟨0x40070600, 0x4, 16, 0x0, 1, [⟨31, 0, .ro, 0, false, 31⟩]⟩]  -- ADC_SURVEY_w

/-- The registers of block 8. -/
def regsBlock8 : List RegDesc := [
  ⟨0x40080000, 0x80, 16, 0x0, 1, [⟨26, 24, .rw, 0, true, 31⟩, ⟨21, 16, .rw, 0, true, 31⟩, ⟨1, 1, .rw, 0, true, 31⟩, ⟨0, 0, .rw, 0, true, 31⟩]⟩,  -- TC_CTRL_n
  ⟨0x40080004, 0x80, 16, 0x0, 1, [⟨31, 16, .rw, 1, true, 31⟩, ⟨15, 0, .rw, 0, true, 31⟩]⟩,  -- TC_PRESC_n
  ⟨0x40080008, 0x80, 16, 0x0, 1, [⟨31, 31, .ro, 0, false, 31⟩, ⟨30, 30, .w1c, 0, false, 31⟩, ⟨20, 17, .ro, 0, false, 31⟩, ⟨16, 16, .w1c, 0, false, 31⟩, ⟨15, 12, .w1c, 0, false, 31⟩, ⟨11, 8, .w1c, 0, false, 31⟩, ⟨7, 4, .w1c, 0, false, 31⟩]⟩,  -- TC_STAT_n
  ⟨0x4008000C, 0x80, 16, 0x0, 1, [⟨2, 2, .w1p, 0, false, 0⟩, ⟨1, 1, .w1p, 0, false, 0⟩, ⟨0, 0, .w1p, 0, false, 0⟩]⟩,  -- TC_CMD_n
  ⟨0x40080010, 0x80, 16, 0x0, 1, [⟨31, 0, .rs, 0, false, 31⟩]⟩,  -- TC_CNT_LO_n
  ⟨0x40080014, 0x80, 16, 0x0, 1, [⟨15, 0, .rw, 0, false, 31⟩]⟩,  -- TC_CNT_HI_n
  ⟨0x40080018, 0x80, 16, 0x0, 1, [⟨31, 0, .ro, 0, false, 31⟩]⟩,  -- TC_MISSED_n
  ⟨0x40080020, 0x80, 16, 0x10, 4, [⟨31, 30, .rw, 0, true, 31⟩, ⟨29, 29, .rw, 0, true, 31⟩, ⟨28, 28, .rw, 0, true, 31⟩, ⟨27, 26, .rw, 0, true, 31⟩, ⟨25, 25, .rw, 0, true, 31⟩, ⟨21, 20, .rw, 0, true, 31⟩, ⟨19, 16, .rw, 0, true, 31⟩, ⟨15, 8, .rw, 0, true, 31⟩]⟩,  -- TC_CC_CFG_n_m
  ⟨0x40080024, 0x80, 16, 0x10, 4, [⟨31, 0, .rs, 0, true, 31⟩]⟩,  -- TC_CC_LO_n_m
  ⟨0x40080028, 0x80, 16, 0x10, 4, [⟨15, 0, .rw, 0, true, 31⟩]⟩,  -- TC_CC_HI_n_m
  ⟨0x4008002C, 0x80, 16, 0x10, 4, [⟨31, 0, .rw, 0, true, 31⟩]⟩,  -- TC_STEP_n_m
  ⟨0x40080800, 0x0, 1, 0x0, 1, [⟨0, 0, .w1p, 0, false, 0⟩]⟩,  -- TC_SNAP
  ⟨0x40080804, 0x0, 1, 0x0, 1, [⟨15, 0, .ro, 0, false, 31⟩]⟩,  -- TC_SNAP_STAT
  ⟨0x40080808, 0x0, 1, 0x0, 1, [⟨15, 0, .rs, 0, false, 31⟩]⟩,  -- TC_COINCIDE
  ⟨0x4008080C, 0x4, 2, 0x0, 1, [⟨31, 0, .ro, 0, false, 31⟩]⟩,  -- TC_OUT
  ⟨0x40080900, 0x8, 16, 0x0, 1, [⟨31, 0, .ro, 0, false, 31⟩]⟩,  -- TC_SNAP_LO_n
  ⟨0x40080904, 0x8, 16, 0x0, 1, [⟨15, 0, .ro, 0, false, 31⟩]⟩]  -- TC_SNAP_HI_n

/-- The registers of block 9. -/
def regsBlock9 : List RegDesc := [
  ⟨0x40090000, 0x0, 1, 0x0, 1, [⟨31, 31, .rw, 0, true, 31⟩, ⟨30, 30, .rw, 0, true, 31⟩, ⟨29, 29, .rw, 0, true, 31⟩, ⟨28, 24, .rw, 0, true, 31⟩, ⟨23, 19, .rw, 0, true, 31⟩, ⟨18, 15, .rw, 0, true, 31⟩, ⟨14, 8, .rw, 0, true, 31⟩, ⟨7, 0, .rw, 0, true, 31⟩]⟩,  -- LMX_CFG
  ⟨0x40090004, 0x0, 1, 0x0, 1, [⟨23, 16, .rw, 0, true, 31⟩, ⟨15, 0, .rw, 0, true, 31⟩]⟩,  -- LMX_FRAME
  ⟨0x40090008, 0x0, 1, 0x0, 1, [⟨31, 0, .rw, 0, true, 31⟩]⟩,  -- LMX_COLOUR_LO
  ⟨0x4009000C, 0x0, 1, 0x0, 1, [⟨15, 0, .rw, 0, true, 31⟩]⟩,  -- LMX_COLOUR_HI
  ⟨0x40090010, 0x0, 1, 0x0, 1, [⟨7, 0, .rw, 255, true, 31⟩]⟩,  -- LMX_TSRC
  ⟨0x40090014, 0x0, 1, 0x0, 1, [⟨1, 1, .w1p, 0, false, 0⟩, ⟨0, 0, .w1p, 0, false, 0⟩]⟩,  -- LMX_CMD
  ⟨0x40090018, 0x0, 1, 0x0, 1, [⟨31, 31, .ro, 0, false, 31⟩, ⟨30, 30, .ro, 0, false, 31⟩, ⟨29, 29, .ro, 0, false, 31⟩, ⟨28, 28, .ro, 0, false, 31⟩, ⟨27, 27, .ro, 0, false, 31⟩, ⟨26, 26, .ro, 0, false, 31⟩, ⟨19, 16, .ro, 0, false, 31⟩, ⟨15, 0, .ro, 0, false, 31⟩]⟩,  -- LMX_STAT
  ⟨0x4009001C, 0x0, 1, 0x0, 1, [⟨15, 0, .rs, 0, false, 31⟩]⟩,  -- LMX_SYNC_OVR
  ⟨0x40090020, 0x4, 4, 0x0, 1, [⟨15, 0, .ro, 32768, false, 31⟩]⟩,  -- LMX_K_c
  ⟨0x40091000, 0x4, 192, 0x0, 1, [⟨31, 16, .rw, 0, false, 31⟩, ⟨15, 0, .rw, 0, false, 31⟩]⟩,  -- LMX_FB_w
  ⟨0x40091400, 0x4, 192, 0x0, 1, [⟨31, 16, .ro, 0, false, 31⟩, ⟨15, 0, .ro, 0, false, 31⟩]⟩]  -- LMX_FRONT_w

/-- The registers of block 10. -/
def regsBlock10 : List RegDesc := [
  ⟨0x400A0000, 0x0, 1, 0x0, 1, [⟨31, 31, .rw, 0, true, 31⟩, ⟨23, 16, .rw, 0, true, 31⟩, ⟨15, 8, .rw, 0, true, 31⟩, ⟨7, 4, .rw, 4, true, 31⟩, ⟨1, 0, .rw, 1, true, 31⟩]⟩,  -- LST_CFG
  ⟨0x400A0004, 0x0, 1, 0x0, 1, [⟨7, 0, .rw, 255, true, 31⟩]⟩,  -- LST_TSRC
  ⟨0x400A0008, 0x0, 1, 0x0, 1, [⟨31, 24, .w1p, 0, false, 0⟩, ⟨8, 8, .w1p, 0, false, 0⟩, ⟨3, 0, .w1p, 0, false, 0⟩]⟩,  -- LST_CMD
  ⟨0x400A000C, 0x0, 1, 0x0, 1, [⟨15, 0, .rs, 0, false, 31⟩]⟩,  -- LST_COINCIDE
  ⟨0x400A0010, 0x0, 1, 0x0, 1, [⟨31, 31, .ro, 0, false, 31⟩, ⟨30, 30, .ro, 0, false, 31⟩, ⟨29, 29, .w1c, 0, false, 31⟩, ⟨28, 28, .ro, 0, false, 31⟩, ⟨27, 27, .w1c, 0, false, 31⟩, ⟨15, 0, .ro, 0, false, 31⟩]⟩,  -- LST_BST
  ⟨0x400A0014, 0x0, 1, 0x0, 1, [⟨31, 16, .ro, 0, true, 31⟩, ⟨15, 0, .ro, 0, false, 31⟩]⟩,  -- LST_BST_TGT
  ⟨0x400A0018, 0x0, 1, 0x0, 1, [⟨31, 31, .ro, 0, false, 31⟩, ⟨30, 30, .ro, 0, false, 31⟩, ⟨29, 28, .ro, 0, false, 31⟩, ⟨26, 24, .ro, 0, false, 31⟩, ⟨15, 0, .ro, 0, false, 31⟩]⟩,  -- LST_SHED_LOG
  ⟨0x400A0020, 0x4, 4, 0x0, 1, [⟨15, 0, .ro, 32768, false, 31⟩]⟩,  -- LST_K_c
  ⟨0x400A0040, 0x10, 4, 0x0, 1, [⟨31, 31, .rw, 0, true, 31⟩, ⟨30, 30, .rw, 0, true, 31⟩, ⟨29, 27, .rw, 0, true, 31⟩, ⟨26, 25, .rw, 0, true, 31⟩, ⟨23, 16, .rw, 0, true, 31⟩, ⟨7, 0, .rw, 0, true, 31⟩]⟩,  -- LST_SCFG_x
  ⟨0x400A0044, 0x10, 4, 0x0, 1, [⟨15, 0, .rw, 0, true, 31⟩]⟩,  -- LST_VAL_x
  ⟨0x400A0048, 0x10, 4, 0x0, 1, [⟨31, 24, .ro, 0, false, 31⟩, ⟨23, 16, .ro, 0, false, 31⟩, ⟨15, 8, .ro, 0, false, 31⟩, ⟨7, 0, .rw, 0, true, 31⟩]⟩,  -- LST_LAMP_x
  ⟨0x400A004C, 0x10, 4, 0x0, 1, [⟨31, 31, .ro, 0, false, 31⟩, ⟨30, 30, .w1c, 0, false, 31⟩, ⟨29, 29, .ro, 0, false, 31⟩, ⟨27, 24, .ro, 0, false, 31⟩, ⟨15, 0, .ro, 0, false, 31⟩]⟩,  -- LST_STAT_x
  ⟨0x400A0100, 0x20, 4, 0x4, 8, [⟨31, 16, .ro, 0, false, 31⟩, ⟨15, 0, .ro, 0, false, 31⟩]⟩]  -- LST_VF_x_k

/-- The registers of block 11. -/
def regsBlock11 : List RegDesc := [
  ⟨0x400B0000, 0x20, 4, 0x0, 1, [⟨31, 31, .rw, 0, true, 31⟩, ⟨30, 30, .rw, 0, true, 31⟩, ⟨29, 29, .rw, 0, true, 31⟩, ⟨28, 28, .rw, 0, true, 31⟩, ⟨27, 26, .rw, 2, true, 31⟩, ⟨25, 25, .rw, 0, true, 31⟩, ⟨24, 24, .rw, 0, true, 31⟩, ⟨23, 16, .rw, 0, true, 31⟩, ⟨15, 8, .rw, 0, true, 31⟩, ⟨7, 0, .rw, 0, true, 31⟩]⟩,  -- LCH_CFG_n
  ⟨0x400B0004, 0x20, 4, 0x0, 1, [⟨23, 16, .rw, 0, true, 31⟩, ⟨15, 0, .rw, 0, true, 31⟩]⟩,  -- LCH_FRAME_n
  ⟨0x400B0008, 0x20, 4, 0x0, 1, [⟨1, 1, .w1p, 0, false, 0⟩, ⟨0, 0, .w1p, 0, false, 0⟩]⟩,  -- LCH_CMD_n
  ⟨0x400B000C, 0x20, 4, 0x0, 1, [⟨31, 31, .ro, 0, false, 31⟩, ⟨30, 30, .ro, 0, false, 31⟩, ⟨29, 29, .ro, 0, false, 31⟩, ⟨28, 28, .ro, 0, false, 31⟩, ⟨27, 27, .ro, 0, false, 31⟩, ⟨26, 24, .ro, 0, false, 31⟩, ⟨15, 0, .ro, 0, false, 31⟩]⟩,  -- LCH_STAT_n
  ⟨0x400B0010, 0x20, 4, 0x0, 1, [⟨24, 16, .ro, 0, false, 31⟩, ⟨15, 0, .ro, 65535, false, 31⟩]⟩,  -- LCH_RT_n
  ⟨0x400B0014, 0x20, 4, 0x0, 1, [⟨15, 0, .rs, 0, false, 31⟩]⟩,  -- LCH_OVR_n
  ⟨0x400B0080, 0x0, 1, 0x0, 1, [⟨7, 0, .rw, 255, true, 31⟩]⟩,  -- LCH_TSRC
  ⟨0x400B0084, 0x0, 1, 0x0, 1, [⟨15, 0, .rs, 0, false, 31⟩]⟩,  -- LCH_COINCIDE
  ⟨0x400B0088, 0x0, 1, 0x0, 1, [⟨15, 0, .ro, 0, false, 31⟩]⟩,  -- LCH_RT_MAX
  ⟨0x400B0090, 0x4, 4, 0x0, 1, [⟨15, 0, .ro, 32768, false, 31⟩]⟩,  -- LCH_K_c
  ⟨0x400B1000, 0x800, 4, 0x4, 512, [⟨31, 16, .rw, 0, false, 31⟩, ⟨15, 0, .rw, 0, false, 31⟩]⟩,  -- LCH_BK_n_w
  ⟨0x400B3000, 0x800, 4, 0x4, 512, [⟨31, 16, .ro, 0, false, 31⟩, ⟨15, 0, .ro, 0, false, 31⟩]⟩]  -- LCH_FR_n_w

/-- The registers of block 12. -/
def regsBlock12 : List RegDesc := [
  ⟨0x400C0000, 0x40, 2, 0x0, 1, [⟨31, 31, .rw, 0, true, 31⟩, ⟨30, 30, .rw, 0, true, 31⟩, ⟨29, 29, .rw, 0, true, 31⟩, ⟨28, 28, .rw, 1, true, 31⟩, ⟨27, 26, .rw, 0, true, 31⟩, ⟨15, 8, .rw, 0, true, 31⟩, ⟨7, 0, .rw, 255, true, 31⟩]⟩,  -- LOOP_CFG_c
  ⟨0x400C0004, 0x40, 2, 0x0, 1, [⟨31, 16, .rw, 1600, true, 31⟩, ⟨15, 0, .rw, 0, true, 31⟩]⟩,  -- LOOP_MAP_c
  ⟨0x400C0008, 0x40, 2, 0x0, 1, [⟨15, 0, .rw, 3600, true, 31⟩]⟩,  -- LOOP_CMD_c
  ⟨0x400C000C, 0x40, 2, 0x0, 1, [⟨31, 30, .ro, 0, false, 31⟩, ⟨29, 29, .ro, 0, false, 31⟩, ⟨28, 28, .w1c, 0, false, 31⟩, ⟨27, 27, .ro, 0, false, 31⟩, ⟨26, 26, .ro, 0, false, 31⟩, ⟨25, 25, .w1c, 0, false, 31⟩, ⟨24, 24, .ro, 0, false, 31⟩, ⟨23, 23, .ro, 0, false, 31⟩, ⟨22, 22, .ro, 0, false, 31⟩, ⟨21, 21, .ro, 0, false, 31⟩]⟩,  -- LOOP_STAT_c
  ⟨0x400C0010, 0x40, 2, 0x0, 1, [⟨31, 16, .ro, 0, false, 31⟩, ⟨15, 0, .ro, 0, false, 31⟩]⟩,  -- LOOP_TARGET_c
  ⟨0x400C0014, 0x40, 2, 0x0, 1, [⟨15, 0, .ro, 0, false, 31⟩]⟩,  -- LOOP_TRIM_c
  ⟨0x400C0018, 0x40, 2, 0x0, 1, [⟨31, 16, .ro, 0, false, 31⟩, ⟨15, 0, .ro, 0, false, 31⟩]⟩,  -- LOOP_MEAS_c
  ⟨0x400C001C, 0x40, 2, 0x0, 1, [⟨31, 16, .ro, 0, false, 31⟩, ⟨15, 0, .ro, 0, false, 31⟩]⟩,  -- LOOP_RES_c
  ⟨0x400C0020, 0x40, 2, 0x0, 1, [⟨31, 24, .w1p, 0, false, 0⟩, ⟨1, 1, .w1p, 0, false, 0⟩, ⟨0, 0, .w1p, 0, false, 0⟩]⟩,  -- LOOP_OP_c
  ⟨0x400C0080, 0x0, 1, 0x0, 1, [⟨15, 0, .rs, 0, false, 31⟩]⟩]  -- LOOP_COINCIDE

/-- The registers of block 13. -/
def regsBlock13 : List RegDesc := [
  ⟨0x400D0000, 0x0, 1, 0x0, 1, [⟨31, 31, .rw, 1, true, 31⟩, ⟨30, 30, .rw, 1, true, 31⟩]⟩,  -- DSP_CTRL
  ⟨0x400D0004, 0x0, 1, 0x0, 1, [⟨31, 31, .ro, 0, false, 31⟩, ⟨30, 30, .ro, 0, false, 31⟩, ⟨29, 29, .ro, 0, false, 31⟩, ⟨28, 28, .ro, 0, false, 31⟩, ⟨27, 27, .w1c, 0, false, 31⟩, ⟨26, 26, .ro, 0, false, 31⟩, ⟨10, 0, .ro, 0, false, 31⟩]⟩,  -- DSP_STATUS
  ⟨0x400D0008, 0x0, 1, 0x0, 1, [⟨1, 1, .w1p, 0, false, 0⟩, ⟨0, 0, .w1p, 0, false, 0⟩]⟩,  -- DSP_COMMIT
  ⟨0x400D000C, 0x0, 1, 0x0, 1, [⟨31, 0, .ro, 0, false, 31⟩]⟩,  -- DSP_FRAMES
  ⟨0x400D0010, 0x0, 1, 0x0, 1, [⟨15, 0, .rs, 0, false, 31⟩]⟩,  -- DSP_COINCIDE
  ⟨0x400D0014, 0x0, 1, 0x0, 1, [⟨16, 0, .ro, 0, false, 31⟩]⟩,  -- DSP_PCLK_ACT
  ⟨0x400D0020, 0x0, 1, 0x0, 1, [⟨10, 0, .rw, 0, true, 31⟩]⟩,  -- DSP_LINE_AT
  ⟨0x400D0024, 0x0, 1, 0x0, 1, [⟨23, 0, .rw, 0, true, 31⟩]⟩,  -- DSP_FILL
  ⟨0x400D0028, 0x0, 1, 0x0, 1, [⟨1, 1, .rw, 0, true, 31⟩, ⟨0, 0, .rw, 0, true, 31⟩]⟩,  -- DSP_CSC
  ⟨0x400D0030, 0x0, 1, 0x0, 1, [⟨31, 31, .rw, 0, true, 31⟩, ⟨30, 30, .rw, 0, true, 31⟩, ⟨2, 0, .rw, 0, true, 31⟩]⟩,  -- DSP_B_CFG
  ⟨0x400D0034, 0x0, 1, 0x0, 1, [⟨25, 4, .rw, 0, true, 31⟩]⟩,  -- DSP_B_ADDR
  ⟨0x400D0038, 0x0, 1, 0x0, 1, [⟨15, 4, .rw, 0, true, 31⟩]⟩,  -- DSP_B_PITCH
  ⟨0x400D003C, 0x0, 1, 0x0, 1, [⟨25, 4, .rw, 0, true, 31⟩]⟩,  -- DSP_B_CADDR
  ⟨0x400D0040, 0x0, 1, 0x0, 1, [⟨31, 31, .rw, 0, true, 31⟩, ⟨30, 30, .rw, 0, true, 31⟩, ⟨29, 29, .rw, 0, true, 31⟩, ⟨15, 8, .rw, 255, true, 31⟩, ⟨2, 0, .rw, 0, true, 31⟩]⟩,  -- DSP_O_CFG
  ⟨0x400D0044, 0x0, 1, 0x0, 1, [⟨25, 4, .rw, 0, true, 31⟩]⟩,  -- DSP_O_ADDR
  ⟨0x400D0048, 0x0, 1, 0x0, 1, [⟨15, 4, .rw, 0, true, 31⟩]⟩,  -- DSP_O_PITCH
  ⟨0x400D004C, 0x0, 1, 0x0, 1, [⟨25, 4, .rw, 0, true, 31⟩]⟩,  -- DSP_O_CADDR
  ⟨0x400D0050, 0x0, 1, 0x0, 1, [⟨26, 16, .rw, 0, true, 31⟩, ⟨10, 0, .rw, 0, true, 31⟩]⟩,  -- DSP_O_POS
  ⟨0x400D0054, 0x0, 1, 0x0, 1, [⟨26, 16, .rw, 0, true, 31⟩, ⟨10, 0, .rw, 0, true, 31⟩]⟩,  -- DSP_O_SIZE
  ⟨0x400D0058, 0x0, 1, 0x0, 1, [⟨23, 0, .rw, 0, true, 31⟩]⟩,  -- DSP_O_KEY
  ⟨0x400D005C, 0x0, 1, 0x0, 1, [⟨0, 0, .rw, 0, true, 31⟩]⟩,  -- DSP_TXT
  ⟨0x400D0060, 0x0, 1, 0x0, 1, [⟨1, 1, .rw, 0, true, 31⟩, ⟨0, 0, .rw, 0, true, 31⟩]⟩,  -- DSP_LS_CFG
  ⟨0x400D0064, 0x0, 1, 0x0, 1, [⟨25, 4, .rw, 0, true, 31⟩]⟩,  -- DSP_LS_B_ADDR
  ⟨0x400D0068, 0x0, 1, 0x0, 1, [⟨25, 4, .rw, 0, true, 31⟩]⟩,  -- DSP_LS_O_ADDR
  ⟨0x400D006C, 0x0, 1, 0x0, 1, [⟨31, 31, .rw, 0, true, 31⟩, ⟨15, 8, .rw, 0, true, 31⟩]⟩,  -- DSP_LS_O_CFG
  ⟨0x400D0070, 0x0, 1, 0x0, 1, [⟨25, 4, .rw, 0, true, 31⟩]⟩,  -- DSP_LS_B_CADDR
  ⟨0x400D0120, 0x0, 1, 0x0, 1, [⟨10, 0, .ro, 0, false, 31⟩]⟩,  -- DSP_LINE_AT, active copy
  ⟨0x400D0124, 0x0, 1, 0x0, 1, [⟨23, 0, .ro, 0, false, 31⟩]⟩,  -- DSP_FILL, active copy
  ⟨0x400D0128, 0x0, 1, 0x0, 1, [⟨1, 1, .ro, 0, false, 31⟩, ⟨0, 0, .ro, 0, false, 31⟩]⟩,  -- DSP_CSC, active copy
  ⟨0x400D0130, 0x0, 1, 0x0, 1, [⟨31, 31, .ro, 0, false, 31⟩, ⟨30, 30, .ro, 0, false, 31⟩, ⟨2, 0, .ro, 0, false, 31⟩]⟩,  -- DSP_B_CFG, active copy
  ⟨0x400D0134, 0x0, 1, 0x0, 1, [⟨25, 4, .ro, 0, false, 31⟩]⟩,  -- DSP_B_ADDR, active copy
  ⟨0x400D0138, 0x0, 1, 0x0, 1, [⟨15, 4, .ro, 0, false, 31⟩]⟩,  -- DSP_B_PITCH, active copy
  ⟨0x400D013C, 0x0, 1, 0x0, 1, [⟨25, 4, .ro, 0, false, 31⟩]⟩,  -- DSP_B_CADDR, active copy
  ⟨0x400D0140, 0x0, 1, 0x0, 1, [⟨31, 31, .ro, 0, false, 31⟩, ⟨30, 30, .ro, 0, false, 31⟩, ⟨29, 29, .ro, 0, false, 31⟩, ⟨15, 8, .ro, 255, false, 31⟩, ⟨2, 0, .ro, 0, false, 31⟩]⟩,  -- DSP_O_CFG, active copy
  ⟨0x400D0144, 0x0, 1, 0x0, 1, [⟨25, 4, .ro, 0, false, 31⟩]⟩,  -- DSP_O_ADDR, active copy
  ⟨0x400D0148, 0x0, 1, 0x0, 1, [⟨15, 4, .ro, 0, false, 31⟩]⟩,  -- DSP_O_PITCH, active copy
  ⟨0x400D014C, 0x0, 1, 0x0, 1, [⟨25, 4, .ro, 0, false, 31⟩]⟩,  -- DSP_O_CADDR, active copy
  ⟨0x400D0150, 0x0, 1, 0x0, 1, [⟨26, 16, .ro, 0, false, 31⟩, ⟨10, 0, .ro, 0, false, 31⟩]⟩,  -- DSP_O_POS, active copy
  ⟨0x400D0154, 0x0, 1, 0x0, 1, [⟨26, 16, .ro, 0, false, 31⟩, ⟨10, 0, .ro, 0, false, 31⟩]⟩,  -- DSP_O_SIZE, active copy
  ⟨0x400D0158, 0x0, 1, 0x0, 1, [⟨23, 0, .ro, 0, false, 31⟩]⟩,  -- DSP_O_KEY, active copy
  ⟨0x400D015C, 0x0, 1, 0x0, 1, [⟨0, 0, .ro, 0, false, 31⟩]⟩,  -- DSP_TXT, active copy
  ⟨0x400D0160, 0x0, 1, 0x0, 1, [⟨1, 1, .ro, 0, false, 31⟩, ⟨0, 0, .ro, 0, false, 31⟩]⟩,  -- DSP_LS_CFG, active copy
  ⟨0x400D0164, 0x0, 1, 0x0, 1, [⟨25, 4, .ro, 0, false, 31⟩]⟩,  -- DSP_LS_B_ADDR, active copy
  ⟨0x400D0168, 0x0, 1, 0x0, 1, [⟨25, 4, .ro, 0, false, 31⟩]⟩,  -- DSP_LS_O_ADDR, active copy
  ⟨0x400D016C, 0x0, 1, 0x0, 1, [⟨31, 31, .ro, 0, false, 31⟩, ⟨15, 8, .ro, 0, false, 31⟩]⟩,  -- DSP_LS_O_CFG, active copy
  ⟨0x400D0170, 0x0, 1, 0x0, 1, [⟨25, 4, .ro, 0, false, 31⟩]⟩,  -- DSP_LS_B_CADDR, active copy
  ⟨0x400D0200, 0x0, 1, 0x0, 1, [⟨31, 0, .ro, 0, false, 31⟩]⟩,  -- DSP_CRC_SENT
  ⟨0x400D0204, 0x0, 1, 0x0, 1, [⟨31, 0, .ro, 0, false, 31⟩]⟩,  -- DSP_CRC_SEEN
  ⟨0x400D0208, 0x0, 1, 0x0, 1, [⟨31, 31, .w1c, 0, false, 31⟩, ⟨30, 30, .w1c, 0, false, 31⟩, ⟨26, 16, .ro, 0, false, 31⟩]⟩,  -- DSP_CRC_STAT
  ⟨0x400D020C, 0x0, 1, 0x0, 1, [⟨15, 0, .rs, 0, false, 31⟩]⟩,  -- DSP_CRC_COUNT
  ⟨0x400D0210, 0x0, 1, 0x0, 1, [⟨31, 16, .rs, 0, false, 31⟩, ⟨15, 0, .rs, 0, false, 31⟩]⟩,  -- DSP_UNDER
  ⟨0x400D0300, 0x0, 1, 0x0, 1, [⟨31, 31, .rw, 0, true, 31⟩, ⟨30, 29, .rw, 0, true, 31⟩, ⟨28, 28, .rw, 0, true, 31⟩, ⟨27, 27, .rw, 1, true, 31⟩, ⟨26, 22, .rw, 0, true, 31⟩, ⟨20, 16, .rw, 0, true, 31⟩, ⟨7, 0, .rw, 0, true, 31⟩]⟩,  -- DSP_XSPI_CFG
  ⟨0x400D0304, 0x0, 1, 0x0, 1, [⟨31, 24, .w1p, 0, false, 0⟩, ⟨23, 16, .w1p, 0, false, 0⟩, ⟨15, 8, .w1p, 0, false, 0⟩, ⟨5, 4, .w1p, 0, false, 0⟩, ⟨3, 3, .w1p, 0, false, 0⟩, ⟨0, 0, .w1p, 0, false, 0⟩]⟩,  -- DSP_XSPI_CMD
  ⟨0x400D0308, 0x0, 1, 0x0, 1, [⟨25, 0, .rw, 0, false, 31⟩]⟩,  -- DSP_XSPI_ADDR
  ⟨0x400D030C, 0x0, 1, 0x0, 1, [⟨31, 31, .ro, 0, false, 31⟩, ⟨30, 30, .w1c, 0, false, 31⟩, ⟨29, 28, .ro, 0, false, 31⟩, ⟨27, 27, .w1c, 0, false, 31⟩, ⟨26, 26, .w1c, 0, false, 31⟩]⟩,  -- DSP_XSPI_STAT
  ⟨0x400D0400, 0x4, 64, 0x0, 1, [⟨31, 0, .rw, 0, false, 31⟩]⟩]  -- DSP_XSPI_BUF_w

/-- The registers of block 14. -/
def regsBlock14 : List RegDesc := [
  ⟨0x400E0000, 0x0, 1, 0x0, 1, [⟨31, 31, .ro, 0, false, 31⟩, ⟨30, 30, .w1c, 0, false, 31⟩, ⟨29, 27, .ro, 0, false, 31⟩, ⟨26, 26, .ro, 0, false, 31⟩, ⟨25, 25, .w1c, 0, false, 31⟩, ⟨24, 24, .w1c, 0, false, 31⟩]⟩,  -- FLC_STATUS
  ⟨0x400E0004, 0x0, 1, 0x0, 1, [⟨31, 24, .w1p, 0, false, 0⟩, ⟨10, 8, .w1p, 0, false, 0⟩, ⟨1, 1, .w1p, 0, false, 0⟩, ⟨0, 0, .w1p, 0, false, 0⟩]⟩,  -- FLC_CMD
  ⟨0x400E0008, 0x0, 1, 0x0, 1, [⟨20, 0, .rw, 0, false, 31⟩]⟩,  -- FLC_ADDR
  ⟨0x400E0010, 0x4, 4, 0x0, 1, [⟨31, 0, .rw, 0, false, 31⟩]⟩,  -- FLC_BUF_w
  ⟨0x400E0020, 0x0, 1, 0x0, 1, [⟨31, 24, .rw, 0, true, 31⟩, ⟨8, 8, .rw, 1, true, 31⟩, ⟨7, 0, .rw, 0, true, 31⟩]⟩,  -- FLC_SCRUB_CFG
  ⟨0x400E0024, 0x0, 1, 0x0, 1, [⟨31, 24, .ro, 0, false, 31⟩, ⟨16, 0, .ro, 0, false, 31⟩]⟩,  -- FLC_SCRUB_STAT
  ⟨0x400E0028, 0x0, 1, 0x0, 1, [⟨31, 31, .ro, 0, false, 31⟩, ⟨30, 30, .ro, 0, false, 31⟩, ⟨20, 4, .ro, 0, false, 31⟩]⟩,  -- FLC_ECC_ADDR
  ⟨0x400E002C, 0x0, 1, 0x0, 1, [⟨31, 16, .rs, 0, false, 31⟩, ⟨15, 0, .rs, 0, false, 31⟩]⟩]  -- FLC_COUNTS

/-- The registers of block 15. -/
def regsBlock15 : List RegDesc := [
  ⟨0x400F0000, 0x0, 1, 0x0, 1, [⟨17, 17, .w1c, 0, false, 5⟩, ⟨16, 16, .ro, 0, false, 13⟩, ⟨10, 0, .ro, 0, false, 13⟩]⟩,  -- KX_STATUS
  ⟨0x400F0004, 0x0, 1, 0x0, 1, [⟨7, 0, .w1p, 0, false, 0⟩]⟩,  -- KX_SWEV
  ⟨0x400F0008, 0x0, 1, 0x0, 1, [⟨31, 24, .w1p, 0, false, 0⟩, ⟨8, 0, .w1p, 0, false, 0⟩]⟩,  -- KX_FORCE
  ⟨0x400F000C, 0x0, 1, 0x0, 1, [⟨15, 0, .rs, 0, false, 5⟩]⟩,  -- KX_MERGED
  ⟨0x400F0010, 0x0, 1, 0x0, 1, [⟨15, 0, .rs, 0, false, 5⟩]⟩,  -- KX_DROPPED
  ⟨0x400F0014, 0x0, 1, 0x0, 1, [⟨15, 0, .rs, 0, false, 5⟩]⟩,  -- KX_COINCIDE
  ⟨0x400F0018, 0x0, 1, 0x0, 1, [⟨31, 31, .ro, 0, false, 5⟩, ⟨8, 0, .ro, 0, false, 5⟩]⟩,  -- KX_LAST
  ⟨0x400F0040, 0x4, 10, 0x0, 1, [⟨31, 0, .ro, 0, false, 5⟩]⟩,  -- KX_LEVEL_k
  ⟨0x400F0080, 0x4, 10, 0x0, 1, [⟨31, 0, .w1c, 0, false, 13⟩]⟩]  -- KX_SEEN_k

/-- The registers of block 16. -/
def regsBlock16 : List RegDesc := [
  ⟨0x40100000, 0x0, 1, 0x0, 1, [⟨4, 4, .ro, 0, false, 5⟩, ⟨3, 3, .ro, 0, false, 5⟩, ⟨2, 2, .ro, 0, false, 1⟩, ⟨1, 1, .ro, 0, false, 5⟩, ⟨0, 0, .ro, 1, false, 5⟩]⟩,  -- SEQ_STATUS
  ⟨0x40100004, 0x0, 1, 0x0, 1, [⟨31, 24, .w1p, 0, false, 0⟩, ⟨14, 8, .w1p, 0, false, 0⟩, ⟨3, 0, .w1p, 0, false, 0⟩]⟩,  -- SEQ_CMD
  ⟨0x40100008, 0x0, 1, 0x0, 1, [⟨31, 0, .ro, 0, false, 5⟩]⟩,  -- SEQ_RAIL_EN
  ⟨0x4010000C, 0x0, 1, 0x0, 1, [⟨31, 0, .ro, 0, false, 5⟩]⟩,  -- SEQ_RAIL_PG
  ⟨0x40100010, 0x0, 1, 0x0, 1, [⟨31, 0, .w1c, 0, false, 5⟩]⟩,  -- SEQ_RAIL_ORPHAN
  ⟨0x40100014, 0x0, 1, 0x0, 1, [⟨31, 0, .ro, 0, false, 5⟩]⟩,  -- SEQ_DONE_LO
  ⟨0x40100018, 0x0, 1, 0x0, 1, [⟨31, 0, .ro, 0, false, 5⟩]⟩,  -- SEQ_DONE_HI
  ⟨0x4010001C, 0x0, 1, 0x0, 1, [⟨31, 0, .ro, 0, false, 5⟩]⟩,  -- SEQ_ACTIVE_LO
  ⟨0x40100020, 0x0, 1, 0x0, 1, [⟨31, 0, .ro, 0, false, 5⟩]⟩,  -- SEQ_ACTIVE_HI
  ⟨0x40100024, 0x0, 1, 0x0, 1, [⟨31, 0, .ro, 0, false, 5⟩]⟩,  -- SEQ_FAULTED_LO
  ⟨0x40100028, 0x0, 1, 0x0, 1, [⟨31, 0, .ro, 0, false, 5⟩]⟩,  -- SEQ_FAULTED_HI
  ⟨0x4010002C, 0x0, 1, 0x0, 1, [⟨31, 26, .ro, 0, false, 1⟩, ⟨25, 21, .ro, 0, false, 1⟩, ⟨20, 18, .ro, 0, false, 1⟩, ⟨17, 16, .ro, 0, false, 1⟩, ⟨15, 0, .ro, 0, false, 1⟩]⟩,  -- SEQ_FAULT_LOG
  ⟨0x40100030, 0x4, 4, 0x0, 1, [⟨31, 0, .ro, 0, false, 5⟩]⟩,  -- SEQ_COND_w
  ⟨0x40100040, 0x0, 1, 0x0, 1, [⟨31, 0, .ro, 0, false, 1⟩]⟩,  -- SEQ_COND_FIX
  ⟨0x40100044, 0x0, 1, 0x0, 1, [⟨31, 0, .ro, 0, true, 5⟩]⟩,  -- SEQ_WIRE
  ⟨0x40100048, 0x0, 1, 0x0, 1, [⟨31, 0, .rw, 0, true, 13⟩]⟩,  -- SEQ_WIRE_DEF
  ⟨0x4010004C, 0x0, 1, 0x0, 1, [⟨31, 24, .rw, 20, true, 13⟩, ⟨23, 16, .rw, 0, true, 13⟩, ⟨15, 8, .rw, 20, true, 13⟩, ⟨0, 0, .rw, 1, true, 13⟩]⟩,  -- SEQ_PFAIL
  ⟨0x40100050, 0x0, 1, 0x0, 1, [⟨31, 24, .rw, 5, true, 13⟩, ⟨3, 3, .ro, 0, false, 5⟩, ⟨2, 2, .ro, 0, false, 5⟩, ⟨1, 0, .ro, 0, false, 5⟩]⟩,  -- SEQ_POLICY
  ⟨0x40100054, 0x0, 1, 0x0, 1, [⟨15, 0, .rs, 0, false, 5⟩]⟩,  -- SEQ_OVR
  ⟨0x40100058, 0x0, 1, 0x0, 1, [⟨15, 0, .rs, 0, false, 5⟩]⟩,  -- SEQ_COINCIDE
  ⟨0x40100080, 0x4, 16, 0x0, 1, [⟨31, 31, .ro, 0, false, 1⟩, ⟨30, 30, .ro, 0, false, 1⟩, ⟨29, 29, .ro, 0, false, 1⟩, ⟨11, 0, .ro, 0, false, 1⟩]⟩]  -- SEQ_MON_m

/-- The registers of block 17. -/
def regsBlock17 : List RegDesc := [
  ⟨0x40110000, 0x0, 1, 0x0, 1, [⟨31, 31, .ro, 0, false, 1⟩, ⟨30, 30, .w1c, 0, false, 1⟩, ⟨29, 26, .ro, 0, false, 1⟩, ⟨25, 23, .ro, 0, false, 1⟩, ⟨22, 20, .ro, 0, false, 1⟩, ⟨15, 0, .ro, 0, false, 1⟩]⟩,  -- AUD_STATUS
  ⟨0x40110004, 0x0, 1, 0x0, 1, [⟨31, 31, .rw, 1, true, 13⟩, ⟨30, 30, .rw, 0, true, 13⟩, ⟨29, 29, .rw, 0, false, 1⟩, ⟨23, 8, .rw, 0, true, 13⟩, ⟨3, 0, .rw, 0, true, 13⟩]⟩,  -- AUD_CFG
  ⟨0x40110008, 0x0, 1, 0x0, 1, [⟨31, 0, .ro, 0, false, 1⟩]⟩,  -- AUD_LAST_LO
  ⟨0x4011000C, 0x0, 1, 0x0, 1, [⟨15, 0, .ro, 0, false, 1⟩]⟩,  -- AUD_LAST_HI
  ⟨0x40110010, 0x0, 1, 0x0, 1, [⟨15, 0, .rs, 0, false, 5⟩]⟩,  -- AUD_COINCIDE
  ⟨0x40110014, 0x0, 1, 0x0, 1, [⟨15, 0, .rs, 0, false, 5⟩]⟩,  -- AUD_EXTRA
  ⟨0x40110020, 0x0, 1, 0x0, 1, [⟨31, 30, .ro, 0, false, 0⟩, ⟨29, 29, .ro, 0, false, 7⟩, ⟨28, 28, .ro, 0, false, 0⟩, ⟨23, 16, .ro, 0, false, 0⟩, ⟨5, 0, .ro, 0, false, 0⟩]⟩,  -- AUD_LC_STATE
  ⟨0x40110024, 0x0, 1, 0x0, 1, [⟨31, 24, .w1p, 0, false, 0⟩, ⟨1, 1, .w1p, 0, false, 0⟩, ⟨0, 0, .w1p, 0, false, 0⟩]⟩,  -- AUD_LC_CMD
  ⟨0x40110028, 0x0, 1, 0x0, 1, [⟨31, 31, .ro, 0, false, 1⟩, ⟨30, 30, .w1c, 0, false, 1⟩, ⟨27, 24, .ro, 0, false, 1⟩]⟩,  -- AUD_LC_RESULT
  ⟨0x40110030, 0x4, 4, 0x0, 1, [⟨31, 0, .ro, 0, false, 0⟩]⟩,  -- AUD_UID_i
  ⟨0x40110040, 0x4, 8, 0x0, 1, [⟨31, 0, .ro, 0, false, 1⟩]⟩,  -- AUD_LC_NONCE_i
  ⟨0x40110100, 0x4, 33, 0x0, 1, [⟨31, 0, .rw, 0, false, 1⟩]⟩]  -- AUD_LC_BUF_w

/-- The registers of block 18. -/
def regsBlock18 : List RegDesc := [
  ⟨0x40120000, 0x0, 1, 0x0, 1, [⟨31, 31, .ro, 0, false, 0⟩, ⟨30, 30, .w1c, 0, false, 0⟩, ⟨29, 29, .ro, 0, false, 1⟩, ⟨28, 28, .ro, 0, false, 1⟩, ⟨27, 27, .w1c, 0, false, 5⟩, ⟨26, 26, .ro, 0, false, 1⟩, ⟨25, 24, .ro, 0, false, 5⟩, ⟨1, 0, .ro, 0, false, 5⟩]⟩,  -- CAL_STATUS
  ⟨0x40120004, 0x0, 1, 0x0, 1, [⟨31, 0, .rs, 0, false, 0⟩]⟩,  -- CAL_NOW_LO
  ⟨0x40120008, 0x0, 1, 0x0, 1, [⟨31, 0, .ro, 0, false, 0⟩]⟩,  -- CAL_NOW_HI
  ⟨0x4012000C, 0x0, 1, 0x0, 1, [⟨31, 0, .rw, 0, false, 5⟩]⟩,  -- CAL_SET_LO
  ⟨0x40120010, 0x0, 1, 0x0, 1, [⟨31, 0, .rw, 0, false, 5⟩]⟩,  -- CAL_SET_HI
  ⟨0x40120014, 0x0, 1, 0x0, 1, [⟨31, 24, .w1p, 0, false, 0⟩, ⟨0, 0, .w1p, 0, false, 0⟩]⟩,  -- CAL_CMD
  ⟨0x40120018, 0x0, 1, 0x0, 1, [⟨31, 0, .rw, 0, false, 0⟩]⟩,  -- CAL_RATE
  ⟨0x4012001C, 0x0, 1, 0x0, 1, [⟨31, 0, .ro, 0, false, 1⟩]⟩,  -- CAL_PHASE
  ⟨0x40120020, 0x0, 1, 0x0, 1, [⟨31, 16, .rs, 0, false, 5⟩, ⟨15, 8, .rs, 0, false, 5⟩, ⟨7, 0, .rs, 0, false, 5⟩]⟩,  -- CAL_PPS_COUNT
  ⟨0x40120024, 0x0, 1, 0x0, 1, [⟨31, 0, .rw, 0, false, 5⟩]⟩,  -- CAL_ALARM0_LO
  ⟨0x40120028, 0x0, 1, 0x0, 1, [⟨31, 31, .rw, 0, false, 5⟩, ⟨7, 0, .rw, 0, false, 5⟩]⟩,  -- CAL_ALARM0_HI
  ⟨0x4012002C, 0x0, 1, 0x0, 1, [⟨31, 0, .rw, 0, false, 5⟩]⟩,  -- CAL_ALARM1_LO
  ⟨0x40120030, 0x0, 1, 0x0, 1, [⟨31, 31, .rw, 0, false, 5⟩, ⟨7, 0, .rw, 0, false, 5⟩]⟩,  -- CAL_ALARM1_HI
  ⟨0x40120034, 0x0, 1, 0x0, 1, [⟨20, 20, .ro, 0, true, 13⟩, ⟨19, 18, .rw, 2, true, 13⟩, ⟨10, 0, .ro, 0, true, 13⟩]⟩,  -- CAL_CFG
  ⟨0x40120038, 0x0, 1, 0x0, 1, [⟨15, 0, .rs, 0, false, 5⟩]⟩]  -- CAL_COINCIDE

/-- The registers of block 19. -/
def regsBlock19 : List RegDesc := [
  ⟨0x40130000, 0x0, 1, 0x0, 1, [⟨31, 31, .ro, 0, false, 5⟩, ⟨30, 30, .ro, 0, false, 5⟩, ⟨29, 29, .ro, 0, false, 5⟩, ⟨28, 28, .w1c, 0, false, 5⟩, ⟨27, 27, .ro, 0, false, 5⟩]⟩,  -- RSV_STATUS
  ⟨0x40130004, 0x0, 1, 0x0, 1, [⟨11, 0, .ro, 0, false, 1⟩]⟩,  -- RSV_VHOLD
  ⟨0x40130008, 0x0, 1, 0x0, 1, [⟨15, 0, .ro, 0, false, 5⟩]⟩,  -- RSV_CAP
  ⟨0x4013000C, 0x0, 1, 0x0, 1, [⟨23, 0, .ro, 0, false, 5⟩]⟩,  -- RSV_ENERGY
  ⟨0x40130010, 0x0, 1, 0x0, 1, [⟨7, 0, .ro, 0, false, 1⟩]⟩,  -- RSV_LOAD
  ⟨0x40130014, 0x0, 1, 0x0, 1, [⟨31, 24, .rw, 60, true, 13⟩, ⟨7, 0, .rw, 80, true, 13⟩]⟩,  -- RSV_CFG
  ⟨0x40130018, 0x0, 1, 0x0, 1, [⟨0, 0, .w1p, 0, false, 0⟩]⟩,  -- RSV_MEASURE
  ⟨0x4013001C, 0x0, 1, 0x0, 1, [⟨23, 0, .ro, 0, false, 5⟩]⟩,  -- RSV_BUDGET
  ⟨0x40130020, 0x0, 1, 0x0, 1, [⟨15, 0, .rs, 0, false, 5⟩]⟩]  -- RSV_COINCIDE

/-- The registers of block Evt (each core's own EVT_ registers). -/
def regsBlockEvt : List RegDesc := [
  ⟨0xE0000000, 0x4, 64, 0x0, 1, [⟨31, 2, .rw, 0, false, 31⟩]⟩,  -- EVT_VEC_v
  ⟨0xE0000100, 0x4, 32, 0x0, 1, [⟨31, 2, .rw, 0, false, 31⟩]⟩,  -- EVT_EXC_e
  ⟨0xE0000180, 0x0, 1, 0x0, 1, [⟨31, 0, .w1c, 0, false, 31⟩]⟩,  -- EVT_PEND_LO
  ⟨0xE0000184, 0x0, 1, 0x0, 1, [⟨31, 0, .w1c, 0, false, 31⟩]⟩,  -- EVT_PEND_HI
  ⟨0xE0000188, 0x0, 1, 0x0, 1, [⟨31, 0, .rw, 0, false, 31⟩]⟩,  -- EVT_EN_LO
  ⟨0xE000018C, 0x0, 1, 0x0, 1, [⟨31, 0, .rw, 0, false, 31⟩]⟩,  -- EVT_EN_HI
  ⟨0xE0000190, 0x0, 1, 0x0, 1, [⟨31, 31, .ro, 0, false, 31⟩, ⟨11, 8, .ro, 0, false, 31⟩, ⟨5, 0, .ro, 0, false, 31⟩]⟩,  -- EVT_TOP
  ⟨0xE00001A0, 0x0, 1, 0x0, 1, [⟨31, 31, .rwl, 0, false, 31⟩, ⟨23, 0, .rwl, 0, false, 31⟩]⟩,  -- EVT_WDOG_CTL
  ⟨0xE00001A4, 0x0, 1, 0x0, 1, [⟨31, 24, .w1p, 0, false, 0⟩]⟩,  -- EVT_WDOG_KICK
  ⟨0xE00001A8, 0x0, 1, 0x0, 1, [⟨15, 0, .rs, 0, false, 31⟩]⟩,  -- EVT_COINCIDE
  ⟨0xE00001AC, 0x0, 1, 0x0, 1, [⟨15, 0, .rs, 0, false, 31⟩]⟩]  -- EVT_ECC

/-- The registers of block n of R317 (an absent number has none). -/
def regsOfBlock : Nat → List RegDesc
  | 0 => regsBlock0
  | 1 => regsBlock1
  | 2 => regsBlock2
  | 3 => regsBlock3
  | 4 => regsBlock4
  | 5 => regsBlock5
  | 6 => regsBlock6
  | 7 => regsBlock7
  | 8 => regsBlock8
  | 9 => regsBlock9
  | 10 => regsBlock10
  | 11 => regsBlock11
  | 12 => regsBlock12
  | 13 => regsBlock13
  | 14 => regsBlock14
  | 15 => regsBlock15
  | 16 => regsBlock16
  | 17 => regsBlock17
  | 18 => regsBlock18
  | 19 => regsBlock19
  | _ => []

end Sys2Proof.Machine
end

