-- ==== Sys2Proof/Machine/Ledger.lean ====
section
/-! DEFINITION. The Ledger format of chapter 02: header, directory, section layouts and every check of Table 02-7 (R58-R86, R699, R703's
content checks), on a store given as its bytes. -/

namespace Sys2Proof.Machine

/-- A directory entry (Table 02-2). -/
structure DirEntry where
  typ : Nat
  inst : Nat
  ver : Nat
  off : Nat
  size : Nat
  crc : Nat
  deriving DecidableEq, Repr

/-- The type code of an entry, TYPE [11:0]. -/
def DirEntry.code (d : DirEntry) : Nat := d.typ % 4096

/-- The CRIT bit of an entry, TYPE [15]. -/
def DirEntry.crit (d : DirEntry) : Bool := bit d.typ 15

/-- The directory entry at index i of an image (R61). -/
def dirEntry (img : List Byte) (i : Nat) : DirEntry :=
  let e := slice img (0x40 + 16 * i) 16
  ⟨u16At e 0, u8At e 2, u8At e 3, u32At e 4, u32At e 8, u32At e 12⟩

/-- The first n directory entries of an image. -/
def dirEntries (img : List Byte) (n : Nat) : List DirEntry := (List.range n).map (dirEntry img)

/-- SECTION_COUNT of an image. -/
def sectionCount (img : List Byte) : Nat := u16At img 0x18

/-- The body a directory entry describes. -/
def bodyOf (img : List Byte) (d : DirEntry) : List Byte := slice img d.off d.size

/-- The section types the device knows (Table 02-3, R63). -/
def knownType (c : Nat) : Bool :=
  [0x001, 0x002, 0x003, 0x004, 0x010, 0x018, 0x020, 0x028, 0x030, 0x031, 0x038, 0x048, 0x049, 0x04A, 0x050, 0x060,
   0x070, 0x07F].contains c

/-- The domain that owns register block n (Table 09-2). -/
def blockDomain (n : Nat) : Nat :=
  match n with
  | 1 => 1 | 2 => 2 | 3 => 3 | 4 => 11 | 5 => 12 | 6 => 13 | 7 => 17 | 8 => 18 | 9 => 19 | 10 => 20 | 11 => 21
  | 12 => 22 | 13 => 23 | 14 => 10 | _ => 0

/-- The domain that owns a section (Table 02-3): KEYS SEAL, TELLERS and TLRINIT HOST, KEYMAP KBD, the status panel's
three DISP, LAMPPRIO LAMPS, CLASSDEF FRAM, REGSET its block's domain, every other AO. -/
def sectionDomain (code inst : Nat) : Nat :=
  match code with
  | 0x003 => 2 | 0x030 => 11 | 0x031 => 11 | 0x038 => 12 | 0x048 => 23 | 0x049 => 23 | 0x04A => 23 | 0x050 => 20
  | 0x070 => 1 | 0x060 => blockDomain inst | _ => 0

/-- The two prerequisites-to-be-on of Table 04-1: ADCA, ADCB, ADCC, LAMPS and LOOP need AREF. -/
def domainNeeds (d : Nat) : List Nat := if [14, 15, 16, 20, 22].contains d then [17] else []

/-- The result of a content check: passed, or failed at an entry index (0xFFFF for the section itself, R103). -/
abbrev Content := Option Nat

/-- Section-level failure. -/
def sectionBad : Content := some 0xFFFF

/-- The first entry index below n that fails a test. -/
def firstBad (n : Nat) (bad : Nat → Bool) : Content := (List.range n).find? bad

/-- The count word of an array section: COUNT, or failure when the size, the limit or the reserved bits are wrong. -/
def arrayCount (b : List Byte) (entry limit : Nat) : Option Nat :=
  let n := u16At b 0
  if b.length ≥ 4 && u16At b 2 == 0 && decide (n ≤ limit) && b.length == 4 + n * entry then some n else none

/-- Does the list hold a value twice? -/
def hasDup (l : List Nat) : Bool :=
  match l with
  | [] => false
  | x :: t => t.contains x || hasDup t

/-- Is the value at place i also at an earlier place? -/
def repeatsEarlier (l : List Nat) (i : Nat) : Bool := (l.take i).contains (natAt l i)

/-- DOMAINS (R65, R31). -/
def checkDomains (b : List Byte) : Content :=
  let fl := u32At b 0
  let pr := u32At b 4
  let lo := u32At b 8
  let hi := u32At b 12
  let code (d : Nat) : Nat := if d < 20 then bits lo (4 * (d - 12) + 3) (4 * (d - 12))
    else bits hi (4 * (d - 20) + 3) (4 * (d - 20))
  let ok := b.length == 16 && decide (fl < 2 ^ 24) && decide (pr < 2 ^ 24)
    && bits fl 4 0 == 31 && !bit fl 5 && bits fl 10 6 == 31
    && (List.range 24).all (fun d => !bit fl d || (bit pr d && (domainNeeds d).all (bit fl)))
    && (List.range 12).all (fun k => decide (code (12 + k) ≤ 4))
    && code 18 == 0 && code 23 == 0 && bits hi 31 16 == 0
  if ok then none else sectionBad

/-- One PINS entry's own fields (R66, R655). -/
def pinEntryBad (w : Nat) : Bool :=
  let ball := bits w 9 0
  let alt := bits w 27 24
  bits w 31 28 != 0 || bits w 18 10 != 0 || decide (400 ≤ ball) || noPinsBall ball
    || (alt != 0 && (ballFn ball alt).isNone)

/-- PINS (R66, R655): no ball twice, no function on two balls. -/
def checkPins (b : List Byte) : Content :=
  match arrayCount b 4 400 with
  | none => sectionBad
  | some n =>
    let ws := leWords n (b.drop 4)
    let fns := ws.map fun w => ballFn (bits w 9 0) (bits w 27 24)
    firstBad n fun i =>
      let w := natAt ws i
      pinEntryBad w || repeatsEarlier (ws.map fun w => bits w 9 0) i
        || ((fns.getD i none).isSome && (fns.take i).contains (fns.getD i none))

/-- KEYS (R67). -/
def checkKeys (b : List Byte) : Content :=
  match arrayCount b 68 8 with
  | none => sectionBad
  | some n =>
    let slot (i : Nat) : Nat := u8At b (4 + 68 * i)
    firstBad n fun i =>
      let st := u8At b (4 + 68 * i + 1)
      decide (7 < slot i) || (st != 1 && st != 2) || u16At b (4 + 68 * i + 2) != 0
        || repeatsEarlier ((List.range n).map slot) i

/-- SYSTEM (R68). -/
def checkSystem (b : List Byte) : Content :=
  let w0 := u32At b 0
  if b.length == 16 && bits w0 31 5 == 0 && bits w0 3 2 == 0 && bits (u32At b 4) 31 16 == 0 && u32At b 8 == 0
    && u32At b 12 == 0 then none else sectionBad

/-- The number of rail, step and monitor records of a SEQGRAPH (R69). -/
def seqCounts (b : List Byte) : Nat × Nat × Nat :=
  let w := u32At b 0
  (bits w 5 0, bits w 14 8, bits w 20 16)

/-- Does the predecessor relation have no cycle? Steps are struck off while some remaining step has no remaining
predecessor (R70). -/
def acyclic : Nat → List (Nat × Nat × Nat) → Bool
  | 0, l => l.isEmpty
  | k + 1, l =>
    let nums := l.map (·.1)
    acyclic k (l.filter fun p => nums.contains p.2.1 || nums.contains p.2.2)

/-- SEQGRAPH (R69, R70, R183, R199; Table 05-1 gives a set-wire step's level and wire). The entry index DETAIL records runs through the rail, step
and monitor records in one numbering, and of two that clash the later one is named: DESIGN CHOICE, log entry 110. -/
def checkSeqGraph (b : List Byte) : Content :=
  let w := u32At b 0
  let (nr, ns, nm) := seqCounts b
  if b.length < 4 || bits w 7 6 != 0 || bits w 15 15 != 0 || bits w 31 21 != 0 || decide (32 < nr) || decide (64 < ns)
    || decide (16 < nm) || b.length != 4 + 8 * (nr + ns + nm) then sectionBad else
  let rail (i : Nat) : Nat := 4 + 8 * i
  let step (i : Nat) : Nat := 4 + 8 * (nr + i)
  let mon (i : Nat) : Nat := 4 + 8 * (nr + ns + i)
  let rails := (List.range nr).map fun i => u8At b (rail i)
  let steps := (List.range ns).map fun i => u8At b (step i)
  let mons := (List.range nm).map fun i => u8At b (mon i)
  let railBad (i : Nat) : Bool :=
    let o := rail i
    let pg := u8At b (o + 1)
    decide (31 < u8At b o) || repeatsEarlier rails i
      || (pg != 0xFF && (bits pg 6 5 != 0 || (!bit pg 7 && !mons.contains (bits pg 4 0))))
      || decide (3 < bits (u8At b (o + 2)) 2 0) || bits (u8At b (o + 2)) 7 5 != 0 || u8At b (o + 3) != 0
      || u16At b (o + 6) == 0 || !decide (u16At b (o + 4) * 10 < u16At b (o + 6) * 100)
  let stepBad (i : Nat) : Bool :=
    let o := step i
    let act := u8At b (o + 1)
    let p1 := u8At b (o + 2)
    let p2 := u8At b (o + 3)
    let c := u8At b (o + 4)
    decide (63 < u8At b o) || repeatsEarlier steps i
      || (bits act 7 6 ≤ 1 && !rails.contains (bits act 5 0))

      || (bits act 7 6 == 3 && bits act 5 0 != 0)
      || (p1 != 0xFF && !steps.contains p1) || (p2 != 0xFF && !steps.contains p2)
      || (decide (160 ≤ c) && c != 0xFF) || u8At b (o + 5) != 0
  let monBad (i : Nat) : Bool :=
    let o := mon i
    decide (15 < u8At b o) || repeatsEarlier mons i || !decide (u16At b (o + 2) < u16At b (o + 4))
      || decide (3300 < u16At b (o + 4)) || bits (u8At b (o + 6)) 7 1 != 0 || u8At b (o + 7) != 0
  match firstBad (nr + ns + nm) (fun k =>
    if k < nr then railBad k else if k < nr + ns then stepBad (k - nr) else monBad (k - nr - ns)) with
  | some k => some k
  | none =>
    let rel := (List.range ns).map fun i => (u8At b (step i), u8At b (step i + 2), u8At b (step i + 3))
    if acyclic ns rel then none else sectionBad

/-- CALENDAR (R71). -/
def checkCalendar (b : List Byte) : Content :=
  let w := u32At b 0
  if b.length == 4 && decide (1 ≤ bits w 10 0) && decide (bits w 10 0 ≤ 1000) && bits w 15 11 == 0 && bits w 31 17 == 0
  then none else sectionBad

/-- Is the source a level source (Table 09-4)? -/
def levelSource (ev : Nat) : Bool :=
  ev == 8 || ev == 11 || (decide (16 ≤ ev) && decide (ev ≤ 23)) || ev == 27 || ev == 31
    || (decide (48 ≤ ev) && decide (ev ≤ 79)) || ev == 86 || ev == 87 || ev == 95 || ev == 108 || ev == 109
    || (decide (117 ≤ ev) && decide (ev ≤ 122)) || (decide (132 ≤ ev) && decide (ev ≤ 147)) || ev == 247
    || (decide (252 ≤ ev) && decide (ev ≤ 269) && ev % 3 == 1) || ev == 278
    || (decide (288 ≤ ev) && decide (ev ≤ 291)) || ev == 306 || ev == 307 || ev == 309 || ev == 310

/-- Is the source reserved (Table 09-4)? -/
def reservedSource (ev : Nat) : Bool :=
  (decide (12 ≤ ev) && decide (ev ≤ 15)) || (decide (127 ≤ ev) && decide (ev ≤ 131))
    || (decide (152 ≤ ev) && decide (ev ≤ 155)) || ev == 251 || ev == 284 || ev == 285
    || (decide (303 ≤ ev) && decide (ev ≤ 305)) || decide (318 ≤ ev)

/-- The domain of a source (Table 09-3): the one that must be on for it to be raised. -/
def sourceDomain (ev : Nat) : Nat :=
  if ev < 88 then 0 else if ev < 92 then 1 else if ev < 96 then 0 else if ev < 98 then 2 else if ev < 100 then 10
  else if ev < 108 then 0 else if ev < 132 then 11 else if ev < 156 then 12 else if ev < 236 then 18
  else if ev < 252 then 17 else if ev < 270 then 13 else if ev == 278 then 0 else if ev < 286 then 3
  else if ev < 288 then 19 else if ev < 295 then 20 else if ev < 306 then 21 else if ev < 312 then 22 else 23

/-- A route: one ROUTES entry (R72). -/
structure Route where
  source : Nat
  priority : Nat
  kind : Nat
  dest : Nat
  level : Bool
  invert : Bool
  deriving DecidableEq, Repr

/-- The route whose words are w0 and w1. -/
def routeOf (w0 w1 : Nat) : Route :=
  ⟨bits w0 8 0, bits w0 15 12, bits w0 23 16, bits w1 15 0, bit w1 16, bit w1 17⟩

/-- DEST_KIND, DEST_INDEX and LEVEL against Tables 09-5 and 09-6 (R320, R321). -/
def destOk (r : Route) : Bool :=
  match r.kind with
  | 1 => decide (r.dest ≤ 63)
  | 2 => decide (r.dest ≤ 63)
  | 3 => decide (r.dest ≤ 4) || r.dest == 16 || r.dest == 17 || (decide (32 ≤ r.dest) && decide (r.dest ≤ 63))
  | 4 => decide (r.dest ≤ 127)
      || (!r.level && ((decide (256 ≤ r.dest) && decide (r.dest ≤ 258)) || (decide (512 ≤ r.dest) && decide (r.dest ≤ 575))))
  | 5 => !r.level && (r.dest == 128 || (decide (r.dest ≤ 127) && r.dest % 8 != 3))
  | 6 => !r.level && decide (r.dest ≤ 8)
  | 7 => !r.level && decide (r.dest ≤ 5)
  | 8 => !r.level && r.dest == 0
  | 9 => r.dest == 0
  | _ => false

/-- One ROUTES entry's own fields (R72, R318-R321). -/
def routeBad (w0 w1 : Nat) : Bool :=
  let r := routeOf w0 w1
  bits w0 11 9 != 0 || bits w0 31 24 != 0 || bits w1 31 18 != 0 || decide (320 ≤ r.source) || reservedSource r.source
    || !destOk r || (r.level && !levelSource r.source)
    || (!r.level && r.invert && !levelSource r.source && !(r.kind == 4 && decide (r.dest ≤ 127)))

/-- ROUTES (R72): at most four entries for one source. -/
def checkRoutes (b : List Byte) : Content :=
  match arrayCount b 8 1024 with
  | none => sectionBad
  | some n =>
    let ws := leWords (2 * n) (b.drop 4)
    let srcs := (List.range n).map fun i => bits (natAt ws (2 * i)) 8 0
    firstBad n fun i =>
      routeBad (natAt ws (2 * i)) (natAt ws (2 * i + 1))
        || decide (4 ≤ ((srcs.take i).filter (· == natAt srcs i)).length)

/-- FANSAFE (R73). -/
def checkFanSafe (b : List Byte) : Content :=
  let w := u32At b 0
  if b.length == 16 && decide (bits w 7 0 ≤ 100) && decide (5 ≤ bits w 23 16) && decide (bits w 23 16 ≤ 50)
    && decide (bits w 31 24 ≤ 100) && bits (u32At b 8) 31 8 == 0 && u32At b 12 == 0 then none else sectionBad

/-- A TELLERS entry (Table 02-6). -/
structure TellerEntry where
  teller : Nat
  kind : Nat
  binding : Nat
  owner : Nat
  addr : Nat
  span : Nat
  rights : Nat
  deadline : Nat
  fallback : Nat
  ramOff : Nat
  ramSize : Nat
  deriving DecidableEq, Repr

/-- The TELLERS entry at index i of a TELLERS body. SPAN 0 stands for 256 and DEADLINE 0 for 20 µs. -/
def tellerEntry (b : List Byte) (i : Nat) : TellerEntry :=
  let e := slice b (4 + 16 * i) 16
  ⟨u8At e 0, u8At e 1, u8At e 2, u8At e 3, u32At e 4, (if u8At e 8 = 0 then 256 else u8At e 8), u8At e 9,
   (if u8At e 10 = 0 then 20 else u8At e 10), u8At e 11, 16 * u16At e 12, u16At e 14⟩

/-- The TELLERS entries of a body. -/
def tellerEntries (b : List Byte) : List TellerEntry := (List.range (u16At b 0)).map (tellerEntry b)

/-- The windows an entry takes on its binding, as (binding, first, last): two single ports for KBC and ECI (R346). -/
def tellerWindows (t : TellerEntry) : List (Nat × Nat × Nat) :=
  match t.binding with
  | 0 => if t.kind = 1 ∨ t.kind = 2 then
      [(0, bits t.addr 15 0, bits t.addr 15 0), (0, bits t.addr 31 16, bits t.addr 31 16)]
    else [(0, bits t.addr 15 0, bits t.addr 15 0 + t.span - 1)]
  | 1 => [(1, t.addr, t.addr + t.span - 1)]
  | 2 => [(2, bits t.addr 7 0, bits t.addr 7 0)]
  | 3 => [(3, 256 * bits t.addr 2 0 + bits t.addr 14 8, 256 * bits t.addr 2 0 + bits t.addr 14 8)]
  | _ => [(4, 0, 0)]

/-- Do two windows meet? -/
def windowsMeet (x y : Nat × Nat × Nat) : Bool := x.1 == y.1 && decide (x.2.1 ≤ y.2.2) && decide (y.2.1 ≤ x.2.2)

/-- One TELLERS entry's own fields (R74, R358, Table 10-3). -/
def tellerBad (b : List Byte) (i : Nat) : Bool :=
  let e := slice b (4 + 16 * i) 16
  let t := tellerEntry b i
  let kindOk : Bool :=
    match t.kind with
    | 0 => match t.binding with
      | 0 => true | 1 => true | 3 => true | 2 => decide (160 ≤ t.ramSize)
      | 4 => t.span == 1 && decide (64 ≤ t.ramSize) | _ => false
    | 1 => t.binding == 0 && t.span == 1 && decide (64 ≤ t.ramSize)
    | 2 => t.binding == 0 && t.span == 1 && decide (288 ≤ t.ramSize)
    | 3 => t.binding == 0 && decide (t.span ≤ 4) && decide (80 ≤ t.ramSize)
    | 4 => t.binding == 0 && t.span == 2 && decide (288 ≤ t.ramSize)
    | 5 => (t.binding == 0 || t.binding == 1 || t.binding == 3 || (t.binding == 2 && decide (t.span ≤ 128)))
        && decide (t.span ≤ t.ramSize)
    | _ => false
  let addrOk : Bool :=
    match t.binding with
    | 0 => (t.kind == 1 || t.kind == 2 || bits t.addr 31 16 == 0) && decide (bits t.addr 15 0 + t.span - 1 ≤ 0xFFFF)
    | 1 => decide (t.addr + t.span - 1 ≤ 0xFFFFFFFF)
    | 2 => bits t.addr 31 8 == 0
    | 3 => bits t.addr 7 3 == 0 && bits t.addr 31 15 == 0 && decide (bits t.addr 2 0 ≤ 5)
        && decide (0x08 ≤ bits t.addr 14 8) && decide (bits t.addr 14 8 ≤ 0x77) && bits t.addr 14 8 != 0x0C
    | 4 => t.addr == 0
    | _ => false
  decide (127 < t.teller) || !kindOk || !addrOk
    || (if t.kind = 0 then t.owner != 1 && t.owner != 2 else t.owner != 0)
    || bits t.rights 7 2 != 0 || decide (50 < u8At e 10)
    || decide (16384 < t.ramOff + t.ramSize)

/-- TELLERS (R74, R346, R358). -/
def checkTellers (b : List Byte) : Content :=
  match arrayCount b 16 128 with
  | none => sectionBad
  | some n =>
    let ts := tellerEntries b
    let clash (i : Nat) : Bool :=
      let t := tellerEntry b i
      (ts.take i).any fun u =>
        u.teller == t.teller || (tellerWindows u).any (fun x => (tellerWindows t).any (windowsMeet x))
          || (u.ramSize != 0 && t.ramSize != 0 && decide (u.ramOff < t.ramOff + t.ramSize)
            && decide (t.ramOff < u.ramOff + u.ramSize))
          || (u.kind == t.kind && decide (1 ≤ t.kind) && decide (t.kind ≤ 4))
          || (u.kind == 0 && t.kind == 0 && u.binding == 4 && t.binding == 4)
    let wins (i : Nat) : Bool :=
      let ws := ((ts.take (i + 1)).map tellerWindows).flatten
      decide (16 < (ws.filter (·.1 == 0)).length) || decide (4 < (ws.filter (·.1 == 1)).length)
        || ((tellerWindows (tellerEntry b i)).length == 2
          && (match tellerWindows (tellerEntry b i) with | [x, y] => windowsMeet x y | _ => false))
    firstBad n fun i => tellerBad b i || clash i || wins i

/-- The drives, senses, diodes flag and layer count of a KEYMAP (R76). -/
def keymapShape (b : List Byte) : Nat × Nat × Bool × Nat :=
  let w := u32At b 0
  (bits w 4 0, bits w 12 8, bit w 16, bits w 25 24 + 1)

/-- KEYMAP (R76, R396). -/
def checkKeymap (b : List Byte) : Content :=
  let w := u32At b 0
  let (dr, se, _, ly) := keymapShape b
  if b.length < 4 || bits w 7 5 != 0 || bits w 15 13 != 0 || bits w 23 17 != 0 || bits w 31 26 != 0 || dr == 0
    || decide (20 < dr) || se == 0 || decide (16 < se) || b.length != 4 + 640 * ly then sectionBad else
  firstBad (320 * ly) fun i =>
    let h := u16At b (4 + 2 * i)
    let p := i % 320
    let layer := i / 320
    let kind := h / 4096
    let v := h % 4096
    (decide (dr ≤ p / 16) || decide (se ≤ p % 16)) && h != 0
      || (match kind with
        | 0 => v != 0
        | 1 => decide (255 < v)
        | 2 => decide (255 < v)
        | 3 => v == 0 || decide (ly ≤ v)
        | 4 => v == 0 || decide (ly ≤ v)
        | 5 => decide (15 < v)
        | 6 => decide (1 < v)
        | 7 => layer == 0 || v != 0
        | _ => true)

/-- DISPTIMING (R77, R581). -/
def checkTiming (b : List Byte) : Content :=
  let h (i : Nat) : Nat := u16At b (2 * i)
  let pclk := u32At b 0x10
  let fl := u32At b 0x14
  let ok := b.length == 32 && decide (16 ≤ h 0) && decide (h 0 ≤ 1280) && h 0 % 2 == 0
    && decide (16 ≤ h 4) && decide (h 4 ≤ 1024) && decide (1 ≤ h 2) && decide (1 ≤ h 6)
    && decide (16 ≤ h 1 + h 2 + h 3) && decide (2 ≤ h 5 + h 6 + h 7)
    && decide (h 0 + h 1 + h 2 + h 3 ≤ 4095) && decide (h 4 + h 5 + h 6 + h 7 ≤ 2047)
    && decide (1000 ≤ pclk) && decide (pclk ≤ 75000) && bits fl 31 6 == 0 && decide (bits fl 5 4 ≤ 2)
    && u32At b 0x18 == 0 && u32At b 0x1C == 0
  if ok then none else sectionBad

/-- The glyph bytes of a FONT whose first word is w (R78). -/
def fontBytes (w : Nat) : Nat := (bits w 31 24 + 1) * bits w 15 8 * ((bits w 7 0 + 7) / 8)

/-- FONT (R78). -/
def checkFont (b : List Byte) : Content :=
  let w := u32At b 0
  let n := fontBytes w
  let ok := decide (4 ≤ b.length) && decide (5 ≤ bits w 7 0) && decide (bits w 7 0 ≤ 16) && decide (7 ≤ bits w 15 8)
    && decide (bits w 15 8 ≤ 32) && b.length == 4 + 4 * ((n + 3) / 4) && (b.drop (4 + n)).all (· == 0)
  if ok then none else sectionBad

/-- The character width of a TEXTPLANE field by SOURCE (Table 18-4); 0 for no such source. -/
def fieldWidth (source : Nat) : Nat :=
  match source with | 1 => 2 | 2 => 6 | 3 => 8 | 4 => 4 | 5 => 8 | _ => 0

/-- TEXTPLANE (R79, R590), against the FONT and DISPTIMING it is used with. Without a DISPTIMING its active area counts as empty: DESIGN CHOICE,
log entry 110. -/
def checkText (font timing b : List Byte) : Content :=
  let w0 := u32At b 0
  let w1 := u32At b 4
  let cols := bits w1 7 0
  let rows := bits w1 15 8
  let nf := bits w1 31 24
  let text := 4 * ((cols * rows + 3) / 4)
  if b.length < 16 || bits w0 31 24 != 0 || bits w1 23 17 != 0 || bits (u32At b 8) 31 24 != 0
    || b.length != 16 + text + 8 * nf || !(slice b (16 + cols * rows) (text - cols * rows)).all (· == 0)
    || decide (u16At timing 0 < bits w0 11 0 + cols * bits (u32At font 0) 7 0)
    || decide (u16At timing 8 < bits w0 23 12 + rows * bits (u32At font 0) 15 8) then sectionBad else
  firstBad nf fun i =>
    let o := 16 + text + 8 * i
    let src := u8At b (o + 2)
    let ix := u8At b (o + 3)
    decide (rows ≤ u8At b o) || fieldWidth src == 0 || decide (cols < u8At b (o + 1) + fieldWidth src)
      || (src == 1 && decide (3 < ix)) || (src == 4 && decide (15 < ix)) || u32At b (o + 4) != 0

/-- LAMPPRIO (R80). -/
def checkLampPrio (b : List Byte) : Content :=
  if b.length == 36 && decide (u16At b 32 ≤ 4000) && bits (u8At b 34) 7 4 == 0 && u8At b 35 == 0 then none
  else sectionBad

/-- The L fields of the register at an offset of a block, as a mask of its bits; 0 when it has none (R81). -/
def lMask (block off : Nat) : Nat :=
  match findReg (regsOfBlock block) (0x40000000 + 0x10000 * block + off) with
  | none => 0
  | some d => (d.fields.filter (·.isL)).foldl (fun m f => m ||| ((2 ^ (f.hi + 1 - f.lo) - 1) <<< f.lo)) 0

/-- REGSET (R81, R698). -/
def checkRegset (inst : Nat) (b : List Byte) : Content :=
  if decide (19 < inst) then sectionBad else
  match arrayCount b 8 0xFFFF with
  | none => sectionBad
  | some n =>
    let offs := (List.range n).map fun i => u16At b (4 + 8 * i)
    firstBad n fun i =>
      let m := lMask inst (natAt offs i)
      u16At b (4 + 8 * i + 2) != 0 || natAt offs i % 4 != 0 || m == 0
        || (u32At b (4 + 8 * i + 4) &&& (m ^^^ 0xFFFFFFFF)) != 0 || repeatsEarlier offs i

/-- The class a record identifier belongs to (Table 06-2); 0 for a reserved identifier. -/
def recordClass (id : Nat) : Nat :=
  if id = 0 ∨ id ≥ 0xFFFF then 0 else if id < 0x100 then 1 else if id < 0x200 then 2 else if id < 0x300 then 3
  else if id < 0x400 then 4 else 5

/-- The records of a run of words: header words and their data; none where a record is cut short (R82, R211). -/
def parseRecords : Nat → List Nat → Option (List (Nat × List Nat))
  | _, [] => some []
  | 0, _ => none
  | k + 1, h :: t =>
    let len := bits h 29 24
    if t.length < len then none
    else (parseRecords k (t.drop len)).map fun r => (h, t.take len) :: r

/-- CLASSDEF (R82, R214). -/
def checkClassDef (b : List Byte) : Content :=
  if b.length < 4 || u16At b 2 != 0 || b.length % 4 != 0 then sectionBad else
  let ws := leWords (b.length / 4 - 1) (b.drop 4)
  match parseRecords (ws.length + 1) ws with
  | none => sectionBad
  | some rs =>
    if rs.length != u16At b 0 then sectionBad else
    let ids := rs.map fun r => r.1 % 65536
    firstBad rs.length fun i =>
      let h := (rs.getD i (0, [])).1
      bits h 31 30 != 0 || bits h 29 24 == 0 || recordClass (bits h 15 0) == 0
        || bits h 23 16 != recordClass (bits h 15 0) || repeatsEarlier ids i

/-- The content check of one section (code 0xC), with FONT and DISPTIMING bodies for TEXTPLANE. -/
def contentCheck (code inst : Nat) (font timing body : List Byte) : Content :=
  match code with
  | 0x001 => checkDomains body
  | 0x002 => checkPins body
  | 0x003 => checkKeys body
  | 0x004 => checkSystem body
  | 0x010 => checkSeqGraph body
  | 0x018 => checkCalendar body
  | 0x020 => checkRoutes body
  | 0x028 => checkFanSafe body
  | 0x030 => checkTellers body
  | 0x031 => if body.length ≤ 16384 then none else sectionBad
  | 0x038 => checkKeymap body
  | 0x048 => checkTiming body
  | 0x049 => checkFont body
  | 0x04A => checkText font timing body
  | 0x050 => checkLampPrio body
  | 0x060 => checkRegset inst body
  | 0x070 => checkClassDef body
  | _ => none

/-- The body of the first section of a type in a list of directory entries; empty when there is none. Two entries of one code, one with CRIT, are
two TYPE values and R62 lets both stand; that the first is the one used is a DESIGN CHOICE, log entry 110. -/
def bodyOfType (img : List Byte) (ds : List DirEntry) (code : Nat) : List Byte :=
  match ds.find? (fun d => d.code == code) with
  | some d => bodyOf img d
  | none => []

/-- Do two bodies overlap? -/
def bodiesOverlap (d e : DirEntry) : Bool := decide (d.off < e.off + e.size) && decide (e.off < d.off + d.size)

/-- R62 and R63 for the entry at index i, given every entry, the end of the directory and LENGTH. -/
def dirEntryBad (img : List Byte) (ds : List DirEntry) (len i : Nat) : Bool :=
  match ds[i]? with
  | none => false
  | some d =>
    let dirEnd := 0x40 + 16 * ds.length
    let after := ((ds.filter fun e => decide (d.off + d.size ≤ e.off)).map (·.off)).foldl min len
    d.off % 16 != 0 || d.size == 0 || d.size % 4 != 0 || (d.code != 0x060 && d.inst != 0) || bits d.typ 14 12 != 0
      || decide (d.off < dirEnd) || decide (len < d.off + d.size)
      || (List.range ds.length).any (fun j => j != i && (match ds[j]? with | some e => bodiesOverlap d e | none => false))
      || (ds.take i).any (fun e => e.typ == d.typ && e.inst == d.inst) || d.ver != 1
      || (d.code == 0x07F && d.crit) || (d.crit && !knownType d.code)
      || !(slice img (d.off + d.size) (after - (d.off + d.size))).all (· == 0)

/-- The bytes between the end of the directory and the first body are 0 (R62). -/
def leadPadOk (img : List Byte) (ds : List DirEntry) (len : Nat) : Bool :=
  let dirEnd := 0x40 + 16 * ds.length
  let first := (ds.map (·.off)).foldl min len
  (slice img dirEnd (first - dirEnd)).all (· == 0)

/-- Is a required section absent (Table 02-3)? -/
def requiredAbsent (img : List Byte) (ds : List DirEntry) : Bool :=
  let has (c : Nat) : Bool := ds.any fun d => d.code == c
  let pr := u32At (bodyOfType img ds 0x001) 4
  !(has 0x001 && has 0x002 && has 0x004 && has 0x010 && has 0x020 && has 0x028)
    || (bit pr 11 && !has 0x030) || (bit pr 12 && !has 0x038) || (bit pr 23 && !has 0x048)
    || (has 0x04A && !has 0x049)

/-- The outcome of the checks of Table 02-7 on a store: its code, and DETAIL's section and entry. -/
structure CheckResult where
  code : Nat
  sect : Nat
  entry : Nat
  deriving DecidableEq, Repr

/-- The failure a list of candidate results shows: the first, since they stand in rising code order (R103). -/
def firstFailure (l : List (Option CheckResult)) : CheckResult :=
  match l.findSome? id with
  | some r => r
  | none => ⟨0, 0xFF, 0xFFFF⟩

/-- Every check of Table 02-7 on the 64 KB of a store (R60-R85, R103). The key of a KEY_SLOT is given as the loader
finds it under R84, the device epoch as R85 uses it; verifies is false when no signature can be verified (R172), and eccBad says a read error stayed
uncorrected (code 0xD). -/
def checkStore (img : List Byte) (keyOf : Nat → Option (Nat × Nat)) (epoch : Nat) (verifies eccBad : Bool) : CheckResult :=
  let hdr := img.take 64
  let len := u32At hdr 0x0C
  let n := min (sectionCount hdr) 48
  let ds := dirEntries (img.take (0x40 + 16 * 48)) n
  let head (c : Nat) (bad : Bool) : Option CheckResult := if bad then some ⟨c, 0xFF, 0xFFFF⟩ else none
  let fmtBad := bits (u32At hdr 4) 31 16 != 1 || u16At hdr 0x16 != 0 || u16At hdr 0x1A != 0
    || !(slice hdr 0x38 8).all (· == 0) || decide (sectionCount hdr < 6) || decide (48 < sectionCount hdr)
    || decide (63 < u8At hdr 0x15)
  let lenBad := decide (len < 0x100) || decide (0xFFC0 < len) || len % 64 != 0 || decide (len < 0x40 + 16 * sectionCount hdr)
  let key := keyOf (u8At hdr 0x14)
  let sigOk : Bool :=
    match key with
    | none => false
    | some (x, y) =>
      verifies && ecdsaVerify x y (sha256 (img.take len)) (ofBe (slice img len 32)) (ofBe (slice img (len + 32) 32))
  let dirBad : Option CheckResult :=
    match firstBad n (dirEntryBad img ds len) with
    | some i => some ⟨0x9, i, 0xFFFF⟩
    | none => if leadPadOk img ds len then none else some ⟨0x9, 0xFF, 0xFFFF⟩
  let crcBad : Option CheckResult :=
    (firstBad n fun i => match ds[i]? with | some d => crc32 (bodyOf img d) != d.crc | none => false).map
      fun i => ⟨0xA, i, 0xFFFF⟩
  let font := bodyOfType img ds 0x049
  let timing := bodyOfType img ds 0x048
  let contBad : Option CheckResult :=
    (List.range n).findSome? fun i =>
      match ds[i]? with
      | none => none
      | some d => (contentCheck d.code d.inst font timing (bodyOf img d)).map fun e => ⟨0xC, i, e⟩
  firstFailure [head 0x1 (u32At hdr 0 != 0x4C444752), head 0x2 (crc32 (hdr.take 0x1C) != u32At hdr 0x1C),
    head 0x3 fmtBad, head 0x4 (u32At hdr 0x10 != 0x00007300), head 0x5 lenBad, head 0x6 key.isNone,
    head 0x7 (decide (u8At hdr 0x15 < epoch)), head 0x8 (!sigOk), dirBad, crcBad,
    head 0xB (requiredAbsent img ds), contBad, head 0xD eccBad]

/-- SERIAL of a store, 0 when MAGIC does not match (Table 02-10). -/
def storeSerial (img : List Byte) : Nat := if u32At img 0 = 0x4C444752 then u32At img 8 else 0

/-- The store the loader selects (R86): 0 for A, 1 for B, none for the bare Ledger. -/
def selectStore (codeA codeB serA serB : Nat) : Option Nat :=
  if codeA = 0 ∧ codeB = 0 then some (if higher serB serA then 1 else 0)
  else if codeA = 0 then some 0
  else if codeB = 0 then some 1
  else none

/-- The code of an image half (R24, R48, Table 01-6), the half given as its bytes and its base address; verifies is false when no signature can be
verified (R172). -/
def imageCode (img : List Byte) (base : Nat) (keyOf : Nat → Option (Nat × Nat)) (verifies eccBad : Bool) : Nat :=
  let hdr := img.take 0x20
  let len := u32At hdr 8
  let inHalf (a : Nat) : Bool := decide (base ≤ a) && decide (a < base + 0x100000) && a % 4 == 0
  let lenOk := decide (0x40 ≤ len) && decide (len ≤ 0xFFFC0) && len % 64 == 0
  let ea := u32At hdr 0x0C
  let eb := u32At hdr 0x10
  if u32At hdr 0 != 0x4B34494D then 1
  else if !lenOk then 2
  else if !(inHalf ea && (eb == 0 || inHalf eb)) then 3
  else if !(slice hdr 0x15 11).all (· == 0) then 7
  else match keyOf (u8At hdr 0x14) with
    | none => 4
    | some (x, y) =>
      if eccBad then 6
      else if verifies && ecdsaVerify x y (sha256 (img.take len)) (ofBe (slice img len 32)) (ofBe (slice img (len + 32) 32)) then 0
      else 5

/-- The image key of a slot in a KEYS body: populated and not revoked (R67, R24). -/
def imageKey (keys : List Byte) (slot : Nat) : Option (Nat × Nat) :=
  ((List.range (u16At keys 0)).find? fun i => u8At keys (4 + 68 * i) == slot && u8At keys (4 + 68 * i + 1) == 1).map
    fun i => (ofBe (slice keys (4 + 68 * i + 4) 32), ofBe (slice keys (4 + 68 * i + 36) 32))

end Sys2Proof.Machine
end

