-- ==== Sys2Proof/Machine/RegMap.lean ====
section
/-! DEFINITION. The register map: the address of every register the spec names and the place of every
field in it, from the Registers section of each chapter (Tables 01-9 to 20-13).
Fields are named REGISTER_FIELD; a register that repeats takes its index (or two) as an argument. -/

namespace Sys2Proof.Machine
namespace Reg


-- 01_first_light.md
abbrev AO_RESET_CAUSE : Nat := 0x40000000
abbrev AO_FL_STATUS : Nat := 0x40000004
abbrev AO_FL_TIME : Nat := 0x40000008
abbrev AO_FL_TFW : Nat := 0x4000000C
abbrev AO_SWR : Nat := 0x40000010
abbrev AO_LDR : Nat := 0x40000014

-- 02_ledger.md
abbrev LGR_STATUS : Nat := 0x40000100
abbrev LGR_A_SERIAL : Nat := 0x40000104
abbrev LGR_B_SERIAL : Nat := 0x40000108
abbrev LGR_A_DETAIL : Nat := 0x4000010C
abbrev LGR_B_DETAIL : Nat := 0x40000110
abbrev LGR_WR_CTRL : Nat := 0x40000114
abbrev LGR_WR_ADDR : Nat := 0x40000118
abbrev LGR_WR_DATA : Nat := 0x4000011C
abbrev LGR_CHECK : Nat := 0x40000120
abbrev LGR_COINCIDE : Nat := 0x40000124

-- 03_tills_reconcile.md
abbrev TIL_RECON : Nat := 0x40000200
abbrev TIL_STATUS : Nat := 0x40000204
abbrev TIL_DIV_LO : Nat := 0x40000208
abbrev TIL_DIV_HI : Nat := 0x4000020C
abbrev TIL_NOW_LO : Nat := 0x40000210
abbrev TIL_NOW_HI : Nat := 0x40000214
abbrev TIL_CRC_SEL : Nat := 0x40000218
abbrev TIL_CRC : Nat := 0x4000021C
abbrev TIL_COINCIDE : Nat := 0x40000220
abbrev TIL_DETAIL : Nat := 0x40000224

-- 04_islands_domains.md
abbrev PWR_SET : Nat := 0x40000300
abbrev PWR_CLR : Nat := 0x40000304
abbrev PWR_STATUS : Nat := 0x40000308
abbrev PWR_TRANS : Nat := 0x4000030C
abbrev PWR_FAIL : Nat := 0x40000310
abbrev PWR_STOP : Nat := 0x40000314
abbrev PWR_STOP_STAT : Nat := 0x40000318
abbrev PWR_WAKE_EN : Nat := 0x4000031C
abbrev PWR_WAKE_CAUSE : Nat := 0x40000320
abbrev PWR_WAKE_ON : Nat := 0x40000324
abbrev PWR_VEC_A : Nat := 0x40000328
abbrev PWR_VEC_B : Nat := 0x4000032C
abbrev PWR_STOP_TICKS_LO : Nat := 0x40000330
abbrev PWR_STOP_TICKS_HI : Nat := 0x40000334
abbrev PWR_COINCIDE : Nat := 0x40000338
abbrev CLK_STATUS : Nat := 0x4000033C
abbrev FLC_STATUS : Nat := 0x400E0000
abbrev FLC_CMD : Nat := 0x400E0004
abbrev FLC_ADDR : Nat := 0x400E0008
abbrev FLC_BUF (n : Nat) : Nat := 0x400E0010 + 0x4 * n
abbrev FLC_SCRUB_CFG : Nat := 0x400E0020
abbrev FLC_SCRUB_STAT : Nat := 0x400E0024
abbrev FLC_ECC_ADDR : Nat := 0x400E0028
abbrev FLC_COUNTS : Nat := 0x400E002C

-- 05_platform_sequencer.md
abbrev SEQ_STATUS : Nat := 0x40100000
abbrev SEQ_CMD : Nat := 0x40100004
abbrev SEQ_RAIL_EN : Nat := 0x40100008
abbrev SEQ_RAIL_PG : Nat := 0x4010000C
abbrev SEQ_RAIL_ORPHAN : Nat := 0x40100010
abbrev SEQ_DONE_LO : Nat := 0x40100014
abbrev SEQ_DONE_HI : Nat := 0x40100018
abbrev SEQ_ACTIVE_LO : Nat := 0x4010001C
abbrev SEQ_ACTIVE_HI : Nat := 0x40100020
abbrev SEQ_FAULTED_LO : Nat := 0x40100024
abbrev SEQ_FAULTED_HI : Nat := 0x40100028
abbrev SEQ_FAULT_LOG : Nat := 0x4010002C
abbrev SEQ_COND (n : Nat) : Nat := 0x40100030 + 0x4 * n
abbrev SEQ_COND_FIX : Nat := 0x40100040
abbrev SEQ_WIRE : Nat := 0x40100044
abbrev SEQ_WIRE_DEF : Nat := 0x40100048
abbrev SEQ_PFAIL : Nat := 0x4010004C
abbrev SEQ_POLICY : Nat := 0x40100050
abbrev SEQ_OVR : Nat := 0x40100054
abbrev SEQ_COINCIDE : Nat := 0x40100058
abbrev SEQ_MON (n : Nat) : Nat := 0x40100080 + 0x4 * n

-- 06_vault.md
abbrev VLT_STATUS : Nat := 0x40010000
abbrev VLT_START : Nat := 0x40010004
abbrev VLT_SERIAL : Nat := 0x40010008
abbrev VLT_FAILED_SERIAL : Nat := 0x4001000C
abbrev VLT_COMMIT : Nat := 0x40010010
abbrev VLT_DRAFT_DATA : Nat := 0x40010014
abbrev VLT_DRAFT_CTL : Nat := 0x40010018
abbrev VLT_FIND : Nat := 0x4001001C
abbrev VLT_FOUND : Nat := 0x40010020
abbrev VLT_LOG_D0 : Nat := 0x40010028
abbrev VLT_LOG_D1 : Nat := 0x4001002C
abbrev VLT_LOG_D2 : Nat := 0x40010030
abbrev VLT_LOG : Nat := 0x40010034
abbrev VLT_DAYBOOK : Nat := 0x40010038
abbrev VLT_COMMITS : Nat := 0x4001003C
abbrev VLT_LOST : Nat := 0x40010040
abbrev VLT_COINCIDE : Nat := 0x40010044
abbrev RSV_STATUS : Nat := 0x40130000
abbrev RSV_VHOLD : Nat := 0x40130004
abbrev RSV_CAP : Nat := 0x40130008
abbrev RSV_ENERGY : Nat := 0x4013000C
abbrev RSV_LOAD : Nat := 0x40130010
abbrev RSV_CFG : Nat := 0x40130014
abbrev RSV_MEASURE : Nat := 0x40130018
abbrev RSV_BUDGET : Nat := 0x4013001C
abbrev RSV_COINCIDE : Nat := 0x40130020

-- 07_kalsebel_architecture.md
abbrev EVT_VEC (n : Nat) : Nat := 0xE0000000 + 0x4 * n
abbrev EVT_EXC (n : Nat) : Nat := 0xE0000100 + 0x4 * n
abbrev EVT_PEND_LO : Nat := 0xE0000180
abbrev EVT_PEND_HI : Nat := 0xE0000184
abbrev EVT_EN_LO : Nat := 0xE0000188
abbrev EVT_EN_HI : Nat := 0xE000018C
abbrev EVT_TOP : Nat := 0xE0000190
abbrev EVT_WDOG_CTL : Nat := 0xE00001A0
abbrev EVT_WDOG_KICK : Nat := 0xE00001A4
abbrev EVT_COINCIDE : Nat := 0xE00001A8
abbrev EVT_ECC : Nat := 0xE00001AC

-- 09_address_map_clearing_house.md
abbrev KX_STATUS : Nat := 0x400F0000
abbrev KX_SWEV : Nat := 0x400F0004
abbrev KX_FORCE : Nat := 0x400F0008
abbrev KX_MERGED : Nat := 0x400F000C
abbrev KX_DROPPED : Nat := 0x400F0010
abbrev KX_COINCIDE : Nat := 0x400F0014
abbrev KX_LAST : Nat := 0x400F0018
abbrev KX_LEVEL (n : Nat) : Nat := 0x400F0040 + 0x4 * n
abbrev KX_SEEN (n : Nat) : Nat := 0x400F0080 + 0x4 * n

-- 10_host_tellers.md
abbrev HST_LINK : Nat := 0x40040000
abbrev HST_CAP_CFG : Nat := 0x40040004
abbrev HST_STATUS : Nat := 0x40040008
abbrev HST_ERR : Nat := 0x4004000C
abbrev HST_COINCIDE : Nat := 0x40040010
abbrev HST_VW_OUT : Nat := 0x40040020
abbrev HST_VW_IN : Nat := 0x40040024
abbrev HST_VW_GEN : Nat := 0x40040028
abbrev HST_VWG (n : Nat) : Nat := 0x40040040 + 0x4 * n
abbrev HST_KBC_STAT : Nat := 0x40040080
abbrev HST_KBC_CMD : Nat := 0x40040084
abbrev HST_KBC_PUT : Nat := 0x40040088
abbrev HST_ECI_STAT : Nat := 0x400400A0
abbrev HST_ECI_QUERY : Nat := 0x400400A4
abbrev HST_ECI_CMD : Nat := 0x400400A8
abbrev HST_ECI_PUT : Nat := 0x400400AC
abbrev HST_ECI_QSRC (n : Nat) : Nat := 0x400400C0 + 0x4 * n
abbrev HST_POST_LAST : Nat := 0x400400E0
abbrev HST_NVX_STAT : Nat := 0x400400E4
abbrev TLR_REQ_A : Nat := 0x40040100
abbrev TLR_REQ_DATA_A : Nat := 0x40040104
abbrev TLR_RSP_A : Nat := 0x40040108
abbrev TLR_REQ_B : Nat := 0x40040110
abbrev TLR_REQ_DATA_B : Nat := 0x40040114
abbrev TLR_RSP_B : Nat := 0x40040118
abbrev TLR_DENY_LOG : Nat := 0x40040120
abbrev TLR_TARDY_LOG : Nat := 0x40040124
abbrev TLR_STATUS : Nat := 0x40040128
abbrev TLR_COUNTS : Nat := 0x4004012C
abbrev HST_OOB_CTL : Nat := 0x40040140
abbrev HST_OOB_STAT : Nat := 0x40040144
abbrev HST_CONS_TX : Nat := 0x40040150
abbrev HST_CONS_STAT : Nat := 0x40040154

-- 11_keyboard.md
abbrev KBD_STATUS : Nat := 0x40050000
abbrev KBD_CFG : Nat := 0x40050004
abbrev KBD_TIMING : Nat := 0x40050008
abbrev KBD_HOSTCFG : Nat := 0x4005000C
abbrev KBD_CMD : Nat := 0x40050010
abbrev KBD_FIFO : Nat := 0x40050014
abbrev KBD_SETTLE : Nat := 0x40050018
abbrev KBD_LAYER : Nat := 0x4005001C
abbrev KBD_COUNTS : Nat := 0x40050020
abbrev KBD_COINCIDE : Nat := 0x40050024
abbrev KBD_RISE (n : Nat) : Nat := 0x40050040 + 0x4 * n
abbrev KBD_STATE (n : Nat) : Nat := 0x40050100 + 0x4 * n
abbrev KBD_RAW (n : Nat) : Nat := 0x40050180 + 0x4 * n

-- 12_time.md
abbrev TC_CTRL (n : Nat) : Nat := 0x40080000 + 0x80 * n
abbrev TC_PRESC (n : Nat) : Nat := 0x40080004 + 0x80 * n
abbrev TC_STAT (n : Nat) : Nat := 0x40080008 + 0x80 * n
abbrev TC_CMD (n : Nat) : Nat := 0x4008000C + 0x80 * n
abbrev TC_CNT_LO (n : Nat) : Nat := 0x40080010 + 0x80 * n
abbrev TC_CNT_HI (n : Nat) : Nat := 0x40080014 + 0x80 * n
abbrev TC_MISSED (n : Nat) : Nat := 0x40080018 + 0x80 * n
abbrev TC_CC_CFG (n m : Nat) : Nat := 0x40080020 + 0x80 * n + 0x10 * m
abbrev TC_CC_LO (n m : Nat) : Nat := 0x40080024 + 0x80 * n + 0x10 * m
abbrev TC_CC_HI (n m : Nat) : Nat := 0x40080028 + 0x80 * n + 0x10 * m
abbrev TC_STEP (n m : Nat) : Nat := 0x4008002C + 0x80 * n + 0x10 * m
abbrev TC_SNAP : Nat := 0x40080800
abbrev TC_SNAP_STAT : Nat := 0x40080804
abbrev TC_COINCIDE : Nat := 0x40080808
abbrev TC_OUT : Nat := 0x4008080C
abbrev TC_SNAP_LO (n : Nat) : Nat := 0x40080900 + 0x8 * n
abbrev TC_SNAP_HI (n : Nat) : Nat := 0x40080904 + 0x8 * n
abbrev CAL_STATUS : Nat := 0x40120000
abbrev CAL_NOW_LO : Nat := 0x40120004
abbrev CAL_NOW_HI : Nat := 0x40120008
abbrev CAL_SET_LO : Nat := 0x4012000C
abbrev CAL_SET_HI : Nat := 0x40120010
abbrev CAL_CMD : Nat := 0x40120014
abbrev CAL_RATE : Nat := 0x40120018
abbrev CAL_PHASE : Nat := 0x4012001C
abbrev CAL_PPS_COUNT : Nat := 0x40120020
abbrev CAL_ALARM0_LO : Nat := 0x40120024
abbrev CAL_ALARM0_HI : Nat := 0x40120028
abbrev CAL_ALARM1_LO : Nat := 0x4012002C
abbrev CAL_ALARM1_HI : Nat := 0x40120030
abbrev CAL_CFG : Nat := 0x40120034
abbrev CAL_COINCIDE : Nat := 0x40120038

-- 13_measurement.md
abbrev ADC_STAT : Nat := 0x40070000
abbrev ADC_CFG : Nat := 0x40070004
abbrev ADC_CMD : Nat := 0x40070008
abbrev ADC_COINCIDE : Nat := 0x4007000C
abbrev ADC_SLICE (n : Nat) : Nat := 0x40070010 + 0x4 * n
abbrev ADC_FAULT_LO : Nat := 0x40070020
abbrev ADC_FAULT_HI : Nat := 0x40070024
abbrev ADC_LIM_STAT : Nat := 0x40070028
abbrev ADC_CORR (n : Nat) : Nat := 0x40070030 + 0x4 * n
abbrev ADC_LIM (n : Nat) : Nat := 0x40070040 + 0x4 * n
abbrev ADC_SL_CFG (n : Nat) : Nat := 0x40070080 + 0x4 * n
abbrev ADC_SL_STAT (n : Nat) : Nat := 0x400700A0 + 0x4 * n
abbrev ADC_SL_OVR (n : Nat) : Nat := 0x400700C0 + 0x4 * n
abbrev ADC_CH (n : Nat) : Nat := 0x40070100 + 0x4 * n
abbrev ADC_ENT (n m : Nat) : Nat := 0x40070200 + 0x40 * n + 0x4 * m
abbrev ADC_RES (n m : Nat) : Nat := 0x40070400 + 0x40 * n + 0x4 * m
abbrev ADC_SURVEY (n : Nat) : Nat := 0x40070600 + 0x4 * n

-- 14_two_wire.md
abbrev TWB_CFG (n : Nat) : Nat := 0x40060000 + 0x100 * n
abbrev TWB_XFER (n : Nat) : Nat := 0x40060004 + 0x100 * n
abbrev TWB_CMD (n : Nat) : Nat := 0x40060008 + 0x100 * n
abbrev TWB_STAT (n : Nat) : Nat := 0x4006000C + 0x100 * n
abbrev TWB_TGT (n : Nat) : Nat := 0x40060010 + 0x100 * n
abbrev TWB_HN (n : Nat) : Nat := 0x40060014 + 0x100 * n
abbrev TWB_ARA (n : Nat) : Nat := 0x40060018 + 0x100 * n
abbrev TWB_ERR (n : Nat) : Nat := 0x4006001C + 0x100 * n
abbrev TWB_COUNTS (n : Nat) : Nat := 0x40060020 + 0x100 * n
abbrev TWB_TX (n m : Nat) : Nat := 0x40060040 + 0x100 * n + 0x4 * m
abbrev TWB_RX (n m : Nat) : Nat := 0x40060080 + 0x100 * n + 0x4 * m
abbrev TWB_COINCIDE : Nat := 0x40060800
abbrev TWB_SNS_CFG (n : Nat) : Nat := 0x40060900 + 0x8 * n
abbrev TWB_SNS (n : Nat) : Nat := 0x40060904 + 0x8 * n

-- 15_cooling.md
abbrev FAN_SAFE_STAT : Nat := 0x40000400
abbrev FAN_SAFE_CFG : Nat := 0x40000404
abbrev FAN_SAFE_HB : Nat := 0x40000408
abbrev FAN_SAFE_CMD : Nat := 0x4000040C
abbrev FAN_COINCIDE : Nat := 0x40000410
abbrev FAN_CFG (n : Nat) : Nat := 0x40030000 + 0x40 * n
abbrev FAN_LIMIT (n : Nat) : Nat := 0x40030004 + 0x40 * n
abbrev FAN_SET (n : Nat) : Nat := 0x40030008 + 0x40 * n
abbrev FAN_PI (n : Nat) : Nat := 0x4003000C + 0x40 * n
abbrev FAN_SRC (n : Nat) : Nat := 0x40030010 + 0x40 * n
abbrev FAN_STAT (n : Nat) : Nat := 0x40030014 + 0x40 * n
abbrev FAN_RPM (n : Nat) : Nat := 0x40030018 + 0x40 * n
abbrev FAN_TEMP (n : Nat) : Nat := 0x4003001C + 0x40 * n
abbrev FAN_AGE (n : Nat) : Nat := 0x40030020 + 0x40 * n
abbrev FAN_TBL (n m : Nat) : Nat := 0x40030200 + 0x20 * n + 0x4 * m
abbrev FAN_LEARN : Nat := 0x40030400
abbrev FAN_LEARN_STAT : Nat := 0x40030404
abbrev FAN_AGE_CFG : Nat := 0x40030408
abbrev FAN_LEARN_CFG : Nat := 0x4003040C

-- 16_lamps.md
abbrev LMX_CFG : Nat := 0x40090000
abbrev LMX_FRAME : Nat := 0x40090004
abbrev LMX_COLOUR_LO : Nat := 0x40090008
abbrev LMX_COLOUR_HI : Nat := 0x4009000C
abbrev LMX_TSRC : Nat := 0x40090010
abbrev LMX_CMD : Nat := 0x40090014
abbrev LMX_STAT : Nat := 0x40090018
abbrev LMX_SYNC_OVR : Nat := 0x4009001C
abbrev LMX_K (n : Nat) : Nat := 0x40090020 + 0x4 * n
abbrev LMX_FB (n : Nat) : Nat := 0x40091000 + 0x4 * n
abbrev LMX_FRONT (n : Nat) : Nat := 0x40091400 + 0x4 * n
abbrev LST_CFG : Nat := 0x400A0000
abbrev LST_TSRC : Nat := 0x400A0004
abbrev LST_CMD : Nat := 0x400A0008
abbrev LST_COINCIDE : Nat := 0x400A000C
abbrev LST_BST : Nat := 0x400A0010
abbrev LST_BST_TGT : Nat := 0x400A0014
abbrev LST_SHED_LOG : Nat := 0x400A0018
abbrev LST_K (n : Nat) : Nat := 0x400A0020 + 0x4 * n
abbrev LST_SCFG (n : Nat) : Nat := 0x400A0040 + 0x10 * n
abbrev LST_VAL (n : Nat) : Nat := 0x400A0044 + 0x10 * n
abbrev LST_LAMP (n : Nat) : Nat := 0x400A0048 + 0x10 * n
abbrev LST_STAT (n : Nat) : Nat := 0x400A004C + 0x10 * n
abbrev LST_VF (n m : Nat) : Nat := 0x400A0100 + 0x20 * n + 0x4 * m
abbrev LCH_CFG (n : Nat) : Nat := 0x400B0000 + 0x20 * n
abbrev LCH_FRAME (n : Nat) : Nat := 0x400B0004 + 0x20 * n
abbrev LCH_CMD (n : Nat) : Nat := 0x400B0008 + 0x20 * n
abbrev LCH_STAT (n : Nat) : Nat := 0x400B000C + 0x20 * n
abbrev LCH_RT (n : Nat) : Nat := 0x400B0010 + 0x20 * n
abbrev LCH_OVR (n : Nat) : Nat := 0x400B0014 + 0x20 * n
abbrev LCH_TSRC : Nat := 0x400B0080
abbrev LCH_COINCIDE : Nat := 0x400B0084
abbrev LCH_RT_MAX : Nat := 0x400B0088
abbrev LCH_K (n : Nat) : Nat := 0x400B0090 + 0x4 * n
abbrev LCH_BK (n m : Nat) : Nat := 0x400B1000 + 0x800 * n + 0x4 * m
abbrev LCH_FR (n m : Nat) : Nat := 0x400B3000 + 0x800 * n + 0x4 * m

-- 17_current_loops.md
abbrev LOOP_CFG (n : Nat) : Nat := 0x400C0000 + 0x40 * n
abbrev LOOP_MAP (n : Nat) : Nat := 0x400C0004 + 0x40 * n
abbrev LOOP_CMD (n : Nat) : Nat := 0x400C0008 + 0x40 * n
abbrev LOOP_STAT (n : Nat) : Nat := 0x400C000C + 0x40 * n
abbrev LOOP_TARGET (n : Nat) : Nat := 0x400C0010 + 0x40 * n
abbrev LOOP_TRIM (n : Nat) : Nat := 0x400C0014 + 0x40 * n
abbrev LOOP_MEAS (n : Nat) : Nat := 0x400C0018 + 0x40 * n
abbrev LOOP_RES (n : Nat) : Nat := 0x400C001C + 0x40 * n
abbrev LOOP_OP (n : Nat) : Nat := 0x400C0020 + 0x40 * n
abbrev LOOP_COINCIDE : Nat := 0x400C0080

-- 18_status_panel.md
abbrev DSP_CTRL : Nat := 0x400D0000
abbrev DSP_STATUS : Nat := 0x400D0004
abbrev DSP_COMMIT : Nat := 0x400D0008
abbrev DSP_FRAMES : Nat := 0x400D000C
abbrev DSP_COINCIDE : Nat := 0x400D0010
abbrev DSP_PCLK_ACT : Nat := 0x400D0014
abbrev DSP_LINE_AT : Nat := 0x400D0020
abbrev DSP_FILL : Nat := 0x400D0024
abbrev DSP_CSC : Nat := 0x400D0028
abbrev DSP_B_CFG : Nat := 0x400D0030
abbrev DSP_B_ADDR : Nat := 0x400D0034
abbrev DSP_B_PITCH : Nat := 0x400D0038
abbrev DSP_B_CADDR : Nat := 0x400D003C
abbrev DSP_O_CFG : Nat := 0x400D0040
abbrev DSP_O_ADDR : Nat := 0x400D0044
abbrev DSP_O_PITCH : Nat := 0x400D0048
abbrev DSP_O_CADDR : Nat := 0x400D004C
abbrev DSP_O_POS : Nat := 0x400D0050
abbrev DSP_O_SIZE : Nat := 0x400D0054
abbrev DSP_O_KEY : Nat := 0x400D0058
abbrev DSP_TXT : Nat := 0x400D005C
abbrev DSP_LS_CFG : Nat := 0x400D0060
abbrev DSP_LS_B_ADDR : Nat := 0x400D0064
abbrev DSP_LS_O_ADDR : Nat := 0x400D0068
abbrev DSP_LS_O_CFG : Nat := 0x400D006C
abbrev DSP_LS_B_CADDR : Nat := 0x400D0070
abbrev DSP_CRC_SENT : Nat := 0x400D0200
abbrev DSP_CRC_SEEN : Nat := 0x400D0204
abbrev DSP_CRC_STAT : Nat := 0x400D0208
abbrev DSP_CRC_COUNT : Nat := 0x400D020C
abbrev DSP_UNDER : Nat := 0x400D0210
abbrev DSP_XSPI_CFG : Nat := 0x400D0300
abbrev DSP_XSPI_CMD : Nat := 0x400D0304
abbrev DSP_XSPI_ADDR : Nat := 0x400D0308
abbrev DSP_XSPI_STAT : Nat := 0x400D030C
abbrev DSP_XSPI_BUF (n : Nat) : Nat := 0x400D0400 + 0x4 * n

-- 19_audit_lifecycle.md
abbrev SEAL_STATUS : Nat := 0x40020000
abbrev SEAL_CMD : Nat := 0x40020004
abbrev SEAL_CFG : Nat := 0x40020008
abbrev SEAL_SRC : Nat := 0x4002000C
abbrev SEAL_DST : Nat := 0x40020010
abbrev SEAL_LEN : Nat := 0x40020014
abbrev SEAL_RNG : Nat := 0x40020018
abbrev SEAL_KS_STAT : Nat := 0x4002001C
abbrev SEAL_IV (n : Nat) : Nat := 0x40020020 + 0x4 * n
abbrev SEAL_DIGEST (n : Nat) : Nat := 0x40020040 + 0x4 * n
abbrev SEAL_KEY (n : Nat) : Nat := 0x40020060 + 0x4 * n
abbrev SEAL_OPND (n : Nat) : Nat := 0x40020080 + 0x4 * n
abbrev AUD_STATUS : Nat := 0x40110000
abbrev AUD_CFG : Nat := 0x40110004
abbrev AUD_LAST_LO : Nat := 0x40110008
abbrev AUD_LAST_HI : Nat := 0x4011000C
abbrev AUD_COINCIDE : Nat := 0x40110010
abbrev AUD_EXTRA : Nat := 0x40110014
abbrev AUD_LC_STATE : Nat := 0x40110020
abbrev AUD_LC_CMD : Nat := 0x40110024
abbrev AUD_LC_RESULT : Nat := 0x40110028
abbrev AUD_UID (n : Nat) : Nat := 0x40110030 + 0x4 * n
abbrev AUD_LC_NONCE (n : Nat) : Nat := 0x40110040 + 0x4 * n
abbrev AUD_LC_BUF (n : Nat) : Nat := 0x40110100 + 0x4 * n

-- 20_balls_pins.md
abbrev AO_PAD_STAT : Nat := 0x40000020

end Reg

namespace F


-- 01_first_light.md
abbrev AO_RESET_CAUSE_SWR_LAST : Fld := ⟨Reg.AO_RESET_CAUSE, 28, 24⟩
abbrev AO_RESET_CAUSE_HRST : Fld := ⟨Reg.AO_RESET_CAUSE, 7, 7⟩
abbrev AO_RESET_CAUSE_SWR : Fld := ⟨Reg.AO_RESET_CAUSE, 6, 6⟩
abbrev AO_RESET_CAUSE_LDR : Fld := ⟨Reg.AO_RESET_CAUSE, 5, 5⟩
abbrev AO_RESET_CAUSE_WDR_DEV : Fld := ⟨Reg.AO_RESET_CAUSE, 4, 4⟩
abbrev AO_RESET_CAUSE_WDR_B : Fld := ⟨Reg.AO_RESET_CAUSE, 3, 3⟩
abbrev AO_RESET_CAUSE_WDR_A : Fld := ⟨Reg.AO_RESET_CAUSE, 2, 2⟩
abbrev AO_RESET_CAUSE_BOR : Fld := ⟨Reg.AO_RESET_CAUSE, 1, 1⟩
abbrev AO_RESET_CAUSE_POR : Fld := ⟨Reg.AO_RESET_CAUSE, 0, 0⟩
abbrev AO_FL_STATUS_LGR_A_CODE : Fld := ⟨Reg.AO_FL_STATUS, 31, 28⟩
abbrev AO_FL_STATUS_LGR_B_CODE : Fld := ⟨Reg.AO_FL_STATUS, 27, 24⟩
abbrev AO_FL_STATUS_BARE : Fld := ⟨Reg.AO_FL_STATUS, 23, 23⟩
abbrev AO_FL_STATUS_STORE : Fld := ⟨Reg.AO_FL_STATUS, 22, 22⟩
abbrev AO_FL_STATUS_CORE_B_ON : Fld := ⟨Reg.AO_FL_STATUS, 17, 17⟩
abbrev AO_FL_STATUS_FW_NONE : Fld := ⟨Reg.AO_FL_STATUS, 16, 16⟩
abbrev AO_FL_STATUS_IMG0_CODE : Fld := ⟨Reg.AO_FL_STATUS, 15, 12⟩
abbrev AO_FL_STATUS_IMG1_CODE : Fld := ⟨Reg.AO_FL_STATUS, 11, 8⟩
abbrev AO_FL_STATUS_HALF : Fld := ⟨Reg.AO_FL_STATUS, 7, 7⟩
abbrev AO_FL_STATUS_READY : Fld := ⟨Reg.AO_FL_STATUS, 1, 1⟩
abbrev AO_FL_STATUS_LEDGER_OK : Fld := ⟨Reg.AO_FL_STATUS, 0, 0⟩
abbrev AO_FL_TIME_T_VERIFY : Fld := ⟨Reg.AO_FL_TIME, 31, 16⟩
abbrev AO_FL_TIME_T_READY : Fld := ⟨Reg.AO_FL_TIME, 15, 0⟩
abbrev AO_FL_TFW_T_FIRMWARE : Fld := ⟨Reg.AO_FL_TFW, 15, 0⟩
abbrev AO_SWR_KEY : Fld := ⟨Reg.AO_SWR, 31, 24⟩
abbrev AO_SWR_DOMAIN : Fld := ⟨Reg.AO_SWR, 23, 0⟩
abbrev AO_LDR_KEY : Fld := ⟨Reg.AO_LDR, 31, 24⟩
abbrev AO_LDR_SEQ : Fld := ⟨Reg.AO_LDR, 1, 1⟩
abbrev AO_LDR_GO : Fld := ⟨Reg.AO_LDR, 0, 0⟩

-- 02_ledger.md
abbrev LGR_STATUS_DEV_EPOCH : Fld := ⟨Reg.LGR_STATUS, 21, 16⟩
abbrev LGR_STATUS_CHECK_CODE : Fld := ⟨Reg.LGR_STATUS, 11, 8⟩
abbrev LGR_STATUS_CHECK_DONE : Fld := ⟨Reg.LGR_STATUS, 7, 7⟩
abbrev LGR_STATUS_CHECK_BUSY : Fld := ⟨Reg.LGR_STATUS, 6, 6⟩
abbrev LGR_STATUS_CHECK_STORE : Fld := ⟨Reg.LGR_STATUS, 5, 5⟩
abbrev LGR_STATUS_WR_REFUSED : Fld := ⟨Reg.LGR_STATUS, 4, 4⟩
abbrev LGR_STATUS_WR_OPEN : Fld := ⟨Reg.LGR_STATUS, 3, 3⟩
abbrev LGR_STATUS_WR_STORE : Fld := ⟨Reg.LGR_STATUS, 2, 2⟩
abbrev LGR_STATUS_WR_OWNER : Fld := ⟨Reg.LGR_STATUS, 1, 1⟩
abbrev LGR_STATUS_WR_JTAG : Fld := ⟨Reg.LGR_STATUS, 0, 0⟩
abbrev LGR_A_SERIAL_SERIAL : Fld := ⟨Reg.LGR_A_SERIAL, 31, 0⟩
abbrev LGR_B_SERIAL_SERIAL : Fld := ⟨Reg.LGR_B_SERIAL, 31, 0⟩
abbrev LGR_A_DETAIL_SECTION : Fld := ⟨Reg.LGR_A_DETAIL, 23, 16⟩
abbrev LGR_A_DETAIL_ENTRY : Fld := ⟨Reg.LGR_A_DETAIL, 15, 0⟩
abbrev LGR_B_DETAIL_SECTION : Fld := ⟨Reg.LGR_B_DETAIL, 23, 16⟩
abbrev LGR_B_DETAIL_ENTRY : Fld := ⟨Reg.LGR_B_DETAIL, 15, 0⟩
abbrev LGR_WR_CTRL_KEY : Fld := ⟨Reg.LGR_WR_CTRL, 31, 24⟩
abbrev LGR_WR_CTRL_STORE : Fld := ⟨Reg.LGR_WR_CTRL, 1, 1⟩
abbrev LGR_WR_CTRL_OPEN : Fld := ⟨Reg.LGR_WR_CTRL, 0, 0⟩
abbrev LGR_WR_ADDR_WORD : Fld := ⟨Reg.LGR_WR_ADDR, 15, 2⟩
abbrev LGR_WR_DATA_DATA : Fld := ⟨Reg.LGR_WR_DATA, 31, 0⟩
abbrev LGR_CHECK_STORE : Fld := ⟨Reg.LGR_CHECK, 1, 1⟩
abbrev LGR_CHECK_GO : Fld := ⟨Reg.LGR_CHECK, 0, 0⟩
abbrev LGR_COINCIDE_COUNT : Fld := ⟨Reg.LGR_COINCIDE, 15, 0⟩

-- 03_tills_reconcile.md
abbrev TIL_RECON_KEY : Fld := ⟨Reg.TIL_RECON, 31, 24⟩
abbrev TIL_RECON_LIMIT : Fld := ⟨Reg.TIL_RECON, 23, 16⟩
abbrev TIL_RECON_INDEX : Fld := ⟨Reg.TIL_RECON, 13, 8⟩
abbrev TIL_RECON_GO : Fld := ⟨Reg.TIL_RECON, 0, 0⟩
abbrev TIL_STATUS_CODE : Fld := ⟨Reg.TIL_STATUS, 27, 24⟩
abbrev TIL_STATUS_INDEX : Fld := ⟨Reg.TIL_STATUS, 21, 16⟩
abbrev TIL_STATUS_REFUSED : Fld := ⟨Reg.TIL_STATUS, 3, 3⟩
abbrev TIL_STATUS_DONE : Fld := ⟨Reg.TIL_STATUS, 2, 2⟩
abbrev TIL_STATUS_WAITING : Fld := ⟨Reg.TIL_STATUS, 1, 1⟩
abbrev TIL_STATUS_BUSY : Fld := ⟨Reg.TIL_STATUS, 0, 0⟩
abbrev TIL_DIV_LO_DIV : Fld := ⟨Reg.TIL_DIV_LO, 31, 0⟩
abbrev TIL_DIV_HI_DIV : Fld := ⟨Reg.TIL_DIV_HI, 15, 0⟩
abbrev TIL_NOW_LO_NOW : Fld := ⟨Reg.TIL_NOW_LO, 31, 0⟩
abbrev TIL_NOW_HI_NOW : Fld := ⟨Reg.TIL_NOW_HI, 15, 0⟩
abbrev TIL_CRC_SEL_INDEX : Fld := ⟨Reg.TIL_CRC_SEL, 5, 0⟩
abbrev TIL_CRC_CRC : Fld := ⟨Reg.TIL_CRC, 31, 0⟩
abbrev TIL_COINCIDE_COUNT : Fld := ⟨Reg.TIL_COINCIDE, 15, 0⟩
abbrev TIL_DETAIL_ENTRY : Fld := ⟨Reg.TIL_DETAIL, 15, 0⟩

-- 04_islands_domains.md
abbrev PWR_SET_KEY : Fld := ⟨Reg.PWR_SET, 31, 24⟩
abbrev PWR_SET_DOMAIN : Fld := ⟨Reg.PWR_SET, 23, 0⟩
abbrev PWR_CLR_KEY : Fld := ⟨Reg.PWR_CLR, 31, 24⟩
abbrev PWR_CLR_DOMAIN : Fld := ⟨Reg.PWR_CLR, 23, 0⟩
abbrev PWR_STATUS_ON : Fld := ⟨Reg.PWR_STATUS, 23, 0⟩
abbrev PWR_TRANS_BUSY : Fld := ⟨Reg.PWR_TRANS, 23, 0⟩
abbrev PWR_FAIL_REFUSED : Fld := ⟨Reg.PWR_FAIL, 31, 31⟩
abbrev PWR_FAIL_FAIL : Fld := ⟨Reg.PWR_FAIL, 23, 0⟩
abbrev PWR_STOP_KEY : Fld := ⟨Reg.PWR_STOP, 31, 24⟩
abbrev PWR_STOP_RET : Fld := ⟨Reg.PWR_STOP, 19, 16⟩
abbrev PWR_STOP_WAITLIM : Fld := ⟨Reg.PWR_STOP, 15, 8⟩
abbrev PWR_STOP_GO : Fld := ⟨Reg.PWR_STOP, 0, 0⟩
abbrev PWR_STOP_STAT_CODE : Fld := ⟨Reg.PWR_STOP_STAT, 31, 28⟩
abbrev PWR_STOP_STAT_EST_UA : Fld := ⟨Reg.PWR_STOP_STAT, 27, 16⟩
abbrev PWR_STOP_STAT_TJ_USED : Fld := ⟨Reg.PWR_STOP_STAT, 15, 8⟩
abbrev PWR_STOP_STAT_SUBST : Fld := ⟨Reg.PWR_STOP_STAT, 7, 7⟩
abbrev PWR_STOP_STAT_STOPS : Fld := ⟨Reg.PWR_STOP_STAT, 6, 0⟩
abbrev PWR_WAKE_EN_BUDGET : Fld := ⟨Reg.PWR_WAKE_EN, 18, 18⟩
abbrev PWR_WAKE_EN_XT32_FAIL : Fld := ⟨Reg.PWR_WAKE_EN, 17, 17⟩
abbrev PWR_WAKE_EN_FREEZE : Fld := ⟨Reg.PWR_WAKE_EN, 16, 16⟩
abbrev PWR_WAKE_EN_WAKE_PIN : Fld := ⟨Reg.PWR_WAKE_EN, 15, 8⟩
abbrev PWR_WAKE_EN_ROUTE : Fld := ⟨Reg.PWR_WAKE_EN, 6, 6⟩
abbrev PWR_WAKE_EN_SEQ : Fld := ⟨Reg.PWR_WAKE_EN, 5, 5⟩
abbrev PWR_WAKE_EN_PFAIL : Fld := ⟨Reg.PWR_WAKE_EN, 4, 4⟩
abbrev PWR_WAKE_EN_CAL : Fld := ⟨Reg.PWR_WAKE_EN, 3, 3⟩
abbrev PWR_WAKE_EN_CONS : Fld := ⟨Reg.PWR_WAKE_EN, 2, 2⟩
abbrev PWR_WAKE_EN_ESPI_RST : Fld := ⟨Reg.PWR_WAKE_EN, 1, 1⟩
abbrev PWR_WAKE_EN_KBD : Fld := ⟨Reg.PWR_WAKE_EN, 0, 0⟩
abbrev PWR_WAKE_CAUSE_BUDGET : Fld := ⟨Reg.PWR_WAKE_CAUSE, 18, 18⟩
abbrev PWR_WAKE_CAUSE_XT32_FAIL : Fld := ⟨Reg.PWR_WAKE_CAUSE, 17, 17⟩
abbrev PWR_WAKE_CAUSE_FREEZE : Fld := ⟨Reg.PWR_WAKE_CAUSE, 16, 16⟩
abbrev PWR_WAKE_CAUSE_WAKE_PIN : Fld := ⟨Reg.PWR_WAKE_CAUSE, 15, 8⟩
abbrev PWR_WAKE_CAUSE_ROUTE : Fld := ⟨Reg.PWR_WAKE_CAUSE, 6, 6⟩
abbrev PWR_WAKE_CAUSE_SEQ : Fld := ⟨Reg.PWR_WAKE_CAUSE, 5, 5⟩
abbrev PWR_WAKE_CAUSE_PFAIL : Fld := ⟨Reg.PWR_WAKE_CAUSE, 4, 4⟩
abbrev PWR_WAKE_CAUSE_CAL : Fld := ⟨Reg.PWR_WAKE_CAUSE, 3, 3⟩
abbrev PWR_WAKE_CAUSE_CONS : Fld := ⟨Reg.PWR_WAKE_CAUSE, 2, 2⟩
abbrev PWR_WAKE_CAUSE_ESPI_RST : Fld := ⟨Reg.PWR_WAKE_CAUSE, 1, 1⟩
abbrev PWR_WAKE_CAUSE_KBD : Fld := ⟨Reg.PWR_WAKE_CAUSE, 0, 0⟩
abbrev PWR_WAKE_ON_DOMAIN : Fld := ⟨Reg.PWR_WAKE_ON, 23, 0⟩
abbrev PWR_VEC_A_ADDR : Fld := ⟨Reg.PWR_VEC_A, 31, 2⟩
abbrev PWR_VEC_B_ADDR : Fld := ⟨Reg.PWR_VEC_B, 31, 2⟩
abbrev PWR_STOP_TICKS_LO_E_LO : Fld := ⟨Reg.PWR_STOP_TICKS_LO, 31, 0⟩
abbrev PWR_STOP_TICKS_HI_E_HI : Fld := ⟨Reg.PWR_STOP_TICKS_HI, 15, 0⟩
abbrev PWR_COINCIDE_COUNT : Fld := ⟨Reg.PWR_COINCIDE, 15, 0⟩
abbrev CLK_STATUS_XT32_OK : Fld := ⟨Reg.CLK_STATUS, 31, 31⟩
abbrev CLK_STATUS_TRIM_LOCK : Fld := ⟨Reg.CLK_STATUS, 30, 30⟩
abbrev CLK_STATUS_PLL_LOCK : Fld := ⟨Reg.CLK_STATUS, 29, 29⟩
abbrev CLK_STATUS_TRIM : Fld := ⟨Reg.CLK_STATUS, 11, 0⟩
abbrev FLC_STATUS_BUSY : Fld := ⟨Reg.FLC_STATUS, 31, 31⟩
abbrev FLC_STATUS_DONE : Fld := ⟨Reg.FLC_STATUS, 30, 30⟩
abbrev FLC_STATUS_CODE : Fld := ⟨Reg.FLC_STATUS, 29, 27⟩
abbrev FLC_STATUS_BLANK : Fld := ⟨Reg.FLC_STATUS, 26, 26⟩
abbrev FLC_STATUS_ECC : Fld := ⟨Reg.FLC_STATUS, 25, 25⟩
abbrev FLC_STATUS_REFUSED : Fld := ⟨Reg.FLC_STATUS, 24, 24⟩
abbrev FLC_CMD_KEY : Fld := ⟨Reg.FLC_CMD, 31, 24⟩
abbrev FLC_CMD_OP : Fld := ⟨Reg.FLC_CMD, 10, 8⟩
abbrev FLC_CMD_ABORT : Fld := ⟨Reg.FLC_CMD, 1, 1⟩
abbrev FLC_CMD_GO : Fld := ⟨Reg.FLC_CMD, 0, 0⟩
abbrev FLC_ADDR_ADDR : Fld := ⟨Reg.FLC_ADDR, 20, 0⟩
abbrev FLC_BUF_BYTES (n : Nat) : Fld := ⟨(Reg.FLC_BUF n), 31, 0⟩
abbrev FLC_SCRUB_CFG_PERIOD : Fld := ⟨Reg.FLC_SCRUB_CFG, 31, 24⟩
abbrev FLC_SCRUB_CFG_EN : Fld := ⟨Reg.FLC_SCRUB_CFG, 8, 8⟩
abbrev FLC_SCRUB_CFG_LIMIT : Fld := ⟨Reg.FLC_SCRUB_CFG, 7, 0⟩
abbrev FLC_SCRUB_STAT_PASSES : Fld := ⟨Reg.FLC_SCRUB_STAT, 31, 24⟩
abbrev FLC_SCRUB_STAT_NEXT_ROW : Fld := ⟨Reg.FLC_SCRUB_STAT, 16, 0⟩
abbrev FLC_ECC_ADDR_VALID : Fld := ⟨Reg.FLC_ECC_ADDR, 31, 31⟩
abbrev FLC_ECC_ADDR_DOUBLE : Fld := ⟨Reg.FLC_ECC_ADDR, 30, 30⟩
abbrev FLC_ECC_ADDR_ROW : Fld := ⟨Reg.FLC_ECC_ADDR, 20, 4⟩
abbrev FLC_COUNTS_CORRECTED : Fld := ⟨Reg.FLC_COUNTS, 31, 16⟩
abbrev FLC_COUNTS_ERASES : Fld := ⟨Reg.FLC_COUNTS, 15, 0⟩

-- 05_platform_sequencer.md
abbrev SEQ_STATUS_LOCKOUT : Fld := ⟨Reg.SEQ_STATUS, 4, 4⟩
abbrev SEQ_STATUS_PFAIL_HOLD : Fld := ⟨Reg.SEQ_STATUS, 3, 3⟩
abbrev SEQ_STATUS_PFAIL_PIN : Fld := ⟨Reg.SEQ_STATUS, 2, 2⟩
abbrev SEQ_STATUS_RUN : Fld := ⟨Reg.SEQ_STATUS, 1, 1⟩
abbrev SEQ_STATUS_IDLE : Fld := ⟨Reg.SEQ_STATUS, 0, 0⟩
abbrev SEQ_CMD_KEY : Fld := ⟨Reg.SEQ_CMD, 31, 24⟩
abbrev SEQ_CMD_ARG : Fld := ⟨Reg.SEQ_CMD, 14, 8⟩
abbrev SEQ_CMD_CODE : Fld := ⟨Reg.SEQ_CMD, 3, 0⟩
abbrev SEQ_RAIL_EN_EN : Fld := ⟨Reg.SEQ_RAIL_EN, 31, 0⟩
abbrev SEQ_RAIL_PG_PG : Fld := ⟨Reg.SEQ_RAIL_PG, 31, 0⟩
abbrev SEQ_RAIL_ORPHAN_ORPHAN : Fld := ⟨Reg.SEQ_RAIL_ORPHAN, 31, 0⟩
abbrev SEQ_DONE_LO_DONE : Fld := ⟨Reg.SEQ_DONE_LO, 31, 0⟩
abbrev SEQ_DONE_HI_DONE : Fld := ⟨Reg.SEQ_DONE_HI, 31, 0⟩
abbrev SEQ_ACTIVE_LO_ACTIVE : Fld := ⟨Reg.SEQ_ACTIVE_LO, 31, 0⟩
abbrev SEQ_ACTIVE_HI_ACTIVE : Fld := ⟨Reg.SEQ_ACTIVE_HI, 31, 0⟩
abbrev SEQ_FAULTED_LO_FAULTED : Fld := ⟨Reg.SEQ_FAULTED_LO, 31, 0⟩
abbrev SEQ_FAULTED_HI_FAULTED : Fld := ⟨Reg.SEQ_FAULTED_HI, 31, 0⟩
abbrev SEQ_FAULT_LOG_STEP : Fld := ⟨Reg.SEQ_FAULT_LOG, 31, 26⟩
abbrev SEQ_FAULT_LOG_RAIL : Fld := ⟨Reg.SEQ_FAULT_LOG, 25, 21⟩
abbrev SEQ_FAULT_LOG_KIND : Fld := ⟨Reg.SEQ_FAULT_LOG, 20, 18⟩
abbrev SEQ_FAULT_LOG_RESP : Fld := ⟨Reg.SEQ_FAULT_LOG, 17, 16⟩
abbrev SEQ_FAULT_LOG_TIME : Fld := ⟨Reg.SEQ_FAULT_LOG, 15, 0⟩
abbrev SEQ_COND_COND (n : Nat) : Fld := ⟨(Reg.SEQ_COND n), 31, 0⟩
abbrev SEQ_COND_FIX_COND : Fld := ⟨Reg.SEQ_COND_FIX, 31, 0⟩
abbrev SEQ_WIRE_SW : Fld := ⟨Reg.SEQ_WIRE, 31, 0⟩
abbrev SEQ_WIRE_DEF_DEF : Fld := ⟨Reg.SEQ_WIRE_DEF, 31, 0⟩
abbrev SEQ_PFAIL_RECOVER : Fld := ⟨Reg.SEQ_PFAIL, 31, 24⟩
abbrev SEQ_PFAIL_HOLD_MS : Fld := ⟨Reg.SEQ_PFAIL, 23, 16⟩
abbrev SEQ_PFAIL_FILTER_US : Fld := ⟨Reg.SEQ_PFAIL, 15, 8⟩
abbrev SEQ_PFAIL_DROP : Fld := ⟨Reg.SEQ_PFAIL, 0, 0⟩
abbrev SEQ_POLICY_OFF_MIN : Fld := ⟨Reg.SEQ_POLICY, 31, 24⟩
abbrev SEQ_POLICY_SRC : Fld := ⟨Reg.SEQ_POLICY, 3, 3⟩
abbrev SEQ_POLICY_LAST : Fld := ⟨Reg.SEQ_POLICY, 2, 2⟩
abbrev SEQ_POLICY_POLICY : Fld := ⟨Reg.SEQ_POLICY, 1, 0⟩
abbrev SEQ_OVR_COUNT : Fld := ⟨Reg.SEQ_OVR, 15, 0⟩
abbrev SEQ_COINCIDE_COUNT : Fld := ⟨Reg.SEQ_COINCIDE, 15, 0⟩
abbrev SEQ_MON_IN_WIN (n : Nat) : Fld := ⟨(Reg.SEQ_MON n), 31, 31⟩
abbrev SEQ_MON_ABOVE (n : Nat) : Fld := ⟨(Reg.SEQ_MON n), 30, 30⟩
abbrev SEQ_MON_BELOW (n : Nat) : Fld := ⟨(Reg.SEQ_MON n), 29, 29⟩
abbrev SEQ_MON_MV (n : Nat) : Fld := ⟨(Reg.SEQ_MON n), 11, 0⟩

-- 06_vault.md
abbrev VLT_STATUS_CODE : Fld := ⟨Reg.VLT_STATUS, 31, 28⟩
abbrev VLT_STATUS_READ_ERR : Fld := ⟨Reg.VLT_STATUS, 24, 24⟩
abbrev VLT_STATUS_BUSY : Fld := ⟨Reg.VLT_STATUS, 23, 23⟩
abbrev VLT_STATUS_WAITING : Fld := ⟨Reg.VLT_STATUS, 22, 22⟩
abbrev VLT_STATUS_HW_PENDING : Fld := ⟨Reg.VLT_STATUS, 21, 21⟩
abbrev VLT_STATUS_ACTIVE : Fld := ⟨Reg.VLT_STATUS, 20, 20⟩
abbrev VLT_STATUS_NO_BANK : Fld := ⟨Reg.VLT_STATUS, 19, 19⟩
abbrev VLT_STATUS_DONE : Fld := ⟨Reg.VLT_STATUS, 18, 18⟩
abbrev VLT_STATUS_REFUSED : Fld := ⟨Reg.VLT_STATUS, 17, 17⟩
abbrev VLT_STATUS_CLASH : Fld := ⟨Reg.VLT_STATUS, 16, 16⟩
abbrev VLT_STATUS_FILL : Fld := ⟨Reg.VLT_STATUS, 10, 0⟩
abbrev VLT_START_CODE : Fld := ⟨Reg.VLT_START, 31, 28⟩
abbrev VLT_START_A_STATE : Fld := ⟨Reg.VLT_START, 27, 26⟩
abbrev VLT_START_B_STATE : Fld := ⟨Reg.VLT_START, 25, 24⟩
abbrev VLT_START_ACTIVE : Fld := ⟨Reg.VLT_START, 0, 0⟩
abbrev VLT_SERIAL_SERIAL : Fld := ⟨Reg.VLT_SERIAL, 31, 0⟩
abbrev VLT_FAILED_SERIAL_SERIAL : Fld := ⟨Reg.VLT_FAILED_SERIAL, 31, 0⟩
abbrev VLT_COMMIT_KEY : Fld := ⟨Reg.VLT_COMMIT, 31, 24⟩
abbrev VLT_COMMIT_WAIT : Fld := ⟨Reg.VLT_COMMIT, 23, 16⟩
abbrev VLT_COMMIT_GO : Fld := ⟨Reg.VLT_COMMIT, 0, 0⟩
abbrev VLT_DRAFT_DATA_DATA : Fld := ⟨Reg.VLT_DRAFT_DATA, 31, 0⟩
abbrev VLT_DRAFT_CTL_CLEAR : Fld := ⟨Reg.VLT_DRAFT_CTL, 0, 0⟩
abbrev VLT_FIND_ID : Fld := ⟨Reg.VLT_FIND, 15, 0⟩
abbrev VLT_FOUND_FOUND : Fld := ⟨Reg.VLT_FOUND, 31, 31⟩
abbrev VLT_FOUND_DEFAULT : Fld := ⟨Reg.VLT_FOUND, 30, 30⟩
abbrev VLT_FOUND_LEN : Fld := ⟨Reg.VLT_FOUND, 29, 24⟩
abbrev VLT_FOUND_OFFSET : Fld := ⟨Reg.VLT_FOUND, 15, 0⟩
abbrev VLT_LOG_D0_DATA : Fld := ⟨Reg.VLT_LOG_D0, 31, 0⟩
abbrev VLT_LOG_D1_DATA : Fld := ⟨Reg.VLT_LOG_D1, 31, 0⟩
abbrev VLT_LOG_D2_DATA : Fld := ⟨Reg.VLT_LOG_D2, 31, 0⟩
abbrev VLT_LOG_TYPE : Fld := ⟨Reg.VLT_LOG, 7, 0⟩
abbrev VLT_DAYBOOK_QUEUED : Fld := ⟨Reg.VLT_DAYBOOK, 20, 16⟩
abbrev VLT_DAYBOOK_NEXT : Fld := ⟨Reg.VLT_DAYBOOK, 8, 0⟩
abbrev VLT_COMMITS_COUNT : Fld := ⟨Reg.VLT_COMMITS, 31, 0⟩
abbrev VLT_LOST_COUNT : Fld := ⟨Reg.VLT_LOST, 15, 0⟩
abbrev VLT_COINCIDE_COUNT : Fld := ⟨Reg.VLT_COINCIDE, 15, 0⟩
abbrev RSV_STATUS_VALID : Fld := ⟨Reg.RSV_STATUS, 31, 31⟩
abbrev RSV_STATUS_MEASURING : Fld := ⟨Reg.RSV_STATUS, 30, 30⟩
abbrev RSV_STATUS_CAP_LOW : Fld := ⟨Reg.RSV_STATUS, 29, 29⟩
abbrev RSV_STATUS_LOAD_HIGH : Fld := ⟨Reg.RSV_STATUS, 28, 28⟩
abbrev RSV_STATUS_GATE : Fld := ⟨Reg.RSV_STATUS, 27, 27⟩
abbrev RSV_VHOLD_MV : Fld := ⟨Reg.RSV_VHOLD, 11, 0⟩
abbrev RSV_CAP_UF : Fld := ⟨Reg.RSV_CAP, 15, 0⟩
abbrev RSV_ENERGY_UJ : Fld := ⟨Reg.RSV_ENERGY, 23, 0⟩
abbrev RSV_LOAD_MA : Fld := ⟨Reg.RSV_LOAD, 7, 0⟩
abbrev RSV_CFG_PERIOD : Fld := ⟨Reg.RSV_CFG, 31, 24⟩
abbrev RSV_CFG_I_BUDGET : Fld := ⟨Reg.RSV_CFG, 7, 0⟩
abbrev RSV_MEASURE_GO : Fld := ⟨Reg.RSV_MEASURE, 0, 0⟩
abbrev RSV_BUDGET_UJ : Fld := ⟨Reg.RSV_BUDGET, 23, 0⟩
abbrev RSV_COINCIDE_COUNT : Fld := ⟨Reg.RSV_COINCIDE, 15, 0⟩

-- 07_kalsebel_architecture.md
abbrev EVT_VEC_ADDR (n : Nat) : Fld := ⟨(Reg.EVT_VEC n), 31, 2⟩
abbrev EVT_EXC_ADDR (n : Nat) : Fld := ⟨(Reg.EVT_EXC n), 31, 2⟩
abbrev EVT_PEND_LO_PEND : Fld := ⟨Reg.EVT_PEND_LO, 31, 0⟩
abbrev EVT_PEND_HI_PEND : Fld := ⟨Reg.EVT_PEND_HI, 31, 0⟩
abbrev EVT_EN_LO_EN : Fld := ⟨Reg.EVT_EN_LO, 31, 0⟩
abbrev EVT_EN_HI_EN : Fld := ⟨Reg.EVT_EN_HI, 31, 0⟩
abbrev EVT_TOP_ANY : Fld := ⟨Reg.EVT_TOP, 31, 31⟩
abbrev EVT_TOP_LEVEL : Fld := ⟨Reg.EVT_TOP, 11, 8⟩
abbrev EVT_TOP_VECTOR : Fld := ⟨Reg.EVT_TOP, 5, 0⟩
abbrev EVT_WDOG_CTL_EN : Fld := ⟨Reg.EVT_WDOG_CTL, 31, 31⟩
abbrev EVT_WDOG_CTL_TIMEOUT : Fld := ⟨Reg.EVT_WDOG_CTL, 23, 0⟩
abbrev EVT_WDOG_KICK_KEY : Fld := ⟨Reg.EVT_WDOG_KICK, 31, 24⟩
abbrev EVT_COINCIDE_COUNT : Fld := ⟨Reg.EVT_COINCIDE, 15, 0⟩
abbrev EVT_ECC_COUNT : Fld := ⟨Reg.EVT_ECC, 15, 0⟩

-- 09_address_map_clearing_house.md
abbrev KX_STATUS_FORCE_REFUSED : Fld := ⟨Reg.KX_STATUS, 17, 17⟩
abbrev KX_STATUS_ROUTING : Fld := ⟨Reg.KX_STATUS, 16, 16⟩
abbrev KX_STATUS_ROUTES : Fld := ⟨Reg.KX_STATUS, 10, 0⟩
abbrev KX_SWEV_SW : Fld := ⟨Reg.KX_SWEV, 7, 0⟩
abbrev KX_FORCE_KEY : Fld := ⟨Reg.KX_FORCE, 31, 24⟩
abbrev KX_FORCE_SOURCE : Fld := ⟨Reg.KX_FORCE, 8, 0⟩
abbrev KX_MERGED_COUNT : Fld := ⟨Reg.KX_MERGED, 15, 0⟩
abbrev KX_DROPPED_COUNT : Fld := ⟨Reg.KX_DROPPED, 15, 0⟩
abbrev KX_COINCIDE_COUNT : Fld := ⟨Reg.KX_COINCIDE, 15, 0⟩
abbrev KX_LAST_VALID : Fld := ⟨Reg.KX_LAST, 31, 31⟩
abbrev KX_LAST_SOURCE : Fld := ⟨Reg.KX_LAST, 8, 0⟩
abbrev KX_LEVEL_ACTIVE (n : Nat) : Fld := ⟨(Reg.KX_LEVEL n), 31, 0⟩
abbrev KX_SEEN_SEEN (n : Nat) : Fld := ⟨(Reg.KX_SEEN n), 31, 0⟩

-- 10_host_tellers.md
abbrev HST_LINK_FREQ : Fld := ⟨Reg.HST_LINK, 31, 29⟩
abbrev HST_LINK_IOMODE : Fld := ⟨Reg.HST_LINK, 28, 27⟩
abbrev HST_LINK_ALERT_PIN : Fld := ⟨Reg.HST_LINK, 26, 26⟩
abbrev HST_LINK_ALERT_OD : Fld := ⟨Reg.HST_LINK, 25, 25⟩
abbrev HST_LINK_CRC_EN : Fld := ⟨Reg.HST_LINK, 24, 24⟩
abbrev HST_LINK_CH_EN : Fld := ⟨Reg.HST_LINK, 23, 21⟩
abbrev HST_CAP_CFG_OOB_EN : Fld := ⟨Reg.HST_CAP_CFG, 8, 8⟩
abbrev HST_CAP_CFG_OD_ALERT : Fld := ⟨Reg.HST_CAP_CFG, 7, 7⟩
abbrev HST_CAP_CFG_PIN_ALERT : Fld := ⟨Reg.HST_CAP_CFG, 6, 6⟩
abbrev HST_CAP_CFG_QUAD : Fld := ⟨Reg.HST_CAP_CFG, 5, 5⟩
abbrev HST_CAP_CFG_DUAL : Fld := ⟨Reg.HST_CAP_CFG, 4, 4⟩
abbrev HST_CAP_CFG_MAXFREQ : Fld := ⟨Reg.HST_CAP_CFG, 2, 0⟩
abbrev HST_STATUS_ESPI_RESET : Fld := ⟨Reg.HST_STATUS, 31, 31⟩
abbrev HST_STATUS_LIVE : Fld := ⟨Reg.HST_STATUS, 30, 30⟩
abbrev HST_STATUS_DEFERRED : Fld := ⟨Reg.HST_STATUS, 29, 29⟩
abbrev HST_STATUS_Q_A : Fld := ⟨Reg.HST_STATUS, 28, 26⟩
abbrev HST_STATUS_Q_B : Fld := ⟨Reg.HST_STATUS, 25, 23⟩
abbrev HST_ERR_VWG : Fld := ⟨Reg.HST_ERR, 6, 6⟩
abbrev HST_ERR_CFG : Fld := ⟨Reg.HST_ERR, 5, 5⟩
abbrev HST_ERR_SPLIT : Fld := ⟨Reg.HST_ERR, 4, 4⟩
abbrev HST_ERR_UNCLAIMED : Fld := ⟨Reg.HST_ERR, 3, 3⟩
abbrev HST_ERR_PROTOCOL : Fld := ⟨Reg.HST_ERR, 2, 2⟩
abbrev HST_ERR_CRC : Fld := ⟨Reg.HST_ERR, 1, 1⟩
abbrev HST_ERR_OOB : Fld := ⟨Reg.HST_ERR, 0, 0⟩
abbrev HST_COINCIDE_COUNT : Fld := ⟨Reg.HST_COINCIDE, 15, 0⟩
abbrev HST_VW_OUT_WIRES : Fld := ⟨Reg.HST_VW_OUT, 9, 0⟩
abbrev HST_VW_IN_WIRES : Fld := ⟨Reg.HST_VW_IN, 9, 0⟩
abbrev HST_VW_GEN_WIRES : Fld := ⟨Reg.HST_VW_GEN, 31, 0⟩
abbrev HST_VWG_DIR (n : Nat) : Fld := ⟨(Reg.HST_VWG n), 8, 8⟩
abbrev HST_VWG_INDEX (n : Nat) : Fld := ⟨(Reg.HST_VWG n), 7, 0⟩
abbrev HST_KBC_STAT_PUT_FULL : Fld := ⟨Reg.HST_KBC_STAT, 26, 26⟩
abbrev HST_KBC_STAT_IRQ : Fld := ⟨Reg.HST_KBC_STAT, 25, 24⟩
abbrev HST_KBC_STAT_FIFO : Fld := ⟨Reg.HST_KBC_STAT, 20, 16⟩
abbrev HST_KBC_STAT_OBUF : Fld := ⟨Reg.HST_KBC_STAT, 15, 8⟩
abbrev HST_KBC_STAT_STATUS : Fld := ⟨Reg.HST_KBC_STAT, 7, 0⟩
abbrev HST_KBC_CMD_PENDING : Fld := ⟨Reg.HST_KBC_CMD, 31, 31⟩
abbrev HST_KBC_CMD_LATE : Fld := ⟨Reg.HST_KBC_CMD, 30, 30⟩
abbrev HST_KBC_CMD_AUX : Fld := ⟨Reg.HST_KBC_CMD, 29, 29⟩
abbrev HST_KBC_CMD_DATA : Fld := ⟨Reg.HST_KBC_CMD, 28, 28⟩
abbrev HST_KBC_CMD_PREV : Fld := ⟨Reg.HST_KBC_CMD, 15, 8⟩
abbrev HST_KBC_CMD_BYTE : Fld := ⟨Reg.HST_KBC_CMD, 7, 0⟩
abbrev HST_KBC_PUT_BYTE : Fld := ⟨Reg.HST_KBC_PUT, 7, 0⟩
abbrev HST_KBC_PUT_AUX : Fld := ⟨Reg.HST_KBC_PUT, 8, 8⟩
abbrev HST_ECI_STAT_PUT_FULL : Fld := ⟨Reg.HST_ECI_STAT, 22, 22⟩
abbrev HST_ECI_STAT_STRAY : Fld := ⟨Reg.HST_ECI_STAT, 21, 21⟩
abbrev HST_ECI_STAT_QLOST : Fld := ⟨Reg.HST_ECI_STAT, 20, 20⟩
abbrev HST_ECI_STAT_QDEPTH : Fld := ⟨Reg.HST_ECI_STAT, 19, 15⟩
abbrev HST_ECI_STAT_LAST_WR : Fld := ⟨Reg.HST_ECI_STAT, 7, 0⟩
abbrev HST_ECI_QUERY_VALUE : Fld := ⟨Reg.HST_ECI_QUERY, 7, 0⟩
abbrev HST_ECI_CMD_PENDING : Fld := ⟨Reg.HST_ECI_CMD, 31, 31⟩
abbrev HST_ECI_CMD_LATE : Fld := ⟨Reg.HST_ECI_CMD, 30, 30⟩
abbrev HST_ECI_CMD_AUX : Fld := ⟨Reg.HST_ECI_CMD, 29, 29⟩
abbrev HST_ECI_CMD_DATA : Fld := ⟨Reg.HST_ECI_CMD, 28, 28⟩
abbrev HST_ECI_CMD_PREV : Fld := ⟨Reg.HST_ECI_CMD, 15, 8⟩
abbrev HST_ECI_CMD_BYTE : Fld := ⟨Reg.HST_ECI_CMD, 7, 0⟩
abbrev HST_ECI_PUT_BYTE : Fld := ⟨Reg.HST_ECI_PUT, 7, 0⟩
abbrev HST_ECI_QSRC_EN (n : Nat) : Fld := ⟨(Reg.HST_ECI_QSRC n), 24, 24⟩
abbrev HST_ECI_QSRC_VALUE (n : Nat) : Fld := ⟨(Reg.HST_ECI_QSRC n), 23, 16⟩
abbrev HST_ECI_QSRC_SOURCE (n : Nat) : Fld := ⟨(Reg.HST_ECI_QSRC n), 8, 0⟩
abbrev HST_POST_LAST_LANES : Fld := ⟨Reg.HST_POST_LAST, 31, 0⟩
abbrev HST_NVX_STAT_NVX : Fld := ⟨Reg.HST_NVX_STAT, 15, 8⟩
abbrev HST_NVX_STAT_SEL : Fld := ⟨Reg.HST_NVX_STAT, 7, 0⟩
abbrev TLR_REQ_A_VALID : Fld := ⟨Reg.TLR_REQ_A, 31, 31⟩
abbrev TLR_REQ_A_WRITE : Fld := ⟨Reg.TLR_REQ_A, 30, 30⟩
abbrev TLR_REQ_A_LATE : Fld := ⟨Reg.TLR_REQ_A, 29, 29⟩
abbrev TLR_REQ_A_SIZE : Fld := ⟨Reg.TLR_REQ_A, 28, 27⟩
abbrev TLR_REQ_A_BINDING : Fld := ⟨Reg.TLR_REQ_A, 26, 24⟩
abbrev TLR_REQ_A_TELLER : Fld := ⟨Reg.TLR_REQ_A, 22, 16⟩
abbrev TLR_REQ_A_OFFSET : Fld := ⟨Reg.TLR_REQ_A, 15, 0⟩
abbrev TLR_REQ_DATA_A_DATA : Fld := ⟨Reg.TLR_REQ_DATA_A, 31, 0⟩
abbrev TLR_RSP_A_DATA : Fld := ⟨Reg.TLR_RSP_A, 31, 0⟩
abbrev TLR_REQ_B_VALID : Fld := ⟨Reg.TLR_REQ_B, 31, 31⟩
abbrev TLR_REQ_B_WRITE : Fld := ⟨Reg.TLR_REQ_B, 30, 30⟩
abbrev TLR_REQ_B_LATE : Fld := ⟨Reg.TLR_REQ_B, 29, 29⟩
abbrev TLR_REQ_B_SIZE : Fld := ⟨Reg.TLR_REQ_B, 28, 27⟩
abbrev TLR_REQ_B_BINDING : Fld := ⟨Reg.TLR_REQ_B, 26, 24⟩
abbrev TLR_REQ_B_TELLER : Fld := ⟨Reg.TLR_REQ_B, 22, 16⟩
abbrev TLR_REQ_B_OFFSET : Fld := ⟨Reg.TLR_REQ_B, 15, 0⟩
abbrev TLR_REQ_DATA_B_DATA : Fld := ⟨Reg.TLR_REQ_DATA_B, 31, 0⟩
abbrev TLR_RSP_B_DATA : Fld := ⟨Reg.TLR_RSP_B, 31, 0⟩
abbrev TLR_DENY_LOG_VALID : Fld := ⟨Reg.TLR_DENY_LOG, 31, 31⟩
abbrev TLR_DENY_LOG_WRITE : Fld := ⟨Reg.TLR_DENY_LOG, 30, 30⟩
abbrev TLR_DENY_LOG_TELLER : Fld := ⟨Reg.TLR_DENY_LOG, 22, 16⟩
abbrev TLR_DENY_LOG_OFFSET : Fld := ⟨Reg.TLR_DENY_LOG, 15, 0⟩
abbrev TLR_TARDY_LOG_VALID : Fld := ⟨Reg.TLR_TARDY_LOG, 31, 31⟩
abbrev TLR_TARDY_LOG_TELLER : Fld := ⟨Reg.TLR_TARDY_LOG, 22, 16⟩
abbrev TLR_STATUS_STRAY : Fld := ⟨Reg.TLR_STATUS, 0, 0⟩
abbrev TLR_COUNTS_TARDY : Fld := ⟨Reg.TLR_COUNTS, 31, 16⟩
abbrev TLR_COUNTS_DENY : Fld := ⟨Reg.TLR_COUNTS, 15, 0⟩
abbrev HST_OOB_CTL_TELLER : Fld := ⟨Reg.HST_OOB_CTL, 22, 16⟩
abbrev HST_OOB_CTL_SEND : Fld := ⟨Reg.HST_OOB_CTL, 1, 1⟩
abbrev HST_OOB_CTL_RELEASE : Fld := ⟨Reg.HST_OOB_CTL, 0, 0⟩
abbrev HST_OOB_STAT_STATE : Fld := ⟨Reg.HST_OOB_STAT, 3, 0⟩
abbrev HST_CONS_TX_BYTE : Fld := ⟨Reg.HST_CONS_TX, 7, 0⟩
abbrev HST_CONS_STAT_FULL : Fld := ⟨Reg.HST_CONS_STAT, 9, 9⟩
abbrev HST_CONS_STAT_OVF : Fld := ⟨Reg.HST_CONS_STAT, 8, 8⟩
abbrev HST_CONS_STAT_TXQ : Fld := ⟨Reg.HST_CONS_STAT, 4, 0⟩

-- 11_keyboard.md
abbrev KBD_STATUS_RUNNING : Fld := ⟨Reg.KBD_STATUS, 31, 31⟩
abbrev KBD_STATUS_MEASURED : Fld := ⟨Reg.KBD_STATUS, 30, 30⟩
abbrev KBD_STATUS_LONG : Fld := ⟨Reg.KBD_STATUS, 29, 29⟩
abbrev KBD_STATUS_CLAMP : Fld := ⟨Reg.KBD_STATUS, 28, 28⟩
abbrev KBD_STATUS_STUCK : Fld := ⟨Reg.KBD_STATUS, 27, 27⟩
abbrev KBD_STATUS_GHOSTING : Fld := ⟨Reg.KBD_STATUS, 26, 26⟩
abbrev KBD_STATUS_KBC_OVR : Fld := ⟨Reg.KBD_STATUS, 25, 25⟩
abbrev KBD_STATUS_FW_OVR : Fld := ⟨Reg.KBD_STATUS, 24, 24⟩
abbrev KBD_STATUS_DIODES : Fld := ⟨Reg.KBD_STATUS, 23, 23⟩
abbrev KBD_STATUS_FWQ : Fld := ⟨Reg.KBD_STATUS, 21, 16⟩
abbrev KBD_STATUS_KBCQ : Fld := ⟨Reg.KBD_STATUS, 5, 0⟩
abbrev KBD_CFG_MEAS_PERIOD : Fld := ⟨Reg.KBD_CFG, 15, 8⟩
abbrev KBD_CFG_REPEAT_EN : Fld := ⟨Reg.KBD_CFG, 3, 3⟩
abbrev KBD_CFG_DELIVER : Fld := ⟨Reg.KBD_CFG, 2, 1⟩
abbrev KBD_CFG_SCAN_EN : Fld := ⟨Reg.KBD_CFG, 0, 0⟩
abbrev KBD_TIMING_FRAME : Fld := ⟨Reg.KBD_TIMING, 31, 24⟩
abbrev KBD_TIMING_DEB_MAKE : Fld := ⟨Reg.KBD_TIMING, 23, 19⟩
abbrev KBD_TIMING_DEB_BREAK : Fld := ⟨Reg.KBD_TIMING, 18, 14⟩
abbrev KBD_TIMING_SETTLE_MUL : Fld := ⟨Reg.KBD_TIMING, 13, 10⟩
abbrev KBD_TIMING_SETTLE_ADD : Fld := ⟨Reg.KBD_TIMING, 9, 5⟩
abbrev KBD_TIMING_SETTLE_INIT : Fld := ⟨Reg.KBD_TIMING, 4, 0⟩
abbrev KBD_HOSTCFG_LED : Fld := ⟨Reg.KBD_HOSTCFG, 10, 8⟩
abbrev KBD_HOSTCFG_TYPEMATIC : Fld := ⟨Reg.KBD_HOSTCFG, 7, 0⟩
abbrev KBD_CMD_CLEAR_FW : Fld := ⟨Reg.KBD_CMD, 2, 2⟩
abbrev KBD_CMD_CLEAR_KBC : Fld := ⟨Reg.KBD_CMD, 1, 1⟩
abbrev KBD_CMD_MEASURE : Fld := ⟨Reg.KBD_CMD, 0, 0⟩
abbrev KBD_FIFO_VALID : Fld := ⟨Reg.KBD_FIFO, 31, 31⟩
abbrev KBD_FIFO_BREAK : Fld := ⟨Reg.KBD_FIFO, 30, 30⟩
abbrev KBD_FIFO_REPEAT : Fld := ⟨Reg.KBD_FIFO, 29, 29⟩
abbrev KBD_FIFO_LAYER : Fld := ⟨Reg.KBD_FIFO, 28, 27⟩
abbrev KBD_FIFO_LOST : Fld := ⟨Reg.KBD_FIFO, 26, 26⟩
abbrev KBD_FIFO_POSITION : Fld := ⟨Reg.KBD_FIFO, 24, 16⟩
abbrev KBD_FIFO_KIND : Fld := ⟨Reg.KBD_FIFO, 15, 12⟩
abbrev KBD_FIFO_VALUE : Fld := ⟨Reg.KBD_FIFO, 11, 0⟩
abbrev KBD_SETTLE_MAX_RISE : Fld := ⟨Reg.KBD_SETTLE, 31, 16⟩
abbrev KBD_SETTLE_SETTLE : Fld := ⟨Reg.KBD_SETTLE, 15, 0⟩
abbrev KBD_LAYER_TOGGLED : Fld := ⟨Reg.KBD_LAYER, 11, 8⟩
abbrev KBD_LAYER_HELD : Fld := ⟨Reg.KBD_LAYER, 7, 4⟩
abbrev KBD_LAYER_ACTIVE : Fld := ⟨Reg.KBD_LAYER, 1, 0⟩
abbrev KBD_COUNTS_LOST : Fld := ⟨Reg.KBD_COUNTS, 31, 16⟩
abbrev KBD_COUNTS_GHOST : Fld := ⟨Reg.KBD_COUNTS, 15, 0⟩
abbrev KBD_COINCIDE_COUNT : Fld := ⟨Reg.KBD_COINCIDE, 15, 0⟩
abbrev KBD_RISE_VALID (n : Nat) : Fld := ⟨(Reg.KBD_RISE n), 31, 31⟩
abbrev KBD_RISE_STUCK (n : Nat) : Fld := ⟨(Reg.KBD_RISE n), 30, 30⟩
abbrev KBD_RISE_CAP_PF (n : Nat) : Fld := ⟨(Reg.KBD_RISE n), 27, 16⟩
abbrev KBD_RISE_T_RISE (n : Nat) : Fld := ⟨(Reg.KBD_RISE n), 15, 0⟩
abbrev KBD_STATE_CLOSED (n : Nat) : Fld := ⟨(Reg.KBD_STATE n), 15, 0⟩
abbrev KBD_RAW_CLOSED (n : Nat) : Fld := ⟨(Reg.KBD_RAW n), 15, 0⟩

-- 12_time.md
abbrev TC_CTRL_SRC (n : Nat) : Fld := ⟨(Reg.TC_CTRL n), 26, 24⟩
abbrev TC_CTRL_WRAPBIT (n : Nat) : Fld := ⟨(Reg.TC_CTRL n), 21, 16⟩
abbrev TC_CTRL_WIDE_MODE (n : Nat) : Fld := ⟨(Reg.TC_CTRL n), 1, 1⟩
abbrev TC_CTRL_AUTOSTART (n : Nat) : Fld := ⟨(Reg.TC_CTRL n), 0, 0⟩
abbrev TC_PRESC_INT (n : Nat) : Fld := ⟨(Reg.TC_PRESC n), 31, 16⟩
abbrev TC_PRESC_FRAC (n : Nat) : Fld := ⟨(Reg.TC_PRESC n), 15, 0⟩
abbrev TC_STAT_RUN (n : Nat) : Fld := ⟨(Reg.TC_STAT n), 31, 31⟩
abbrev TC_STAT_LOAD_ERR (n : Nat) : Fld := ⟨(Reg.TC_STAT n), 30, 30⟩
abbrev TC_STAT_PEND (n : Nat) : Fld := ⟨(Reg.TC_STAT n), 20, 17⟩
abbrev TC_STAT_WRAP (n : Nat) : Fld := ⟨(Reg.TC_STAT n), 16, 16⟩
abbrev TC_STAT_FLAG (n : Nat) : Fld := ⟨(Reg.TC_STAT n), 15, 12⟩
abbrev TC_STAT_OVR (n : Nat) : Fld := ⟨(Reg.TC_STAT n), 11, 8⟩
abbrev TC_STAT_TOUT (n : Nat) : Fld := ⟨(Reg.TC_STAT n), 7, 4⟩
abbrev TC_CMD_CLEAR (n : Nat) : Fld := ⟨(Reg.TC_CMD n), 2, 2⟩
abbrev TC_CMD_STOP (n : Nat) : Fld := ⟨(Reg.TC_CMD n), 1, 1⟩
abbrev TC_CMD_START (n : Nat) : Fld := ⟨(Reg.TC_CMD n), 0, 0⟩
abbrev TC_CNT_LO_COUNT (n : Nat) : Fld := ⟨(Reg.TC_CNT_LO n), 31, 0⟩
abbrev TC_CNT_HI_COUNT (n : Nat) : Fld := ⟨(Reg.TC_CNT_HI n), 15, 0⟩
abbrev TC_MISSED_K (n : Nat) : Fld := ⟨(Reg.TC_MISSED n), 31, 0⟩
abbrev TC_CC_CFG_MODE (n m : Nat) : Fld := ⟨(Reg.TC_CC_CFG n m), 31, 30⟩
abbrev TC_CC_CFG_AUTO (n m : Nat) : Fld := ⟨(Reg.TC_CC_CFG n m), 29, 29⟩
abbrev TC_CC_CFG_PRELOAD (n m : Nat) : Fld := ⟨(Reg.TC_CC_CFG n m), 28, 28⟩
abbrev TC_CC_CFG_OUT (n m : Nat) : Fld := ⟨(Reg.TC_CC_CFG n m), 27, 26⟩
abbrev TC_CC_CFG_OUT_INIT (n m : Nat) : Fld := ⟨(Reg.TC_CC_CFG n m), 25, 25⟩
abbrev TC_CC_CFG_EDGE (n m : Nat) : Fld := ⟨(Reg.TC_CC_CFG n m), 21, 20⟩
abbrev TC_CC_CFG_FILT (n m : Nat) : Fld := ⟨(Reg.TC_CC_CFG n m), 19, 16⟩
abbrev TC_CC_CFG_EPSC (n m : Nat) : Fld := ⟨(Reg.TC_CC_CFG n m), 15, 8⟩
abbrev TC_CC_LO_VALUE (n m : Nat) : Fld := ⟨(Reg.TC_CC_LO n m), 31, 0⟩
abbrev TC_CC_HI_VALUE (n m : Nat) : Fld := ⟨(Reg.TC_CC_HI n m), 15, 0⟩
abbrev TC_STEP_STEP (n m : Nat) : Fld := ⟨(Reg.TC_STEP n m), 31, 0⟩
abbrev TC_SNAP_GO : Fld := ⟨Reg.TC_SNAP, 0, 0⟩
abbrev TC_SNAP_STAT_SEQ : Fld := ⟨Reg.TC_SNAP_STAT, 15, 0⟩
abbrev TC_COINCIDE_COUNT : Fld := ⟨Reg.TC_COINCIDE, 15, 0⟩
abbrev TC_OUT_LEVEL : Fld := ⟨Reg.TC_OUT, 31, 0⟩
abbrev TC_SNAP_LO_COUNT (n : Nat) : Fld := ⟨(Reg.TC_SNAP_LO n), 31, 0⟩
abbrev TC_SNAP_HI_COUNT (n : Nat) : Fld := ⟨(Reg.TC_SNAP_HI n), 15, 0⟩
abbrev CAL_STATUS_VALID : Fld := ⟨Reg.CAL_STATUS, 31, 31⟩
abbrev CAL_STATUS_LOST : Fld := ⟨Reg.CAL_STATUS, 30, 30⟩
abbrev CAL_STATUS_SUBST : Fld := ⟨Reg.CAL_STATUS, 29, 29⟩
abbrev CAL_STATUS_VBAT_LOW : Fld := ⟨Reg.CAL_STATUS, 28, 28⟩
abbrev CAL_STATUS_STEPPED : Fld := ⟨Reg.CAL_STATUS, 27, 27⟩
abbrev CAL_STATUS_RATE_LIM : Fld := ⟨Reg.CAL_STATUS, 26, 26⟩
abbrev CAL_STATUS_STATE : Fld := ⟨Reg.CAL_STATUS, 25, 24⟩
abbrev CAL_STATUS_REJ_RUN : Fld := ⟨Reg.CAL_STATUS, 1, 0⟩
abbrev CAL_NOW_LO_COUNT : Fld := ⟨Reg.CAL_NOW_LO, 31, 0⟩
abbrev CAL_NOW_HI_COUNT : Fld := ⟨Reg.CAL_NOW_HI, 31, 0⟩
abbrev CAL_SET_LO_VALUE : Fld := ⟨Reg.CAL_SET_LO, 31, 0⟩
abbrev CAL_SET_HI_VALUE : Fld := ⟨Reg.CAL_SET_HI, 31, 0⟩
abbrev CAL_CMD_KEY : Fld := ⟨Reg.CAL_CMD, 31, 24⟩
abbrev CAL_CMD_SET : Fld := ⟨Reg.CAL_CMD, 0, 0⟩
abbrev CAL_RATE_RATE : Fld := ⟨Reg.CAL_RATE, 31, 0⟩
abbrev CAL_PHASE_E_NS : Fld := ⟨Reg.CAL_PHASE, 31, 0⟩
abbrev CAL_PPS_COUNT_ACCEPTED : Fld := ⟨Reg.CAL_PPS_COUNT, 31, 16⟩
abbrev CAL_PPS_COUNT_REJECTED : Fld := ⟨Reg.CAL_PPS_COUNT, 15, 8⟩
abbrev CAL_PPS_COUNT_EXTRA : Fld := ⟨Reg.CAL_PPS_COUNT, 7, 0⟩
abbrev CAL_ALARM0_LO_SECONDS : Fld := ⟨Reg.CAL_ALARM0_LO, 31, 0⟩
abbrev CAL_ALARM0_HI_EN : Fld := ⟨Reg.CAL_ALARM0_HI, 31, 31⟩
abbrev CAL_ALARM0_HI_SECONDS : Fld := ⟨Reg.CAL_ALARM0_HI, 7, 0⟩
abbrev CAL_ALARM1_LO_SECONDS : Fld := ⟨Reg.CAL_ALARM1_LO, 31, 0⟩
abbrev CAL_ALARM1_HI_EN : Fld := ⟨Reg.CAL_ALARM1_HI, 31, 31⟩
abbrev CAL_ALARM1_HI_SECONDS : Fld := ⟨Reg.CAL_ALARM1_HI, 7, 0⟩
abbrev CAL_CFG_PPS_EN : Fld := ⟨Reg.CAL_CFG, 20, 20⟩
abbrev CAL_CFG_GAIN : Fld := ⟨Reg.CAL_CFG, 19, 18⟩
abbrev CAL_CFG_PPS_WIN : Fld := ⟨Reg.CAL_CFG, 10, 0⟩
abbrev CAL_COINCIDE_COUNT : Fld := ⟨Reg.CAL_COINCIDE, 15, 0⟩

-- 13_measurement.md
abbrev ADC_STAT_ALL_CAL : Fld := ⟨Reg.ADC_STAT, 31, 31⟩
abbrev ADC_STAT_NO_RELIEF : Fld := ⟨Reg.ADC_STAT, 30, 30⟩
abbrev ADC_STAT_SURVEYING : Fld := ⟨Reg.ADC_STAT, 29, 29⟩
abbrev ADC_STAT_LAST_SWAP : Fld := ⟨Reg.ADC_STAT, 23, 20⟩
abbrev ADC_STAT_SWAPS : Fld := ⟨Reg.ADC_STAT, 15, 0⟩
abbrev ADC_CFG_SURVEY_S : Fld := ⟨Reg.ADC_CFG, 31, 16⟩
abbrev ADC_CFG_FAULT_MS : Fld := ⟨Reg.ADC_CFG, 15, 8⟩
abbrev ADC_CFG_TH_SETTLE : Fld := ⟨Reg.ADC_CFG, 7, 0⟩
abbrev ADC_CMD_ROT_MS : Fld := ⟨Reg.ADC_CMD, 31, 24⟩
abbrev ADC_CMD_SURVEY : Fld := ⟨Reg.ADC_CMD, 9, 9⟩
abbrev ADC_CMD_TRIG : Fld := ⟨Reg.ADC_CMD, 7, 0⟩
abbrev ADC_COINCIDE_COUNT : Fld := ⟨Reg.ADC_COINCIDE, 15, 0⟩
abbrev ADC_SLICE_STATE (n : Nat) : Fld := ⟨(Reg.ADC_SLICE n), 31, 29⟩
abbrev ADC_SLICE_FAILS (n : Nat) : Fld := ⟨(Reg.ADC_SLICE n), 28, 24⟩
abbrev ADC_FAULT_LO_FAULT : Fld := ⟨Reg.ADC_FAULT_LO, 31, 0⟩
abbrev ADC_FAULT_HI_FAULT : Fld := ⟨Reg.ADC_FAULT_HI, 7, 0⟩
abbrev ADC_LIM_STAT_OUT : Fld := ⟨Reg.ADC_LIM_STAT, 7, 0⟩
abbrev ADC_CORR_GAIN (n : Nat) : Fld := ⟨(Reg.ADC_CORR n), 31, 16⟩
abbrev ADC_CORR_OFFSET (n : Nat) : Fld := ⟨(Reg.ADC_CORR n), 15, 0⟩
abbrev ADC_LIM_HI (n : Nat) : Fld := ⟨(Reg.ADC_LIM n), 31, 16⟩
abbrev ADC_LIM_LO (n : Nat) : Fld := ⟨(Reg.ADC_LIM n), 15, 0⟩
abbrev ADC_SL_CFG_EN (n : Nat) : Fld := ⟨(Reg.ADC_SL_CFG n), 31, 31⟩
abbrev ADC_SL_CFG_MODE (n : Nat) : Fld := ⟨(Reg.ADC_SL_CFG n), 30, 30⟩
abbrev ADC_SL_CFG_OVERLAP (n : Nat) : Fld := ⟨(Reg.ADC_SL_CFG n), 29, 28⟩
abbrev ADC_SL_CFG_LEN (n : Nat) : Fld := ⟨(Reg.ADC_SL_CFG n), 3, 0⟩
abbrev ADC_SL_STAT_RUNNING (n : Nat) : Fld := ⟨(Reg.ADC_SL_STAT n), 31, 31⟩
abbrev ADC_SL_STAT_PENDING (n : Nat) : Fld := ⟨(Reg.ADC_SL_STAT n), 30, 30⟩
abbrev ADC_SL_STAT_SLICE (n : Nat) : Fld := ⟨(Reg.ADC_SL_STAT n), 29, 28⟩
abbrev ADC_SL_STAT_PASSES (n : Nat) : Fld := ⟨(Reg.ADC_SL_STAT n), 27, 0⟩
abbrev ADC_SL_OVR_COUNT (n : Nat) : Fld := ⟨(Reg.ADC_SL_OVR n), 15, 0⟩
abbrev ADC_CH_VALID (n : Nat) : Fld := ⟨(Reg.ADC_CH n), 31, 31⟩
abbrev ADC_CH_FAULT (n : Nat) : Fld := ⟨(Reg.ADC_CH n), 30, 30⟩
abbrev ADC_CH_STALE (n : Nat) : Fld := ⟨(Reg.ADC_CH n), 29, 29⟩
abbrev ADC_CH_SUSPECT (n : Nat) : Fld := ⟨(Reg.ADC_CH n), 28, 28⟩
abbrev ADC_CH_SLICE (n : Nat) : Fld := ⟨(Reg.ADC_CH n), 27, 26⟩
abbrev ADC_CH_PASS (n : Nat) : Fld := ⟨(Reg.ADC_CH n), 23, 16⟩
abbrev ADC_CH_VALUE (n : Nat) : Fld := ⟨(Reg.ADC_CH n), 15, 0⟩
abbrev ADC_ENT_LIMIT (n m : Nat) : Fld := ⟨(Reg.ADC_ENT n m), 19, 16⟩
abbrev ADC_ENT_ACQ (n m : Nat) : Fld := ⟨(Reg.ADC_ENT n m), 15, 12⟩
abbrev ADC_ENT_AVG (n m : Nat) : Fld := ⟨(Reg.ADC_ENT n m), 11, 9⟩
abbrev ADC_ENT_SUB (n m : Nat) : Fld := ⟨(Reg.ADC_ENT n m), 8, 6⟩
abbrev ADC_ENT_CHANNEL (n m : Nat) : Fld := ⟨(Reg.ADC_ENT n m), 5, 0⟩
abbrev ADC_RES_VALID (n m : Nat) : Fld := ⟨(Reg.ADC_RES n m), 31, 31⟩
abbrev ADC_RES_FAULT (n m : Nat) : Fld := ⟨(Reg.ADC_RES n m), 30, 30⟩
abbrev ADC_RES_STALE (n m : Nat) : Fld := ⟨(Reg.ADC_RES n m), 29, 29⟩
abbrev ADC_RES_SUSPECT (n m : Nat) : Fld := ⟨(Reg.ADC_RES n m), 28, 28⟩
abbrev ADC_RES_SLICE (n m : Nat) : Fld := ⟨(Reg.ADC_RES n m), 27, 26⟩
abbrev ADC_RES_PASS (n m : Nat) : Fld := ⟨(Reg.ADC_RES n m), 23, 16⟩
abbrev ADC_RES_VALUE (n m : Nat) : Fld := ⟨(Reg.ADC_RES n m), 15, 0⟩
abbrev ADC_SURVEY_WORD (n : Nat) : Fld := ⟨(Reg.ADC_SURVEY n), 31, 0⟩

-- 14_two_wire.md
abbrev TWB_CFG_EN (n : Nat) : Fld := ⟨(Reg.TWB_CFG n), 31, 31⟩
abbrev TWB_CFG_MODE (n : Nat) : Fld := ⟨(Reg.TWB_CFG n), 30, 30⟩
abbrev TWB_CFG_SPEED (n : Nat) : Fld := ⟨(Reg.TWB_CFG n), 29, 28⟩
abbrev TWB_CFG_TOUT (n : Nat) : Fld := ⟨(Reg.TWB_CFG n), 27, 22⟩
abbrev TWB_CFG_TPEC (n : Nat) : Fld := ⟨(Reg.TWB_CFG n), 21, 21⟩
abbrev TWB_CFG_HN_EN (n : Nat) : Fld := ⟨(Reg.TWB_CFG n), 20, 20⟩
abbrev TWB_CFG_AUTO_ARA (n : Nat) : Fld := ⟨(Reg.TWB_CFG n), 19, 19⟩
abbrev TWB_CFG_AUTO_CLEAR (n : Nat) : Fld := ⟨(Reg.TWB_CFG n), 18, 18⟩
abbrev TWB_CFG_ALERT_ADDR (n : Nat) : Fld := ⟨(Reg.TWB_CFG n), 17, 11⟩
abbrev TWB_CFG_TRLEN (n : Nat) : Fld := ⟨(Reg.TWB_CFG n), 10, 5⟩
abbrev TWB_XFER_RETRY (n : Nat) : Fld := ⟨(Reg.TWB_XFER n), 31, 29⟩
abbrev TWB_XFER_PEC (n : Nat) : Fld := ⟨(Reg.TWB_XFER n), 28, 28⟩
abbrev TWB_XFER_PROTO (n : Nat) : Fld := ⟨(Reg.TWB_XFER n), 27, 24⟩
abbrev TWB_XFER_ADDR (n : Nat) : Fld := ⟨(Reg.TWB_XFER n), 22, 16⟩
abbrev TWB_XFER_RLEN (n : Nat) : Fld := ⟨(Reg.TWB_XFER n), 15, 8⟩
abbrev TWB_XFER_WLEN (n : Nat) : Fld := ⟨(Reg.TWB_XFER n), 7, 0⟩
abbrev TWB_CMD_BUS_CLEAR (n : Nat) : Fld := ⟨(Reg.TWB_CMD n), 2, 2⟩
abbrev TWB_CMD_ABORT (n : Nat) : Fld := ⟨(Reg.TWB_CMD n), 1, 1⟩
abbrev TWB_CMD_GO (n : Nat) : Fld := ⟨(Reg.TWB_CMD n), 0, 0⟩
abbrev TWB_STAT_BUSY (n : Nat) : Fld := ⟨(Reg.TWB_STAT n), 31, 31⟩
abbrev TWB_STAT_DONE (n : Nat) : Fld := ⟨(Reg.TWB_STAT n), 30, 30⟩
abbrev TWB_STAT_RESULT (n : Nat) : Fld := ⟨(Reg.TWB_STAT n), 29, 26⟩
abbrev TWB_STAT_INDEX (n : Nat) : Fld := ⟨(Reg.TWB_STAT n), 25, 20⟩
abbrev TWB_STAT_TRIES (n : Nat) : Fld := ⟨(Reg.TWB_STAT n), 19, 17⟩
abbrev TWB_STAT_BUS_BUSY (n : Nat) : Fld := ⟨(Reg.TWB_STAT n), 16, 16⟩
abbrev TWB_STAT_SCL (n : Nat) : Fld := ⟨(Reg.TWB_STAT n), 15, 15⟩
abbrev TWB_STAT_SDA (n : Nat) : Fld := ⟨(Reg.TWB_STAT n), 14, 14⟩
abbrev TWB_STAT_ALERT_LINE (n : Nat) : Fld := ⟨(Reg.TWB_STAT n), 13, 13⟩
abbrev TWB_STAT_POLLING (n : Nat) : Fld := ⟨(Reg.TWB_STAT n), 12, 12⟩
abbrev TWB_TGT_ALERT (n : Nat) : Fld := ⟨(Reg.TWB_TGT n), 31, 31⟩
abbrev TWB_TGT_ARA_WON (n : Nat) : Fld := ⟨(Reg.TWB_TGT n), 30, 30⟩
abbrev TWB_TGT_CRC (n : Nat) : Fld := ⟨(Reg.TWB_TGT n), 23, 16⟩
abbrev TWB_TGT_READ (n : Nat) : Fld := ⟨(Reg.TWB_TGT n), 15, 15⟩
abbrev TWB_TGT_LAST_ADDR (n : Nat) : Fld := ⟨(Reg.TWB_TGT n), 14, 8⟩
abbrev TWB_HN_VALID (n : Nat) : Fld := ⟨(Reg.TWB_HN n), 31, 31⟩
abbrev TWB_HN_ADDR (n : Nat) : Fld := ⟨(Reg.TWB_HN n), 22, 16⟩
abbrev TWB_HN_DATA (n : Nat) : Fld := ⟨(Reg.TWB_HN n), 15, 0⟩
abbrev TWB_ARA_VALID (n : Nat) : Fld := ⟨(Reg.TWB_ARA n), 31, 31⟩
abbrev TWB_ARA_DEPTH (n : Nat) : Fld := ⟨(Reg.TWB_ARA n), 26, 24⟩
abbrev TWB_ARA_BYTE (n : Nat) : Fld := ⟨(Reg.TWB_ARA n), 7, 0⟩
abbrev TWB_ERR_ADDR_CONFLICT (n : Nat) : Fld := ⟨(Reg.TWB_ERR n), 5, 5⟩
abbrev TWB_ERR_REFUSED (n : Nat) : Fld := ⟨(Reg.TWB_ERR n), 4, 4⟩
abbrev TWB_ERR_TGT_TIMEOUT (n : Nat) : Fld := ⟨(Reg.TWB_ERR n), 3, 3⟩
abbrev TWB_ERR_HN_BAD (n : Nat) : Fld := ⟨(Reg.TWB_ERR n), 2, 2⟩
abbrev TWB_ERR_TGT_PEC (n : Nat) : Fld := ⟨(Reg.TWB_ERR n), 1, 1⟩
abbrev TWB_ERR_ARA_FULL (n : Nat) : Fld := ⟨(Reg.TWB_ERR n), 0, 0⟩
abbrev TWB_COUNTS_ARB_LOST (n : Nat) : Fld := ⟨(Reg.TWB_COUNTS n), 31, 24⟩
abbrev TWB_COUNTS_TIMEOUTS (n : Nat) : Fld := ⟨(Reg.TWB_COUNTS n), 23, 16⟩
abbrev TWB_COUNTS_HN_NACKS (n : Nat) : Fld := ⟨(Reg.TWB_COUNTS n), 15, 8⟩
abbrev TWB_COUNTS_ARA_LOST (n : Nat) : Fld := ⟨(Reg.TWB_COUNTS n), 7, 0⟩
abbrev TWB_TX_BYTES (n m : Nat) : Fld := ⟨(Reg.TWB_TX n m), 31, 0⟩
abbrev TWB_RX_BYTES (n m : Nat) : Fld := ⟨(Reg.TWB_RX n m), 31, 0⟩
abbrev TWB_COINCIDE_COUNT : Fld := ⟨Reg.TWB_COINCIDE, 15, 0⟩
abbrev TWB_SNS_CFG_EN (n : Nat) : Fld := ⟨(Reg.TWB_SNS_CFG n), 31, 31⟩
abbrev TWB_SNS_CFG_PORT (n : Nat) : Fld := ⟨(Reg.TWB_SNS_CFG n), 30, 28⟩
abbrev TWB_SNS_CFG_ADDR (n : Nat) : Fld := ⟨(Reg.TWB_SNS_CFG n), 27, 21⟩
abbrev TWB_SNS_CFG_PEC (n : Nat) : Fld := ⟨(Reg.TWB_SNS_CFG n), 20, 20⟩
abbrev TWB_SNS_CFG_FMT (n : Nat) : Fld := ⟨(Reg.TWB_SNS_CFG n), 19, 18⟩
abbrev TWB_SNS_CFG_FAULT_N (n : Nat) : Fld := ⟨(Reg.TWB_SNS_CFG n), 17, 14⟩
abbrev TWB_SNS_CFG_PERIOD (n : Nat) : Fld := ⟨(Reg.TWB_SNS_CFG n), 13, 8⟩
abbrev TWB_SNS_CFG_CMD (n : Nat) : Fld := ⟨(Reg.TWB_SNS_CFG n), 7, 0⟩
abbrev TWB_SNS_VALID (n : Nat) : Fld := ⟨(Reg.TWB_SNS n), 31, 31⟩
abbrev TWB_SNS_FAULT (n : Nat) : Fld := ⟨(Reg.TWB_SNS n), 30, 30⟩
abbrev TWB_SNS_SUSPECT (n : Nat) : Fld := ⟨(Reg.TWB_SNS n), 28, 28⟩
abbrev TWB_SNS_VALUE (n : Nat) : Fld := ⟨(Reg.TWB_SNS n), 15, 0⟩

-- 15_cooling.md
abbrev FAN_SAFE_STAT_ACTIVE : Fld := ⟨Reg.FAN_SAFE_STAT, 31, 31⟩
abbrev FAN_SAFE_STAT_ARMED : Fld := ⟨Reg.FAN_SAFE_STAT, 30, 30⟩
abbrev FAN_SAFE_STAT_LAST_SRC : Fld := ⟨Reg.FAN_SAFE_STAT, 22, 16⟩
abbrev FAN_SAFE_STAT_CAUSE : Fld := ⟨Reg.FAN_SAFE_STAT, 4, 0⟩
abbrev FAN_SAFE_CFG_ARM_AT_START : Fld := ⟨Reg.FAN_SAFE_CFG, 31, 31⟩
abbrev FAN_SAFE_CFG_SLOT_MASK : Fld := ⟨Reg.FAN_SAFE_CFG, 23, 16⟩
abbrev FAN_SAFE_CFG_SAFE_FREQ_LOW : Fld := ⟨Reg.FAN_SAFE_CFG, 7, 0⟩
abbrev FAN_SAFE_HB_KEY : Fld := ⟨Reg.FAN_SAFE_HB, 31, 24⟩
abbrev FAN_SAFE_CMD_KEY : Fld := ⟨Reg.FAN_SAFE_CMD, 31, 24⟩
abbrev FAN_SAFE_CMD_UNFORCE : Fld := ⟨Reg.FAN_SAFE_CMD, 1, 1⟩
abbrev FAN_SAFE_CMD_FORCE : Fld := ⟨Reg.FAN_SAFE_CMD, 0, 0⟩
abbrev FAN_COINCIDE_COUNT : Fld := ⟨Reg.FAN_COINCIDE, 15, 0⟩
abbrev FAN_CFG_KICK (n : Nat) : Fld := ⟨(Reg.FAN_CFG n), 31, 24⟩
abbrev FAN_CFG_LOOP (n : Nat) : Fld := ⟨(Reg.FAN_CFG n), 23, 16⟩
abbrev FAN_CFG_FREQ_LOW (n : Nat) : Fld := ⟨(Reg.FAN_CFG n), 9, 9⟩
abbrev FAN_CFG_STOP_OK (n : Nat) : Fld := ⟨(Reg.FAN_CFG n), 8, 8⟩
abbrev FAN_CFG_PUMP (n : Nat) : Fld := ⟨(Reg.FAN_CFG n), 7, 7⟩
abbrev FAN_CFG_TACH_EN (n : Nat) : Fld := ⟨(Reg.FAN_CFG n), 6, 6⟩
abbrev FAN_CFG_PPR (n : Nat) : Fld := ⟨(Reg.FAN_CFG n), 5, 4⟩
abbrev FAN_CFG_MODE (n : Nat) : Fld := ⟨(Reg.FAN_CFG n), 2, 0⟩
abbrev FAN_LIMIT_MAX_DUTY (n : Nat) : Fld := ⟨(Reg.FAN_LIMIT n), 25, 16⟩
abbrev FAN_LIMIT_STALL (n : Nat) : Fld := ⟨(Reg.FAN_LIMIT n), 15, 10⟩
abbrev FAN_LIMIT_MIN_DUTY (n : Nat) : Fld := ⟨(Reg.FAN_LIMIT n), 9, 0⟩
abbrev FAN_SET_PUMP_RPM (n : Nat) : Fld := ⟨(Reg.FAN_SET n), 31, 16⟩
abbrev FAN_SET_TARGET (n : Nat) : Fld := ⟨(Reg.FAN_SET n), 15, 0⟩
abbrev FAN_PI_KP (n : Nat) : Fld := ⟨(Reg.FAN_PI n), 31, 24⟩
abbrev FAN_PI_KI (n : Nat) : Fld := ⟨(Reg.FAN_PI n), 23, 16⟩
abbrev FAN_PI_SHIFT (n : Nat) : Fld := ⟨(Reg.FAN_PI n), 15, 12⟩
abbrev FAN_PI_HYST (n : Nat) : Fld := ⟨(Reg.FAN_PI n), 11, 0⟩
abbrev FAN_SRC_SRC3_SRC0 (n : Nat) : Fld := ⟨(Reg.FAN_SRC n), 31, 0⟩
abbrev FAN_STAT_SAFE (n : Nat) : Fld := ⟨(Reg.FAN_STAT n), 31, 31⟩
abbrev FAN_STAT_KICK (n : Nat) : Fld := ⟨(Reg.FAN_STAT n), 30, 30⟩
abbrev FAN_STAT_STALLED (n : Nat) : Fld := ⟨(Reg.FAN_STAT n), 29, 29⟩
abbrev FAN_STAT_STALL (n : Nat) : Fld := ⟨(Reg.FAN_STAT n), 28, 28⟩
abbrev FAN_STAT_LEARNING (n : Nat) : Fld := ⟨(Reg.FAN_STAT n), 27, 27⟩
abbrev FAN_STAT_CFG_ERR (n : Nat) : Fld := ⟨(Reg.FAN_STAT n), 26, 26⟩
abbrev FAN_STAT_PUMP_LOW (n : Nat) : Fld := ⟨(Reg.FAN_STAT n), 25, 25⟩
abbrev FAN_STAT_DUTY (n : Nat) : Fld := ⟨(Reg.FAN_STAT n), 9, 0⟩
abbrev FAN_RPM_TACH_SEEN (n : Nat) : Fld := ⟨(Reg.FAN_RPM n), 31, 31⟩
abbrev FAN_RPM_RPM (n : Nat) : Fld := ⟨(Reg.FAN_RPM n), 15, 0⟩
abbrev FAN_TEMP_FAULT (n : Nat) : Fld := ⟨(Reg.FAN_TEMP n), 30, 30⟩
abbrev FAN_TEMP_SUSPECT (n : Nat) : Fld := ⟨(Reg.FAN_TEMP n), 28, 28⟩
abbrev FAN_TEMP_VALUE (n : Nat) : Fld := ⟨(Reg.FAN_TEMP n), 15, 0⟩
abbrev FAN_AGE_WARN (n : Nat) : Fld := ⟨(Reg.FAN_AGE n), 31, 31⟩
abbrev FAN_AGE_ALARM (n : Nat) : Fld := ⟨(Reg.FAN_AGE n), 30, 30⟩
abbrev FAN_AGE_NO_BASE (n : Nat) : Fld := ⟨(Reg.FAN_AGE n), 29, 29⟩
abbrev FAN_AGE_SPARSE (n : Nat) : Fld := ⟨(Reg.FAN_AGE n), 28, 28⟩
abbrev FAN_AGE_RATIO (n : Nat) : Fld := ⟨(Reg.FAN_AGE n), 15, 0⟩
abbrev FAN_TBL_T (n m : Nat) : Fld := ⟨(Reg.FAN_TBL n m), 31, 16⟩
abbrev FAN_TBL_DUTY (n m : Nat) : Fld := ⟨(Reg.FAN_TBL n m), 9, 0⟩
abbrev FAN_LEARN_KEY : Fld := ⟨Reg.FAN_LEARN, 31, 24⟩
abbrev FAN_LEARN_CH : Fld := ⟨Reg.FAN_LEARN, 10, 8⟩
abbrev FAN_LEARN_ABORT : Fld := ⟨Reg.FAN_LEARN, 1, 1⟩
abbrev FAN_LEARN_GO : Fld := ⟨Reg.FAN_LEARN, 0, 0⟩
abbrev FAN_LEARN_STAT_BUSY : Fld := ⟨Reg.FAN_LEARN_STAT, 31, 31⟩
abbrev FAN_LEARN_STAT_DONE : Fld := ⟨Reg.FAN_LEARN_STAT, 30, 30⟩
abbrev FAN_LEARN_STAT_CODE : Fld := ⟨Reg.FAN_LEARN_STAT, 29, 27⟩
abbrev FAN_LEARN_STAT_CH : Fld := ⟨Reg.FAN_LEARN_STAT, 26, 24⟩
abbrev FAN_LEARN_STAT_POINT : Fld := ⟨Reg.FAN_LEARN_STAT, 23, 20⟩
abbrev FAN_AGE_CFG_ALARM : Fld := ⟨Reg.FAN_AGE_CFG, 31, 16⟩
abbrev FAN_AGE_CFG_WARN : Fld := ⟨Reg.FAN_AGE_CFG, 15, 0⟩
abbrev FAN_LEARN_CFG_LO : Fld := ⟨Reg.FAN_LEARN_CFG, 25, 16⟩
abbrev FAN_LEARN_CFG_SETTLE : Fld := ⟨Reg.FAN_LEARN_CFG, 7, 0⟩

-- 16_lamps.md
abbrev LMX_CFG_EN : Fld := ⟨Reg.LMX_CFG, 31, 31⟩
abbrev LMX_CFG_SYNC_EXT : Fld := ⟨Reg.LMX_CFG, 30, 30⟩
abbrev LMX_CFG_COPY_BACK : Fld := ⟨Reg.LMX_CFG, 29, 29⟩
abbrev LMX_CFG_ROWS : Fld := ⟨Reg.LMX_CFG, 28, 24⟩
abbrev LMX_CFG_COLS : Fld := ⟨Reg.LMX_CFG, 23, 19⟩
abbrev LMX_CFG_WEXP : Fld := ⟨Reg.LMX_CFG, 18, 15⟩
abbrev LMX_CFG_BLANK : Fld := ⟨Reg.LMX_CFG, 14, 8⟩
abbrev LMX_CFG_PWM_DIV : Fld := ⟨Reg.LMX_CFG, 7, 0⟩
abbrev LMX_FRAME_I_COL : Fld := ⟨Reg.LMX_FRAME, 23, 16⟩
abbrev LMX_FRAME_FRAME : Fld := ⟨Reg.LMX_FRAME, 15, 0⟩
abbrev LMX_COLOUR_LO_COLOUR : Fld := ⟨Reg.LMX_COLOUR_LO, 31, 0⟩
abbrev LMX_COLOUR_HI_COLOUR : Fld := ⟨Reg.LMX_COLOUR_HI, 15, 0⟩
abbrev LMX_TSRC_TSRC : Fld := ⟨Reg.LMX_TSRC, 7, 0⟩
abbrev LMX_CMD_ARM : Fld := ⟨Reg.LMX_CMD, 1, 1⟩
abbrev LMX_CMD_SYNC : Fld := ⟨Reg.LMX_CMD, 0, 0⟩
abbrev LMX_STAT_ARMED : Fld := ⟨Reg.LMX_STAT, 31, 31⟩
abbrev LMX_STAT_SWAPPING : Fld := ⟨Reg.LMX_STAT, 30, 30⟩
abbrev LMX_STAT_QUEUED : Fld := ⟨Reg.LMX_STAT, 29, 29⟩
abbrev LMX_STAT_SCANNING : Fld := ⟨Reg.LMX_STAT, 28, 28⟩
abbrev LMX_STAT_FRONT : Fld := ⟨Reg.LMX_STAT, 27, 27⟩
abbrev LMX_STAT_TEMP_FAULT : Fld := ⟨Reg.LMX_STAT, 26, 26⟩
abbrev LMX_STAT_ROW : Fld := ⟨Reg.LMX_STAT, 19, 16⟩
abbrev LMX_STAT_SWAPS : Fld := ⟨Reg.LMX_STAT, 15, 0⟩
abbrev LMX_SYNC_OVR_COUNT : Fld := ⟨Reg.LMX_SYNC_OVR, 15, 0⟩
abbrev LMX_K_K (n : Nat) : Fld := ⟨(Reg.LMX_K n), 15, 0⟩
abbrev LMX_FB_PIX_HI (n : Nat) : Fld := ⟨(Reg.LMX_FB n), 31, 16⟩
abbrev LMX_FB_PIX_LO (n : Nat) : Fld := ⟨(Reg.LMX_FB n), 15, 0⟩
abbrev LMX_FRONT_PIX_HI (n : Nat) : Fld := ⟨(Reg.LMX_FRONT n), 31, 16⟩
abbrev LMX_FRONT_PIX_LO (n : Nat) : Fld := ⟨(Reg.LMX_FRONT n), 15, 0⟩
abbrev LST_CFG_EN : Fld := ⟨Reg.LST_CFG, 31, 31⟩
abbrev LST_CFG_HR : Fld := ⟨Reg.LST_CFG, 23, 16⟩
abbrev LST_CFG_PWM_DIV : Fld := ⟨Reg.LST_CFG, 15, 8⟩
abbrev LST_CFG_WEXP : Fld := ⟨Reg.LST_CFG, 7, 4⟩
abbrev LST_CFG_BST_FREQ : Fld := ⟨Reg.LST_CFG, 1, 0⟩
abbrev LST_TSRC_TSRC : Fld := ⟨Reg.LST_TSRC, 7, 0⟩
abbrev LST_CMD_KEY : Fld := ⟨Reg.LST_CMD, 31, 24⟩
abbrev LST_CMD_BST_RESTART : Fld := ⟨Reg.LST_CMD, 8, 8⟩
abbrev LST_CMD_CLEAR_OPEN : Fld := ⟨Reg.LST_CMD, 3, 0⟩
abbrev LST_COINCIDE_COUNT : Fld := ⟨Reg.LST_COINCIDE, 15, 0⟩
abbrev LST_BST_GATE_ON : Fld := ⟨Reg.LST_BST, 31, 31⟩
abbrev LST_BST_AT_MAX : Fld := ⟨Reg.LST_BST, 30, 30⟩
abbrev LST_BST_OVP : Fld := ⟨Reg.LST_BST, 29, 29⟩
abbrev LST_BST_LATCHED : Fld := ⟨Reg.LST_BST, 28, 28⟩
abbrev LST_BST_WEAK : Fld := ⟨Reg.LST_BST, 27, 27⟩
abbrev LST_BST_VBST : Fld := ⟨Reg.LST_BST, 15, 0⟩
abbrev LST_BST_TGT_VMAX : Fld := ⟨Reg.LST_BST_TGT, 31, 16⟩
abbrev LST_BST_TGT_TARGET : Fld := ⟨Reg.LST_BST_TGT, 15, 0⟩
abbrev LST_SHED_LOG_VALID : Fld := ⟨Reg.LST_SHED_LOG, 31, 31⟩
abbrev LST_SHED_LOG_RESTORE : Fld := ⟨Reg.LST_SHED_LOG, 30, 30⟩
abbrev LST_SHED_LOG_STRING : Fld := ⟨Reg.LST_SHED_LOG, 29, 28⟩
abbrev LST_SHED_LOG_LAMP : Fld := ⟨Reg.LST_SHED_LOG, 26, 24⟩
abbrev LST_SHED_LOG_COUNT : Fld := ⟨Reg.LST_SHED_LOG, 15, 0⟩
abbrev LST_K_K (n : Nat) : Fld := ⟨(Reg.LST_K n), 15, 0⟩
abbrev LST_SCFG_EN (n : Nat) : Fld := ⟨(Reg.LST_SCFG n), 31, 31⟩
abbrev LST_SCFG_HYBRID (n : Nat) : Fld := ⟨(Reg.LST_SCFG n), 30, 30⟩
abbrev LST_SCFG_NLAMP (n : Nat) : Fld := ⟨(Reg.LST_SCFG n), 29, 27⟩
abbrev LST_SCFG_COLOUR (n : Nat) : Fld := ⟨(Reg.LST_SCFG n), 26, 25⟩
abbrev LST_SCFG_PHASE (n : Nat) : Fld := ⟨(Reg.LST_SCFG n), 23, 16⟩
abbrev LST_SCFG_ISET (n : Nat) : Fld := ⟨(Reg.LST_SCFG n), 7, 0⟩
abbrev LST_VAL_VALUE (n : Nat) : Fld := ⟨(Reg.LST_VAL n), 15, 0⟩
abbrev LST_LAMP_SHORT (n : Nat) : Fld := ⟨(Reg.LST_LAMP n), 31, 24⟩
abbrev LST_LAMP_OPEN (n : Nat) : Fld := ⟨(Reg.LST_LAMP n), 23, 16⟩
abbrev LST_LAMP_SHED (n : Nat) : Fld := ⟨(Reg.LST_LAMP n), 15, 8⟩
abbrev LST_LAMP_FORCE_OFF (n : Nat) : Fld := ⟨(Reg.LST_LAMP n), 7, 0⟩
abbrev LST_STAT_DROPOUT (n : Nat) : Fld := ⟨(Reg.LST_STAT n), 31, 31⟩
abbrev LST_STAT_NOCUR (n : Nat) : Fld := ⟨(Reg.LST_STAT n), 30, 30⟩
abbrev LST_STAT_TEMP_FAULT (n : Nat) : Fld := ⟨(Reg.LST_STAT n), 29, 29⟩
abbrev LST_STAT_NSHED (n : Nat) : Fld := ⟨(Reg.LST_STAT n), 27, 24⟩
abbrev LST_STAT_HEAD_MV (n : Nat) : Fld := ⟨(Reg.LST_STAT n), 15, 0⟩
abbrev LST_VF_VF_SHED (n m : Nat) : Fld := ⟨(Reg.LST_VF n m), 31, 16⟩
abbrev LST_VF_VF (n m : Nat) : Fld := ⟨(Reg.LST_VF n m), 15, 0⟩
abbrev LCH_CFG_EN (n : Nat) : Fld := ⟨(Reg.LCH_CFG n), 31, 31⟩
abbrev LCH_CFG_SYNC_EXT (n : Nat) : Fld := ⟨(Reg.LCH_CFG n), 30, 30⟩
abbrev LCH_CFG_RET_EN (n : Nat) : Fld := ⟨(Reg.LCH_CFG n), 29, 29⟩
abbrev LCH_CFG_BITS16 (n : Nat) : Fld := ⟨(Reg.LCH_CFG n), 28, 28⟩
abbrev LCH_CFG_CH (n : Nat) : Fld := ⟨(Reg.LCH_CFG n), 27, 26⟩
abbrev LCH_CFG_SPEED (n : Nat) : Fld := ⟨(Reg.LCH_CFG n), 25, 25⟩
abbrev LCH_CFG_COPY_BACK (n : Nat) : Fld := ⟨(Reg.LCH_CFG n), 24, 24⟩
abbrev LCH_CFG_NODES (n : Nat) : Fld := ⟨(Reg.LCH_CFG n), 23, 16⟩
abbrev LCH_CFG_RESET (n : Nat) : Fld := ⟨(Reg.LCH_CFG n), 15, 8⟩
abbrev LCH_CFG_RET_TIMEOUT (n : Nat) : Fld := ⟨(Reg.LCH_CFG n), 7, 0⟩
abbrev LCH_FRAME_COLOURS (n : Nat) : Fld := ⟨(Reg.LCH_FRAME n), 23, 16⟩
abbrev LCH_FRAME_FRAME (n : Nat) : Fld := ⟨(Reg.LCH_FRAME n), 15, 0⟩
abbrev LCH_CMD_ARM (n : Nat) : Fld := ⟨(Reg.LCH_CMD n), 1, 1⟩
abbrev LCH_CMD_SYNC (n : Nat) : Fld := ⟨(Reg.LCH_CMD n), 0, 0⟩
abbrev LCH_STAT_ARMED (n : Nat) : Fld := ⟨(Reg.LCH_STAT n), 31, 31⟩
abbrev LCH_STAT_BUSY (n : Nat) : Fld := ⟨(Reg.LCH_STAT n), 30, 30⟩
abbrev LCH_STAT_QUEUED (n : Nat) : Fld := ⟨(Reg.LCH_STAT n), 29, 29⟩
abbrev LCH_STAT_FRONT (n : Nat) : Fld := ⟨(Reg.LCH_STAT n), 28, 28⟩
abbrev LCH_STAT_TEMP_FAULT (n : Nat) : Fld := ⟨(Reg.LCH_STAT n), 27, 27⟩
abbrev LCH_STAT_CODE (n : Nat) : Fld := ⟨(Reg.LCH_STAT n), 26, 24⟩
abbrev LCH_STAT_FRAMES (n : Nat) : Fld := ⟨(Reg.LCH_STAT n), 15, 0⟩
abbrev LCH_RT_PRESENT (n : Nat) : Fld := ⟨(Reg.LCH_RT n), 24, 16⟩
abbrev LCH_RT_RT (n : Nat) : Fld := ⟨(Reg.LCH_RT n), 15, 0⟩
abbrev LCH_OVR_COUNT (n : Nat) : Fld := ⟨(Reg.LCH_OVR n), 15, 0⟩
abbrev LCH_TSRC_TSRC : Fld := ⟨Reg.LCH_TSRC, 7, 0⟩
abbrev LCH_COINCIDE_COUNT : Fld := ⟨Reg.LCH_COINCIDE, 15, 0⟩
abbrev LCH_RT_MAX_RT : Fld := ⟨Reg.LCH_RT_MAX, 15, 0⟩
abbrev LCH_K_K (n : Nat) : Fld := ⟨(Reg.LCH_K n), 15, 0⟩
abbrev LCH_BK_VAL_HI (n m : Nat) : Fld := ⟨(Reg.LCH_BK n m), 31, 16⟩
abbrev LCH_BK_VAL_LO (n m : Nat) : Fld := ⟨(Reg.LCH_BK n m), 15, 0⟩
abbrev LCH_FR_VAL_HI (n m : Nat) : Fld := ⟨(Reg.LCH_FR n m), 31, 16⟩
abbrev LCH_FR_VAL_LO (n m : Nat) : Fld := ⟨(Reg.LCH_FR n m), 15, 0⟩

-- 17_current_loops.md
abbrev LOOP_CFG_EN (n : Nat) : Fld := ⟨(Reg.LOOP_CFG n), 31, 31⟩
abbrev LOOP_CFG_MODE (n : Nat) : Fld := ⟨(Reg.LOOP_CFG n), 30, 30⟩
abbrev LOOP_CFG_ALARM_ON_COMPLIANCE (n : Nat) : Fld := ⟨(Reg.LOOP_CFG n), 29, 29⟩
abbrev LOOP_CFG_TRACK (n : Nat) : Fld := ⟨(Reg.LOOP_CFG n), 28, 28⟩
abbrev LOOP_CFG_SRC_FAULT (n : Nat) : Fld := ⟨(Reg.LOOP_CFG n), 27, 26⟩
abbrev LOOP_CFG_TRIM_LIM (n : Nat) : Fld := ⟨(Reg.LOOP_CFG n), 15, 8⟩
abbrev LOOP_CFG_SRC (n : Nat) : Fld := ⟨(Reg.LOOP_CFG n), 7, 0⟩
abbrev LOOP_MAP_T_HI (n : Nat) : Fld := ⟨(Reg.LOOP_MAP n), 31, 16⟩
abbrev LOOP_MAP_T_LO (n : Nat) : Fld := ⟨(Reg.LOOP_MAP n), 15, 0⟩
abbrev LOOP_CMD_CMD_UA (n : Nat) : Fld := ⟨(Reg.LOOP_CMD n), 15, 0⟩
abbrev LOOP_STAT_STATE (n : Nat) : Fld := ⟨(Reg.LOOP_STAT n), 31, 30⟩
abbrev LOOP_STAT_ALARM (n : Nat) : Fld := ⟨(Reg.LOOP_STAT n), 29, 29⟩
abbrev LOOP_STAT_CLAMP (n : Nat) : Fld := ⟨(Reg.LOOP_STAT n), 28, 28⟩
abbrev LOOP_STAT_SAT (n : Nat) : Fld := ⟨(Reg.LOOP_STAT n), 27, 27⟩
abbrev LOOP_STAT_SRC_BAD (n : Nat) : Fld := ⟨(Reg.LOOP_STAT n), 26, 26⟩
abbrev LOOP_STAT_CFG_ERR (n : Nat) : Fld := ⟨(Reg.LOOP_STAT n), 25, 25⟩
abbrev LOOP_STAT_OVER (n : Nat) : Fld := ⟨(Reg.LOOP_STAT n), 24, 24⟩
abbrev LOOP_STAT_MEAS_STALE (n : Nat) : Fld := ⟨(Reg.LOOP_STAT n), 23, 23⟩
abbrev LOOP_STAT_EST_VALID (n : Nat) : Fld := ⟨(Reg.LOOP_STAT n), 22, 22⟩
abbrev LOOP_STAT_TRIM_AT_LIM (n : Nat) : Fld := ⟨(Reg.LOOP_STAT n), 21, 21⟩
abbrev LOOP_TARGET_DAC (n : Nat) : Fld := ⟨(Reg.LOOP_TARGET n), 31, 16⟩
abbrev LOOP_TARGET_TARGET_UA (n : Nat) : Fld := ⟨(Reg.LOOP_TARGET n), 15, 0⟩
abbrev LOOP_TRIM_TRIM (n : Nat) : Fld := ⟨(Reg.LOOP_TRIM n), 15, 0⟩
abbrev LOOP_MEAS_LOOPV_MV (n : Nat) : Fld := ⟨(Reg.LOOP_MEAS n), 31, 16⟩
abbrev LOOP_MEAS_I_UA (n : Nat) : Fld := ⟨(Reg.LOOP_MEAS n), 15, 0⟩
abbrev LOOP_RES_R_MAX (n : Nat) : Fld := ⟨(Reg.LOOP_RES n), 31, 16⟩
abbrev LOOP_RES_R_EST (n : Nat) : Fld := ⟨(Reg.LOOP_RES n), 15, 0⟩
abbrev LOOP_OP_KEY (n : Nat) : Fld := ⟨(Reg.LOOP_OP n), 31, 24⟩
abbrev LOOP_OP_TRIM_CLEAR (n : Nat) : Fld := ⟨(Reg.LOOP_OP n), 1, 1⟩
abbrev LOOP_OP_RETRY (n : Nat) : Fld := ⟨(Reg.LOOP_OP n), 0, 0⟩
abbrev LOOP_COINCIDE_COUNT : Fld := ⟨Reg.LOOP_COINCIDE, 15, 0⟩

-- 18_status_panel.md
abbrev DSP_CTRL_EN : Fld := ⟨Reg.DSP_CTRL, 31, 31⟩
abbrev DSP_CTRL_CHECK_EN : Fld := ⟨Reg.DSP_CTRL, 30, 30⟩
abbrev DSP_STATUS_RUNNING : Fld := ⟨Reg.DSP_STATUS, 31, 31⟩
abbrev DSP_STATUS_VBLANK : Fld := ⟨Reg.DSP_STATUS, 30, 30⟩
abbrev DSP_STATUS_FRAME_PEND : Fld := ⟨Reg.DSP_STATUS, 29, 29⟩
abbrev DSP_STATUS_LINE_PEND : Fld := ⟨Reg.DSP_STATUS, 28, 28⟩
abbrev DSP_STATUS_CFG_ERR : Fld := ⟨Reg.DSP_STATUS, 27, 27⟩
abbrev DSP_STATUS_HELD : Fld := ⟨Reg.DSP_STATUS, 26, 26⟩
abbrev DSP_STATUS_LINE : Fld := ⟨Reg.DSP_STATUS, 10, 0⟩
abbrev DSP_COMMIT_LINE : Fld := ⟨Reg.DSP_COMMIT, 1, 1⟩
abbrev DSP_COMMIT_FRAME : Fld := ⟨Reg.DSP_COMMIT, 0, 0⟩
abbrev DSP_FRAMES_COUNT : Fld := ⟨Reg.DSP_FRAMES, 31, 0⟩
abbrev DSP_COINCIDE_COUNT : Fld := ⟨Reg.DSP_COINCIDE, 15, 0⟩
abbrev DSP_PCLK_ACT_KHZ : Fld := ⟨Reg.DSP_PCLK_ACT, 16, 0⟩
abbrev DSP_LINE_AT_LINE : Fld := ⟨Reg.DSP_LINE_AT, 10, 0⟩
abbrev DSP_FILL_RGB : Fld := ⟨Reg.DSP_FILL, 23, 0⟩
abbrev DSP_CSC_FULL : Fld := ⟨Reg.DSP_CSC, 1, 1⟩
abbrev DSP_CSC_STD709 : Fld := ⟨Reg.DSP_CSC, 0, 0⟩
abbrev DSP_B_CFG_EN : Fld := ⟨Reg.DSP_B_CFG, 31, 31⟩
abbrev DSP_B_CFG_SRC : Fld := ⟨Reg.DSP_B_CFG, 30, 30⟩
abbrev DSP_B_CFG_FMT : Fld := ⟨Reg.DSP_B_CFG, 2, 0⟩
abbrev DSP_B_ADDR_ADDR : Fld := ⟨Reg.DSP_B_ADDR, 25, 4⟩
abbrev DSP_B_PITCH_PITCH : Fld := ⟨Reg.DSP_B_PITCH, 15, 4⟩
abbrev DSP_B_CADDR_ADDR : Fld := ⟨Reg.DSP_B_CADDR, 25, 4⟩
abbrev DSP_O_CFG_EN : Fld := ⟨Reg.DSP_O_CFG, 31, 31⟩
abbrev DSP_O_CFG_SRC : Fld := ⟨Reg.DSP_O_CFG, 30, 30⟩
abbrev DSP_O_CFG_KEY_EN : Fld := ⟨Reg.DSP_O_CFG, 29, 29⟩
abbrev DSP_O_CFG_ALPHA : Fld := ⟨Reg.DSP_O_CFG, 15, 8⟩
abbrev DSP_O_CFG_FMT : Fld := ⟨Reg.DSP_O_CFG, 2, 0⟩
abbrev DSP_O_ADDR_ADDR : Fld := ⟨Reg.DSP_O_ADDR, 25, 4⟩
abbrev DSP_O_PITCH_PITCH : Fld := ⟨Reg.DSP_O_PITCH, 15, 4⟩
abbrev DSP_O_CADDR_ADDR : Fld := ⟨Reg.DSP_O_CADDR, 25, 4⟩
abbrev DSP_O_POS_Y : Fld := ⟨Reg.DSP_O_POS, 26, 16⟩
abbrev DSP_O_POS_X : Fld := ⟨Reg.DSP_O_POS, 10, 0⟩
abbrev DSP_O_SIZE_H : Fld := ⟨Reg.DSP_O_SIZE, 26, 16⟩
abbrev DSP_O_SIZE_W : Fld := ⟨Reg.DSP_O_SIZE, 10, 0⟩
abbrev DSP_O_KEY_RGB : Fld := ⟨Reg.DSP_O_KEY, 23, 0⟩
abbrev DSP_TXT_HIDE : Fld := ⟨Reg.DSP_TXT, 0, 0⟩
abbrev DSP_LS_CFG_O_EN : Fld := ⟨Reg.DSP_LS_CFG, 1, 1⟩
abbrev DSP_LS_CFG_B_EN : Fld := ⟨Reg.DSP_LS_CFG, 0, 0⟩
abbrev DSP_LS_B_ADDR_ADDR : Fld := ⟨Reg.DSP_LS_B_ADDR, 25, 4⟩
abbrev DSP_LS_O_ADDR_ADDR : Fld := ⟨Reg.DSP_LS_O_ADDR, 25, 4⟩
abbrev DSP_LS_O_CFG_EN : Fld := ⟨Reg.DSP_LS_O_CFG, 31, 31⟩
abbrev DSP_LS_O_CFG_ALPHA : Fld := ⟨Reg.DSP_LS_O_CFG, 15, 8⟩
abbrev DSP_LS_B_CADDR_ADDR : Fld := ⟨Reg.DSP_LS_B_CADDR, 25, 4⟩
abbrev DSP_CRC_SENT_CRC : Fld := ⟨Reg.DSP_CRC_SENT, 31, 0⟩
abbrev DSP_CRC_SEEN_CRC : Fld := ⟨Reg.DSP_CRC_SEEN, 31, 0⟩
abbrev DSP_CRC_STAT_MISMATCH : Fld := ⟨Reg.DSP_CRC_STAT, 31, 31⟩
abbrev DSP_CRC_STAT_CTRL_BAD : Fld := ⟨Reg.DSP_CRC_STAT, 30, 30⟩
abbrev DSP_CRC_STAT_FIRST_LINE : Fld := ⟨Reg.DSP_CRC_STAT, 26, 16⟩
abbrev DSP_CRC_COUNT_FRAMES : Fld := ⟨Reg.DSP_CRC_COUNT, 15, 0⟩
abbrev DSP_UNDER_BASE : Fld := ⟨Reg.DSP_UNDER, 31, 16⟩
abbrev DSP_UNDER_OVERLAY : Fld := ⟨Reg.DSP_UNDER, 15, 0⟩
abbrev DSP_XSPI_CFG_EN : Fld := ⟨Reg.DSP_XSPI_CFG, 31, 31⟩
abbrev DSP_XSPI_CFG_CLK : Fld := ⟨Reg.DSP_XSPI_CFG, 30, 29⟩
abbrev DSP_XSPI_CFG_OCTAL : Fld := ⟨Reg.DSP_XSPI_CFG, 28, 28⟩
abbrev DSP_XSPI_CFG_EXT_INV : Fld := ⟨Reg.DSP_XSPI_CFG, 27, 27⟩
abbrev DSP_XSPI_CFG_DUMMY : Fld := ⟨Reg.DSP_XSPI_CFG, 26, 22⟩
abbrev DSP_XSPI_CFG_SIZE_LOG2 : Fld := ⟨Reg.DSP_XSPI_CFG, 20, 16⟩
abbrev DSP_XSPI_CFG_READ_OP : Fld := ⟨Reg.DSP_XSPI_CFG, 7, 0⟩
abbrev DSP_XSPI_CMD_KEY : Fld := ⟨Reg.DSP_XSPI_CMD, 31, 24⟩
abbrev DSP_XSPI_CMD_OP : Fld := ⟨Reg.DSP_XSPI_CMD, 23, 16⟩
abbrev DSP_XSPI_CMD_LEN : Fld := ⟨Reg.DSP_XSPI_CMD, 15, 8⟩
abbrev DSP_XSPI_CMD_DIR : Fld := ⟨Reg.DSP_XSPI_CMD, 5, 4⟩
abbrev DSP_XSPI_CMD_ADDR_EN : Fld := ⟨Reg.DSP_XSPI_CMD, 3, 3⟩
abbrev DSP_XSPI_CMD_GO : Fld := ⟨Reg.DSP_XSPI_CMD, 0, 0⟩
abbrev DSP_XSPI_ADDR_ADDR : Fld := ⟨Reg.DSP_XSPI_ADDR, 25, 0⟩
abbrev DSP_XSPI_STAT_BUSY : Fld := ⟨Reg.DSP_XSPI_STAT, 31, 31⟩
abbrev DSP_XSPI_STAT_DONE : Fld := ⟨Reg.DSP_XSPI_STAT, 30, 30⟩
abbrev DSP_XSPI_STAT_CODE : Fld := ⟨Reg.DSP_XSPI_STAT, 29, 28⟩
abbrev DSP_XSPI_STAT_WIN_MISS : Fld := ⟨Reg.DSP_XSPI_STAT, 27, 27⟩
abbrev DSP_XSPI_STAT_ERR : Fld := ⟨Reg.DSP_XSPI_STAT, 26, 26⟩
abbrev DSP_XSPI_BUF_BYTES (n : Nat) : Fld := ⟨(Reg.DSP_XSPI_BUF n), 31, 0⟩

-- 19_audit_lifecycle.md
abbrev SEAL_STATUS_BUSY : Fld := ⟨Reg.SEAL_STATUS, 31, 31⟩
abbrev SEAL_STATUS_DONE : Fld := ⟨Reg.SEAL_STATUS, 30, 30⟩
abbrev SEAL_STATUS_CODE : Fld := ⟨Reg.SEAL_STATUS, 29, 26⟩
abbrev SEAL_STATUS_RNG_BAD : Fld := ⟨Reg.SEAL_STATUS, 25, 25⟩
abbrev SEAL_STATUS_RNG_EMPTY : Fld := ⟨Reg.SEAL_STATUS, 24, 24⟩
abbrev SEAL_STATUS_REFUSED : Fld := ⟨Reg.SEAL_STATUS, 23, 23⟩
abbrev SEAL_STATUS_HOLDER : Fld := ⟨Reg.SEAL_STATUS, 22, 21⟩
abbrev SEAL_CMD_KEY : Fld := ⟨Reg.SEAL_CMD, 31, 24⟩
abbrev SEAL_CMD_OP : Fld := ⟨Reg.SEAL_CMD, 11, 8⟩
abbrev SEAL_CMD_WIPE : Fld := ⟨Reg.SEAL_CMD, 1, 1⟩
abbrev SEAL_CMD_GO : Fld := ⟨Reg.SEAL_CMD, 0, 0⟩
abbrev SEAL_CFG_SLOT : Fld := ⟨Reg.SEAL_CFG, 10, 8⟩
abbrev SEAL_CFG_KSRC : Fld := ⟨Reg.SEAL_CFG, 4, 4⟩
abbrev SEAL_CFG_KEYLEN : Fld := ⟨Reg.SEAL_CFG, 3, 3⟩
abbrev SEAL_CFG_MODE : Fld := ⟨Reg.SEAL_CFG, 1, 0⟩
abbrev SEAL_SRC_ADDR : Fld := ⟨Reg.SEAL_SRC, 31, 0⟩
abbrev SEAL_DST_ADDR : Fld := ⟨Reg.SEAL_DST, 31, 0⟩
abbrev SEAL_LEN_LEN : Fld := ⟨Reg.SEAL_LEN, 23, 0⟩
abbrev SEAL_RNG_WORD : Fld := ⟨Reg.SEAL_RNG, 31, 0⟩
abbrev SEAL_KS_STAT_SLOTS : Fld := ⟨Reg.SEAL_KS_STAT, 15, 0⟩
abbrev SEAL_IV_IV (n : Nat) : Fld := ⟨(Reg.SEAL_IV n), 31, 0⟩
abbrev SEAL_DIGEST_DIGEST (n : Nat) : Fld := ⟨(Reg.SEAL_DIGEST n), 31, 0⟩
abbrev SEAL_KEY_KEY (n : Nat) : Fld := ⟨(Reg.SEAL_KEY n), 31, 0⟩
abbrev SEAL_OPND_OPERAND (n : Nat) : Fld := ⟨(Reg.SEAL_OPND n), 31, 0⟩
abbrev AUD_STATUS_FROZEN : Fld := ⟨Reg.AUD_STATUS, 31, 31⟩
abbrev AUD_STATUS_JREFUSED : Fld := ⟨Reg.AUD_STATUS, 30, 30⟩
abbrev AUD_STATUS_EXEMPT : Fld := ⟨Reg.AUD_STATUS, 29, 26⟩
abbrev AUD_STATUS_LAST_CAUSE : Fld := ⟨Reg.AUD_STATUS, 25, 23⟩
abbrev AUD_STATUS_LAST_RELEASE : Fld := ⟨Reg.AUD_STATUS, 22, 20⟩
abbrev AUD_STATUS_FREEZES : Fld := ⟨Reg.AUD_STATUS, 15, 0⟩
abbrev AUD_CFG_PIN_EN : Fld := ⟨Reg.AUD_CFG, 31, 31⟩
abbrev AUD_CFG_PIN_RELEASE : Fld := ⟨Reg.AUD_CFG, 30, 30⟩
abbrev AUD_CFG_JCORE : Fld := ⟨Reg.AUD_CFG, 29, 29⟩
abbrev AUD_CFG_WINDOW : Fld := ⟨Reg.AUD_CFG, 23, 8⟩
abbrev AUD_CFG_EXEMPT : Fld := ⟨Reg.AUD_CFG, 3, 0⟩
abbrev AUD_LAST_LO_TICKS : Fld := ⟨Reg.AUD_LAST_LO, 31, 0⟩
abbrev AUD_LAST_HI_TICKS : Fld := ⟨Reg.AUD_LAST_HI, 15, 0⟩
abbrev AUD_COINCIDE_COUNT : Fld := ⟨Reg.AUD_COINCIDE, 15, 0⟩
abbrev AUD_EXTRA_COUNT : Fld := ⟨Reg.AUD_EXTRA, 15, 0⟩
abbrev AUD_LC_STATE_STATE : Fld := ⟨Reg.AUD_LC_STATE, 31, 30⟩
abbrev AUD_LC_STATE_UNLOCKED : Fld := ⟨Reg.AUD_LC_STATE, 29, 29⟩
abbrev AUD_LC_STATE_LC_BAD : Fld := ⟨Reg.AUD_LC_STATE, 28, 28⟩
abbrev AUD_LC_STATE_SLOTS : Fld := ⟨Reg.AUD_LC_STATE, 23, 16⟩
abbrev AUD_LC_STATE_EPOCH : Fld := ⟨Reg.AUD_LC_STATE, 5, 0⟩
abbrev AUD_LC_CMD_KEY : Fld := ⟨Reg.AUD_LC_CMD, 31, 24⟩
abbrev AUD_LC_CMD_NONCE : Fld := ⟨Reg.AUD_LC_CMD, 1, 1⟩
abbrev AUD_LC_CMD_GO : Fld := ⟨Reg.AUD_LC_CMD, 0, 0⟩
abbrev AUD_LC_RESULT_BUSY : Fld := ⟨Reg.AUD_LC_RESULT, 31, 31⟩
abbrev AUD_LC_RESULT_DONE : Fld := ⟨Reg.AUD_LC_RESULT, 30, 30⟩
abbrev AUD_LC_RESULT_CODE : Fld := ⟨Reg.AUD_LC_RESULT, 27, 24⟩
abbrev AUD_UID_UID (n : Nat) : Fld := ⟨(Reg.AUD_UID n), 31, 0⟩
abbrev AUD_LC_NONCE_NONCE (n : Nat) : Fld := ⟨(Reg.AUD_LC_NONCE n), 31, 0⟩
abbrev AUD_LC_BUF_WORD (n : Nat) : Fld := ⟨(Reg.AUD_LC_BUF n), 31, 0⟩

-- 20_balls_pins.md
abbrev AO_PAD_STAT_FN_OK : Fld := ⟨Reg.AO_PAD_STAT, 31, 31⟩
abbrev AO_PAD_STAT_CHANGED : Fld := ⟨Reg.AO_PAD_STAT, 30, 30⟩
abbrev AO_PAD_STAT_HOST_3V3 : Fld := ⟨Reg.AO_PAD_STAT, 7, 7⟩
abbrev AO_PAD_STAT_HOST_OK : Fld := ⟨Reg.AO_PAD_STAT, 6, 6⟩
abbrev AO_PAD_STAT_C_3V3 : Fld := ⟨Reg.AO_PAD_STAT, 5, 5⟩
abbrev AO_PAD_STAT_C_OK : Fld := ⟨Reg.AO_PAD_STAT, 4, 4⟩
abbrev AO_PAD_STAT_B_3V3 : Fld := ⟨Reg.AO_PAD_STAT, 3, 3⟩
abbrev AO_PAD_STAT_B_OK : Fld := ⟨Reg.AO_PAD_STAT, 2, 2⟩
abbrev AO_PAD_STAT_A_3V3 : Fld := ⟨Reg.AO_PAD_STAT, 1, 1⟩
abbrev AO_PAD_STAT_A_OK : Fld := ⟨Reg.AO_PAD_STAT, 0, 0⟩

end F
end Sys2Proof.Machine
end

