-- ==== Sys2Proof/Machine/Memory.lean ====
section
/-! DEFINITION. The device's memories as one canonical list of cells: the memories of Table 09-1 at their own addresses and the
ferroelectric memory at model addresses above them. Cells rise strictly by address, and a cell that holds what an
unlisted address reads as is not listed. -/

namespace Sys2Proof.Machine

/-- What an address that is not listed reads as: erased flash reads all ones (R156), every other memory 0
(DESIGN CHOICE where the spec gives no contents, assumption 2). -/
def memDefault (a : Nat) : Byte := if 0x08000000 ≤ a ∧ a < 0x08200000 then 0xFF else 0

/-- The memory cells. -/
abbrev Memory := List Host.Cell

/-- The byte at an address. -/
def memGet (m : Memory) (a : Nat) : Byte :=
  match m with
  | [] => memDefault a
  | (b, x) :: t => if b = a then x else memGet t a

/-- The cells of a run of bytes from an address, less those that hold what an unlisted address reads as. -/
def memCells : Nat → List Byte → Memory
  | _, [] => []
  | a, x :: t => if x = memDefault a then memCells (a + 1) t else (a, x) :: memCells (a + 1) t

/-- Memory with a run of bytes written from an address. -/
def memWrite (m : Memory) (a : Nat) (b : List Byte) : Memory :=
  m.filter (fun p => decide (p.1 < a)) ++ memCells a b ++ m.filter (fun p => decide (a + b.length ≤ p.1))

/-- Memory with n bytes from an address back at what an unlisted address reads as. -/
def memClear (m : Memory) (a n : Nat) : Memory :=
  m.filter (fun p => decide (p.1 < a)) ++ m.filter (fun p => decide (a + n ≤ p.1))

/-- The n bytes from an address, built from the cells of that run alone. -/
def memBytes (m : Memory) (a n : Nat) : List Byte :=
  let run := m.filter fun p => decide (a ≤ p.1 ∧ p.1 < a + n)
  fill run a n
where
  /-- Walk a run of cells, filling the unlisted places. -/
  fill : Memory → Nat → Nat → List Byte
    | _, _, 0 => []
    | [], a, n + 1 => memDefault a :: fill [] (a + 1) n
    | (b, x) :: t, a, n + 1 =>
      if b = a then x :: fill t (a + 1) n else memDefault a :: fill ((b, x) :: t) (a + 1) n

/-- Addresses strictly rise. -/
def memSorted : Memory → Bool
  | (a, _) :: (b, y) :: t => decide (a < b) && memSorted ((b, y) :: t)
  | _ => true

/-- The canonical form of the memory. -/
def Memory.wf (m : Memory) : Bool := memSorted m && m.all fun p => p.2 != memDefault p.1

/-- The little-endian word at an address. -/
def memWord (m : Memory) (a : Nat) : Nat :=
  (memGet m a).toNat + 256 * (memGet m (a + 1)).toNat + 65536 * (memGet m (a + 2)).toNat
    + 16777216 * (memGet m (a + 3)).toNat

/-- The little-endian halfword at an address. -/
def memHalf (m : Memory) (a : Nat) : Nat := (memGet m a).toNat + 256 * (memGet m (a + 1)).toNat

end Sys2Proof.Machine
end

