-- ==== Sys2Proof/Machine/ResetRegs.lean ====
section
/-! DEFINITION. The register words right after POR, as the Reset columns of the register tables give them with no Ledger loaded (R8, R9, R13). -/

namespace Sys2Proof.Machine

/-- Block 0. -/
def resetRegs0 : RegFile :=
  [(0x40000000, 0x00000001), (0x4000010C, 0x00FFFFFF), (0x40000110, 0x00FFFFFF), (0x40000224, 0x0000FFFF),
    (0x4000031C, 0x00070000), (0x40000400, 0x80000001)]

/-- Block 3. -/
def resetRegs3 : RegFile :=
  [(0x40030000, 0x32000011), (0x40030004, 0x03E80000), (0x40030008, 0x000003E8), (0x40030010, 0xFFFFFFFF),
    (0x4003001C, 0x00000960), (0x40030040, 0x32000011), (0x40030044, 0x03E80000), (0x40030048, 0x000003E8),
    (0x40030050, 0xFFFFFFFF), (0x4003005C, 0x00000960), (0x40030080, 0x32000011), (0x40030084, 0x03E80000),
    (0x40030088, 0x000003E8), (0x40030090, 0xFFFFFFFF), (0x4003009C, 0x00000960), (0x400300C0, 0x32000011),
    (0x400300C4, 0x03E80000), (0x400300C8, 0x000003E8), (0x400300D0, 0xFFFFFFFF), (0x400300DC, 0x00000960),
    (0x40030100, 0x32000011), (0x40030104, 0x03E80000), (0x40030108, 0x000003E8), (0x40030110, 0xFFFFFFFF),
    (0x4003011C, 0x00000960), (0x40030140, 0x32000011), (0x40030144, 0x03E80000), (0x40030148, 0x000003E8),
    (0x40030150, 0xFFFFFFFF), (0x4003015C, 0x00000960), (0x40030180, 0x32000011), (0x40030184, 0x03E80000),
    (0x40030188, 0x000003E8), (0x40030190, 0xFFFFFFFF), (0x4003019C, 0x00000960), (0x400301C0, 0x32000011),
    (0x400301C4, 0x03E80000), (0x400301C8, 0x000003E8), (0x400301D0, 0xFFFFFFFF), (0x400301DC, 0x00000960),
    (0x40030408, 0x0514047E), (0x4003040C, 0x012C0000)]

/-- Block 4. -/
def resetRegs4 : RegFile :=
  [(0x40040004, 0x00000174), (0x40040080, 0x00000010)]

/-- Block 5. -/
def resetRegs5 : RegFile :=
  [(0x40050004, 0x00003C09), (0x40050008, 0x0052A080), (0x4005000C, 0x0000002B), (0x40050018, 0x000007D0)]

/-- Block 6. -/
def resetRegs6 : RegFile :=
  [(0x40060000, 0x00040000), (0x40060100, 0x00040000), (0x40060200, 0x00040000), (0x40060300, 0x00040000),
    (0x40060400, 0x00040000), (0x40060500, 0x00040000), (0x40060904, 0x00000960), (0x4006090C, 0x00000960),
    (0x40060914, 0x00000960), (0x4006091C, 0x00000960), (0x40060924, 0x00000960), (0x4006092C, 0x00000960),
    (0x40060934, 0x00000960), (0x4006093C, 0x00000960)]

/-- Block 8. -/
def resetRegs8 : RegFile :=
  [(0x40080004, 0x00010000), (0x40080084, 0x00010000), (0x40080104, 0x00010000), (0x40080184, 0x00010000),
    (0x40080204, 0x00010000), (0x40080284, 0x00010000), (0x40080304, 0x00010000), (0x40080384, 0x00010000),
    (0x40080404, 0x00010000), (0x40080484, 0x00010000), (0x40080504, 0x00010000), (0x40080584, 0x00010000),
    (0x40080604, 0x00010000), (0x40080684, 0x00010000), (0x40080704, 0x00010000), (0x40080784, 0x00010000)]

/-- Block 9. -/
def resetRegs9 : RegFile :=
  [(0x40090010, 0x000000FF), (0x40090020, 0x00008000), (0x40090024, 0x00008000), (0x40090028, 0x00008000),
    (0x4009002C, 0x00008000)]

/-- Block 10. -/
def resetRegs10 : RegFile :=
  [(0x400A0000, 0x00000041), (0x400A0004, 0x000000FF), (0x400A0020, 0x00008000), (0x400A0024, 0x00008000),
    (0x400A0028, 0x00008000), (0x400A002C, 0x00008000)]

/-- Block 11. -/
def resetRegs11 : RegFile :=
  [(0x400B0000, 0x08000000), (0x400B0010, 0x0000FFFF), (0x400B0020, 0x08000000), (0x400B0030, 0x0000FFFF),
    (0x400B0040, 0x08000000), (0x400B0050, 0x0000FFFF), (0x400B0060, 0x08000000), (0x400B0070, 0x0000FFFF),
    (0x400B0080, 0x000000FF), (0x400B0090, 0x00008000), (0x400B0094, 0x00008000), (0x400B0098, 0x00008000),
    (0x400B009C, 0x00008000)]

/-- Block 12. -/
def resetRegs12 : RegFile :=
  [(0x400C0000, 0x100000FF), (0x400C0004, 0x06400000), (0x400C0008, 0x00000E10), (0x400C0040, 0x100000FF),
    (0x400C0044, 0x06400000), (0x400C0048, 0x00000E10)]

/-- Block 13. -/
def resetRegs13 : RegFile :=
  [(0x400D0000, 0xC0000000), (0x400D0040, 0x0000FF00), (0x400D0140, 0x0000FF00), (0x400D0300, 0x08000000)]

/-- Block 14. -/
def resetRegs14 : RegFile :=
  [(0x400E0020, 0x00000100)]

/-- Block 16. -/
def resetRegs16 : RegFile :=
  [(0x40100000, 0x00000001), (0x4010004C, 0x14001401), (0x40100050, 0x05000000)]

/-- Block 17. -/
def resetRegs17 : RegFile :=
  [(0x40110004, 0x80000000)]

/-- Block 18. -/
def resetRegs18 : RegFile :=
  [(0x40120034, 0x00080000)]

/-- Block 19. -/
def resetRegs19 : RegFile :=
  [(0x40130014, 0x3C000050)]

/-- Every register word that is not 0 after POR. -/
def resetRegs : RegFile :=
  resetRegs0 ++ resetRegs3 ++ resetRegs4 ++ resetRegs5 ++ resetRegs6 ++ resetRegs8 ++ resetRegs9 ++ resetRegs10 ++ resetRegs11
    ++ resetRegs12 ++ resetRegs13 ++ resetRegs14 ++ resetRegs16 ++ resetRegs17 ++ resetRegs18 ++ resetRegs19

end Sys2Proof.Machine
end

