-- ==== Sys2Proof/Machine/State.lean ====
section
/-! DEFINITION. The state of the SF-7300 as plain data: every register word, every memory byte, and block by block the
state the spec gives the device beside its registers. A field that a register shows has the register as its home. -/

namespace Sys2Proof.Machine

/-- What a meaning could stop with. No meaning of this model does: the spec gives every command an effect. -/
inductive Fault where
  /-- Raised by no command: the spec names no condition that stops the device for good. Safe: it cannot occur. -/
  | halted
  deriving DecidableEq, Repr

/-- What a command can be refused with. -/
inductive Refusal where
  /-- Raised by exec for a command that has no meaning yet; by none in this model. Safe: the machine stops. -/
  | notModelled (mnemonic : String)
  deriving DecidableEq, Repr

/-- One section as a till holds it (chapter 03): its directory index, TYPE, INSTANCE, body and the CRC-32 as loaded.
held is false for a section no till owns, of which AO keeps the CRC alone (R118). -/
structure SecTill where
  index : Nat
  typ : Nat
  inst : Nat
  body : List Byte
  crc : Nat
  held : Bool
  deriving DecidableEq, Repr

/-- The resets that wait for a Vault commit to end (R45), as one union (R17): the cores whose device-scope watchdog has expired, an LDR with its
SEQ, and the domains an SWR names. -/
structure Deferred where
  cores : List Core := []
  load : Option Bool := Option.none
  mask : Nat := 0
  deriving DecidableEq, Repr

/-- No reset waits. -/
abbrev Deferred.none : Deferred := {}
/-- A device-scope watchdog reset waits. -/
abbrev Deferred.wdr (c : Core) : Deferred := { cores := [c] }
/-- An LDR waits. -/
abbrev Deferred.ldr (seq : Bool) : Deferred := { load := some seq }
/-- An SWR waits. -/
abbrev Deferred.swr (mask : Nat) : Deferred := { mask := mask }

/-- The first light that waits for VCORE after a BOR (R17, R46, R150): the reset kinds in the union, as a mask of RegTable, whether it includes
the Sequencer state, and PFAIL_N as it stood. -/
structure Restart where
  kinds : Nat := 2
  seq : Bool := false
  pfailHigh : Bool := true
  deriving DecidableEq, Repr

/-- First light and resets (chapter 01). -/
structure FirstLight where
  vinValid : Bool := false        -- VIN_AO counts as valid (R21)
  vcoreLow : Bool := false        -- VCORE is below 0.78 V and BOR stands (R150)
  runStore : Option Nat := none   -- store in use: 0 A, 1 B; none for the bare Ledger (R51, R86)
  waitFreeze : Bool := false      -- steps 12-14 wait for a freeze to be released (R41)
  deferred : Deferred := .none    -- resets waiting for a commit (R45)
  due : Restart := {}             -- the first light that runs when VCORE is back (R17)
  half : Option Nat := none       -- the image half selected at step 13 (R24, R53)
  ledgerFault : Bool := false     -- LEDGER_FAULT_N driven low (Table 01-2)
  deriving DecidableEq, Repr

/-- The write window's JTAG load and the running check (chapter 02). -/
structure LedgerUnit where
  loading : Bool := false         -- LGR_LOAD is selected and its hold stands (R95)
  blocked : Bool := false         -- the load writes nothing and its final capture returns 0xE (R95)
  cut : Bool := false             -- a load was cut off; a final capture that follows returns 0xF (R95)
  dead : Bool := false            -- words are dropped until LGR_LOAD is selected again: the load was cut off while it was selected
  count : Nat := 0                -- byte count shifted in first (R96)
  taken : Nat := 0                -- store words taken so far
  crc : Nat := 0                  -- the CRC word shifted last
  words : List Word := []         -- words of a load under the bare Ledger, newest first (R35)
  capture : Nat := 0              -- the result code the final capture returned
  deriving DecidableEq, Repr

/-- The reconcile unit and the divergence audit (chapter 03). -/
structure Reconcile where
  limit : Nat := 0                -- LIMIT of the running request, in 10 ms units
  snapped : Bool := false         -- the snapshot has passed
  stage : List Byte := []         -- the staging till
  stageCrc : Nat := 0             -- CRC-32 of the staging till
  stalled : List (Nat × Word) := []  -- shadow writes that wait for the snapshot, oldest first (R110)
  lastDiff : List Nat := []       -- indices that differed in the last audit pass (R119)
  reported : List Nat := []       -- indices whose event is out and whose bit is not cleared yet (R119)
  deriving DecidableEq, Repr

/-- A core's stop request (R143). -/
structure StopReq where
  ret : Nat
  waitLim : Nat
  deriving DecidableEq, Repr

/-- Where the device is between run and stop (Table 04-3). -/
inductive StopPhase where
  | run | accepted | stopped
  deriving DecidableEq, Repr

/-- Domains, stop and wake (chapter 04). -/
structure Power where
  retryDue : Nat := 0             -- domains that failed once and are retried after 1 ms (R172), a mask
  retried : Nat := 0              -- domains whose retry has been used
  hardFail : Nat := 0             -- FRAM or SEAL failed twice: no commit, or no verification, until POR (R172), a mask
  failNote : Nat := 0             -- PWR_FAIL of such a failure, until the Daybook has it (R172)
  reqA : Option StopReq := none
  reqB : Option StopReq := none
  phase : StopPhase := .run
  retained : Nat := 0             -- SRAM blocks retained in stop, bit j
  timeWasOn : Bool := false       -- TIME was on at stop entry (Table 04-7)
  wakeLevel : Nat := 0            -- wake sources that are active now, laid out as PWR_WAKE_CAUSE
  xt32Fail : Bool := false        -- XT32 gives no edges
  served : List (Option Core) := List.replicate 4 none  -- the core each SRAM block served last (R137)
  deriving DecidableEq, Repr

/-- A flash command in progress (R156). -/
structure FlashCmd where
  op : Nat
  addr : Nat
  data : List Byte
  abort : Bool
  deriving DecidableEq, Repr

/-- The flash controller beside its registers (chapter 04). -/
structure Flash where
  cmd : Option FlashCmd := none
  sectorErr : List (Nat × Nat) := []   -- corrected errors of this pass, by sector
  weak : List Nat := []                -- rows that hold a single-bit error, which every read corrects and none rewrites (R160)
  deriving DecidableEq, Repr

/-- The Clearing house beside its registers (chapter 09). -/
structure Clearing where
  pulses : List Nat := []         -- pulse sources with a pulse in the one-deep latch (R324)
  levels : List Nat := []         -- level sources active at their islands
  heldRoutes : List (Nat × Nat) := []  -- (DEST_KIND, DEST_INDEX) pulses held at a frozen destination (R341)
  autoWires : Nat := 0            -- wires of HST_VW_OUT that an autoteller or the device holds asserted, a mask
  wirePulse : List (Nat × Bool) := []  -- host wires that carry a pulse, and whether the asserted message has gone (R351)
  wireChg : List Nat := []        -- host wires that changed since the last virtual-wire message (R351)
  deriving DecidableEq, Repr

/-- A Daybook entry before its SEQNO and CRC (Table 06-4). -/
structure DayEntry where
  typ : Nat
  time : Nat
  d0 : Nat
  d1 : Nat
  d2 : Nat
  deriving DecidableEq, Repr

/-- A commit in progress (R220): the composed image, its serial, the bank it goes to, and the pending changes it carries. -/
structure Commit where
  image : List Byte
  serial : Nat
  bank : Nat
  carried : List (Nat × List Nat)
  again : List Nat := []                -- records staged again since it started (R236)
  usesDraft : Bool
  clash : Bool
  deriving DecidableEq, Repr

/-- The Vault and the Reserve gauge beside their registers (chapter 06). -/
structure Vault where
  mirror : List Byte := []              -- the image mirror (R231), empty when no bank is active
  mirrorBad : List Nat := []            -- records of the mirror with an uncorrectable error (R240)
  draft : List Nat := []                -- the draft's words (R216)
  pend : List (Nat × List Nat) := []    -- the hardware pending set: header and data of each change
  commit : Option Commit := none
  hwWaiting : Bool := false             -- a hardware-originated commit was refused and is retried (R237)
  lastDue : Bool := false               -- LAST has found no room in the pending set (R192, R232)
  queue : List DayEntry := []           -- the Daybook queue, oldest first
  lostSince : Nat := 0                  -- entries discarded since the last LOST entry (R229)
  nextSeq : Nat := 1                    -- SEQNO of the next Daybook entry (R228)
  measDue : Bool := false               -- a capacitance measurement is due (R225)
  pfailOk : Bool := false               -- PFAIL_N has been high for the last 100 µs (R219)
  loadAbove : Bool := false             -- RSV_LOAD was above I_BUDGET at the last 1 ms sample (R240)
  deriving DecidableEq, Repr

/-- The Calendar beside its registers (chapter 12). -/
structure Calendar where
  count : Nat := 0                      -- 64-bit count of XT32 ticks
  frac : Nat := 0                       -- 32 fraction bits under it
  setDue : Bool := false                -- SET loads CAL_SET at the next tick (R423)
  rateDue : Option Word := none         -- a CAL_RATE write that takes effect at the next tick (R423)
  credit : Nat := 0                     -- part of the current tick that fell before the edge that set the count, in ns (R418)
  holdFrom : Nat := 0                   -- count at which the 2 s count of R420 started
  considered : Option Nat := none       -- aligned second of the last edge considered (R417)
  taken : Bool := false                 -- that edge was accepted or a step
  chain : Option Nat := none            -- aligned second of the last accepted or step edge of the chain (R418)
  started : Bool := false               -- PPS alignment is live (R440)
  latch : List (Core × Nat) := []       -- CAL_NOW_HI latched for a core (R422)
  locked : Bool := false                -- the AO oscillator has been within ±0.5 % since POR (R135)
  trimTicks : Nat := 0                  -- XT32 periods since the last trim update (R135)
  gapTicks : Nat := 0                   -- ticks since the freeze instant (R443) or since step 3 of stop entry (R153)
  gapSec : Nat := 0                     -- SECONDS at the freeze instant (R443)
  restarted : Bool := true              -- the backup cell has restarted since the last POR (R414)
  deriving DecidableEq, Repr

/-- The JTAG TAP (R617, R618): the instruction in force, the last access started and its result, the boundary-scan register, and what holds the
pads (0 nothing, 1 EXTEST, 2 CLAMP, 3 HIGHZ). -/
structure Tap where
  ir : Nat := 1                         -- IDCODE is selected at reset
  addr : Nat := 0
  data : Word := 0
  op : Nat := 0
  busy : Bool := false                  -- an AUD_ACCESS has been started and has not completed
  value : Word := 0
  code : Nat := 0
  bsr : List Bool := List.replicate 633 false
  hold : Nat := 0
  deriving DecidableEq, Repr

/-- The Audit block beside its registers (chapter 19). -/
structure Audit where
  queue : List (Nat × Word) := []       -- writes held for release (R619), oldest first
  applying : Bool := false              -- the freeze instant has passed and islands are stopping (R611)
  releasing : Option Nat := none        -- the cause of the release that is being applied (R623)
  held : Option Nat := none             -- the cause of a freeze request that is held (R41, R168, R640)
  snap : RegFile := []                  -- the snapshot of the exempt islands' blocks (R614)
  snapOf : Nat := 0                     -- the islands the last snapshot covers, as AUD_CFG.EXEMPT names them
  tap : Tap := {}
  deriving DecidableEq, Repr

/-- Where an active step stands (R177, R179, R187): resting, counting DELAY, waiting for a rail-off step of its rail (R181), waiting for
power-good to go away before the enable, waiting for power-good after it, the same on a rail that was enabled already, waiting
for a rail to fall, or in the 10 ms of RETRY. -/
inductive StepPhase where
  | rest | delay | waitOff | waitInvalid | waitPg | waitOn | waitFall | retry
  deriving DecidableEq, Repr

/-- What the Sequencer keeps of a step beside its state bits: cycles in its phase, a queued request (R197), whether RETRY has been
used (Table 05-3) and the order of its last completion (R182). -/
structure StepRun where
  num : Nat
  phase : StepPhase := .rest
  cnt : Nat := 0
  queued : Bool := false
  retried : Bool := false
  order : Nat := 0
  deriving DecidableEq, Repr

/-- What the Sequencer keeps of a rail beside its enable: cycles since the enable, whether a rail-on step has completed since and in what
order (R188), accepted power-good (R180), SEQ_DIS and its cycles, the RETRY wait without a step and the judging after it, and
the check of R198. -/
structure RailRun where
  cnt : Nat := 0
  settled : Bool := false
  order : Nat := 0
  accepted : Bool := false
  dis : Bool := false
  disCnt : Nat := 0
  retried : Bool := false
  retry : Bool := false
  retryCnt : Nat := 0
  judge : Bool := false
  recheck : Bool := false
  recheckCnt : Nat := 0
  deriving DecidableEq, Repr

/-- The Sequencer beside its registers (chapter 05). -/
structure Sequencer where
  running : Bool := false          -- started at step 9 (R207)
  cyc : Nat := 0                   -- Sequencer cycle count, modulo 65,536
  steps : List StepRun := []       -- one for each step record, in record order
  rails : List RailRun := List.replicate 32 {}
  armed : Nat := 0                 -- steps that become active in the next cycle (R177), a mask
  drop : Nat := 0                  -- rails a drop still names (R188), a mask
  latch : Nat := 0                 -- latches of the routed conditions (R183), a mask
  host : Nat := 0x0F               -- asserted host wires AO holds (R195): SLP_S3#, S4#, S5#, PLTRST#, SUS_WARN# in bits 0-4
  espiHigh : Bool := false         -- eSPI_RESET_N is high
  pgPins : Nat := 0                -- levels of the SEQ_PG pins as last sampled
  serial : Nat := 0                -- completions so far
  policy : Nat := 0                -- the power-restore word as step 5 of Table 01-2 selected it (R190)
  policySrc : Bool := false        -- it is the class default
  policyDue : Bool := false        -- OFF_MIN runs and the policy is applied at its end (R191)
  holdRun : Bool := false          -- HOLD_MS is counting (R194)
  recovering : Bool := false       -- RECOVER is counting (R194)
  monRun : List Nat := List.replicate 16 0  -- consecutive samples that show the other state (R185)
  deriving DecidableEq, Repr

/-- A line of the instruction cache (R252). -/
structure CacheLine where
  addr : Nat
  bytes : List Byte
  deriving DecidableEq, Repr

/-- An exception raised and not entered yet (R268, R270): its code, the address x8 gets, and x10 and x11. -/
structure Exc where
  code : Nat
  ret : Nat
  x10 : Nat
  x11 : Nat
  deriving DecidableEq, Repr

/-- A Strand access of a core (R136): none, outstanding, a PWR_STOP write held by the stop request (R143), or one that has been
answered and whose bundle has still to end. -/
inductive Strand where
  | none | waiting | stopping | finished
  deriving DecidableEq, Repr

/-- A divide in progress (R295): the register it writes, as an index of the 128 physical ones, and its result. -/
structure Divide where
  phys : Nat
  value : Nat
  deriving DecidableEq, Repr

/-- A Kalsebel K4 core (chapters 07 and 08), in the state of Table 07-9 by default. -/
structure CoreUnit where
  on : Bool := false                       -- released from reset
  rom : Bool := false                      -- serving recovery in boot ROM (R36)
  pc : Nat := 0
  com : List Word := List.replicate 8 0    -- physical 0-7: x0-x7 in every window
  ring : List Word := List.replicate 120 0 -- 30 quads of 4 registers
  base : Nat := 0                          -- first quad of the current frame
  flagN : Bool := false
  flagZ : Bool := false
  flagC : Bool := false
  flagV : Bool := false
  lvl : Nat := 0                           -- PSW.LVL
  nest : Nat := 0                          -- PSW.NEST
  ie : Bool := false                       -- PSW.IE
  sup : Bool := true                       -- PSW.S
  frames : List Bool := []                 -- open frames, newest first: true for an entry frame; WIN.DEPTH is its length
  resident : Nat := 6                      -- WIN.RESIDENT
  low : Bool := false                      -- WIN.LOW
  lowDue : Bool := false                   -- WINDOW_LOW is due after the bundle (R257)
  wsb : Nat := 0
  wsl : Nat := 0
  wsw : Nat := 0
  wsp : Nat := 0
  rsb : Nat := 0
  rsl : Nat := 0
  rsp : Nat := 0
  rstack : List Word := []                 -- the return stack on the core, newest first
  stkLock : Bool := false
  stkStrict : Bool := false
  stkMode : Bool := false
  mpuBase : List Word := List.replicate 16 0
  mpuLim : List Word := List.replicate 16 0
  mpuLock : Bool := false
  mpuBg : Bool := false
  mpuEn : Bool := false
  cacheEn : Bool := true                   -- CACHE_CTL.EN
  cache : List CacheLine := []
  cycle : Nat := 0                         -- CYCLE
  cycleHi : Nat := 0                       -- CYCLE_HI as the last CYCLE_LO read latched it
  sbuf : List (Nat × List Byte) := []      -- the store buffer, oldest first (R251)
  div : Option Divide := none
  strand : Strand := .none
  inFlight : List Nat := []                -- the syllables of the bundle that waits for its Strand access
  lgrWord : Option Word := none            -- the word an outstanding write of LGR_WR_DATA carries (R100)
  exc : Option Exc := none
  first : Option Nat := none               -- the next bundle is the first of a handler: its exception code, 0 for an interrupt (R280)
  waiting : Bool := false                  -- held by WAIT (R304)
  pulses : List (Nat × Nat) := []          -- vectors a pulse route holds pending, with the PRIORITY (R271)
  fatal : Option Nat := none               -- a fatal cause (R275)
  lastPc : Nat := 0                        -- PC of the last bundle issued (R276)
  deriving DecidableEq, Repr

/-- A request to a firmware teller (R360-R363): where it came from is its binding, and port for a two-wire target. posted writes have
no deadline (R350); done says that the host side has been completed, by the answer or by FALLBACK. -/
structure TlrReq where
  teller : Nat
  owner : Nat
  binding : Nat
  write : Bool
  posted : Bool
  bytes : Nat
  offset : Nat
  data : Nat
  fallback : Nat
  port : Nat
  late : Bool
  done : Bool
  deriving DecidableEq, Repr

/-- The KBC autoteller beside its registers and its window (R364-R368). -/
structure Kbc where
  inByte : Nat := 0
  param : Option Nat := none           -- a controller command that waits for its data byte
  kbdParam : Option Nat := none        -- a keyboard-device command that waits for its byte
  ctl : List (Nat × Nat) := []         -- controller-command responses: 0 plain, 1 auxiliary, 2 a keyboard byte
  dev : List Nat := []                 -- keyboard-device responses
  put : List (Nat × Bool) := []        -- HST_KBC_PUT queue (R376)
  lastSent : Nat := 0                  -- last keyboard-device byte sent (0xFE)
  fold : Bool := false                 -- a 0xF0 prefix has been taken under XLAT
  fw : Bool := false                   -- IBF waits for firmware (R366)
  resetDue : Bool := false             -- 0xAA is due 1 ms after 0xFF (R367)
  deriving DecidableEq, Repr

/-- The ECI autoteller beside its registers and its window (R369-R371). Its status byte is seen by the host alone. -/
structure Eci where
  obf : Bool := false
  ibf : Bool := false
  cmdFlag : Bool := false
  burst : Bool := false
  inByte : Nat := 0
  outByte : Nat := 0
  cmd : Option Nat := none             -- command that collects bytes
  args : List Nat := []                -- bytes collected
  query : List Nat := []               -- the query queue, oldest first
  fw : Bool := false                   -- IBF waits for firmware
  burstRead : Bool := false            -- BURST is set when the host reads the byte
  queryRead : Bool := false            -- the byte in the buffer answers QR_EC
  deriving DecidableEq, Repr

/-- The NVX autoteller beside its register and its window (R373, R374). -/
structure Nvx where
  index : Nat := 0
  sel : Nat := 0
  ptr : Nat := 0
  newLen : Nat := 0
  len : Nat := 0
  present : Bool := false
  dflt : Bool := false
  stale : Bool := false
  busy : Bool := false
  results : List (Nat × Nat) := []     -- RESULT of the records staged, by SEL (R374)
  vcodes : List (Nat × Nat) := []      -- VCODE of the records a commit carried or tried, by SEL (Table 10-10)
  serial : Nat := 0
  deriving DecidableEq, Repr

/-- The host link beside its registers (chapter 10). -/
structure HostLink where
  cap : Nat := 0                       -- HST_CAP_CFG as sampled when eSPI_RESET_N deasserted (R345)
  bootDue : Bool := false              -- boot-load done and status go into the first message (R353)
  queueA : List TlrReq := []
  queueB : List TlrReq := []
  held : List TlrReq := []             -- requests that wait at their source for a full queue (R360)
  defer : Option (Nat × List Byte) := none  -- the deferred eSPI request: queue entries left and bytes collected (R350)
  deferPad : Nat := 0                  -- bytes of the deferred read outside its teller's window, which read 0xFF (R347)
  kbc : Kbc := {}
  eci : Eci := {}
  nvx : Nvx := {}
  oobRx : List (List Byte) := []       -- receive buffers in use, oldest first (R355)
  oobTx : List (Option Nat × List Byte) := []  -- upstream packets, with the firmware teller that sent them (R357)
  consTx : List Byte := []             -- console transmit FIFO
  alert : Bool := false                -- alert is signalled (R351, R361)
  deriving DecidableEq, Repr

/-- A debounce window of a position (R392): the nanoseconds it has still to run. -/
structure KeyWindow where
  pos : Nat
  left : Int
  deriving DecidableEq, Repr

/-- A make record (R394): the position, the resolved entry and its layer. -/
structure MakeRec where
  pos : Nat
  entry : Nat
  layer : Nat
  deriving DecidableEq, Repr

/-- The keyboard scanner beside its registers (chapter 11). -/
structure Keyboard where
  windows : List KeyWindow := []
  makes : List MakeRec := []           -- make records of closed positions
  frameLayer : Nat := 0                -- the active layer at the start of the frame (R394)
  accMakes : List MakeRec := []        -- makes accepted in this frame, not delivered yet
  accBreaks : List MakeRec := []       -- breaks accepted in this frame, not delivered yet
  inFrame : Bool := false              -- a frame's slots are done and its boundary has not come
  lineDone : Bool := false             -- this frame's line measurement has run (R389)
  measSet : Option Nat := none         -- the next line index of a measurement set in progress (R389)
  setDone : Bool := false              -- a set has completed and the settle time changes at the next boundary (R390)
  typematic : Option Nat := none       -- the typematic key (R397)
  tmByte : Nat := 0                    -- TYPEMATIC in force for its repeats
  tmLeft : Int := 0                    -- when its next repeat falls due, in nanoseconds from the start of the last frame (R397)
  tmBroken : Bool := false             -- the typematic key's break was accepted in this frame (R403)
  staging : List Nat := []             -- the KBC staging queue (R399)
  overrun : Bool := false              -- the overrun byte waits for a place (R399)
  fifo : List Word := []               -- the firmware queue (R400)
  lostNext : Bool := false             -- the next entry queued carries LOST (R400)
  lastSettle : Nat := 0                -- settle time of the last frame, in 10 ns units
  timing : Nat := 0                    -- KBD_TIMING in force since the last frame boundary
  maskSense : Nat := 0                 -- sense lines AO masks in stop (R409)
  deriving DecidableEq, Repr

/-- A compare and capture unit beside its registers: the preloads that were written (R428), the qualifying edges since the last capture
(R430) and the counts since the capture timeout restarted (R431). -/
structure TimerUnit where
  cc : Option Nat := none
  step : Option Nat := none
  edges : Nat := 0
  counts : Nat := 0
  deriving DecidableEq, Repr

/-- A timer channel beside its registers: the prescaler's remainder in 1/65,536 source events (R424) and the make-up residue (R153). -/
structure TimerChan where
  rem : Nat := 0
  residue : Nat := 0
  units : List TimerUnit := List.replicate 4 {}
  deriving DecidableEq, Repr

/-- The AO timer keep (Table 04-3): the register words of the channels and what they keep beside them. -/
structure TimerKeep where
  words : List (Nat × Word)
  chans : List TimerChan
  deriving DecidableEq, Repr

/-- The timers beside their registers (chapter 12). latch and held are by core and by the address of the LO register (R428, R432). -/
structure Timers where
  chans : List TimerChan := List.replicate 16 {}
  latch : List (Core × Nat × Nat) := []
  held : List (Option Core × Nat × Nat) := []
  keep : Option TimerKeep := none   -- the AO timer keep, in stop (Table 04-3)
  deriving DecidableEq, Repr

/-- A running pass (R459): the list, 8 for a Survey; the entries left to convert, counted from idx; the copies it runs from; a RESTART
that waits for the next channel boundary (R462). -/
structure AdcPass where
  list : Nat
  idx : Nat
  len : Nat
  ents : List Word
  sensors : List Nat
  restart : Bool
  cfg : Word := 0                      -- ADC_SL_CFG at its start (R459)
  held : Bool := false                 -- its conversion completed in a freeze, and it has not advanced (R472)
  deriving DecidableEq, Repr

/-- An ADC slice beside its registers: its pass, the age of its correction values (0 from the baseline, R449), when it became idle
(R461), the record its calibration reads (R458), and whether it is bad (R447). -/
structure AdcSlice where
  pass : Option AdcPass := none
  age : Nat := 0
  idleAt : Nat := 0
  rec0 : List Nat := []
  bad : Bool := false
  passed : Bool := false
  deriving DecidableEq, Repr

/-- A temperature channel's windows (R456). -/
structure SensorRun where
  last : Option Nat := none            -- last plausible VALUE
  badRun : Bool := false               -- implausible since FAULT is clear
  goodRun : Bool := false              -- plausible since FAULT is set
  deriving DecidableEq, Repr

/-- The measurement block beside its registers (chapter 13). -/
structure Measurement where
  slices : List AdcSlice := List.replicate 3 {}
  serial : Nat := 0                    -- order of calibrations and of slices that became idle
  incoming : Nat := 0                  -- the slice that went live at the swap in progress
  survey : Option Nat := none          -- a Survey is due, with its CAUSE (R465)
  surveyAt : Nat := 0                  -- Calendar count at the Survey's start
  surveySeq : Nat := 0                 -- Surveys since AREF power-up
  sensors : List SensorRun := List.replicate 13 {}
  aref : List Nat := []                -- AREF record in force (R458)
  deriving DecidableEq, Repr

/-- A loop output beside its registers (chapter 17). -/
structure LoopChan where
  cal : List Nat := []                 -- CAL record in force (R572)
  drv : Bool := false                  -- the regulator drives LOOPc_DRV (R577)
  ic : Nat := 0                        -- the current R564 or R565 gives, in µA (R570)
  est : Nat := 0                       -- the last estimate before the low alarm took over (R570)
  sum : Nat := 0                       -- current samples since the last trim step (R571)
  cnt : Nat := 0
  fresh : Bool := false                -- a result of either channel has arrived since the last update
  broken : Bool := false               -- since the last trim step an update was not regulating, or stale, or over (R571)
  retried : Bool := false              -- a RETRY has come since the last update (R575)
  cleared : Bool := false              -- a TRIM_CLEAR has come since the last update (R575)
  deriving DecidableEq, Repr

/-- What a two-wire controller is doing on its bus: the firmware transaction, a slot's poll with its TWB_SNS_CFG as the poll started, a bus clear,
or an automatic ARA. -/
inductive TwJob where
  | fw | poll (slot : Nat) (cfg : Word) | clear | ara
  deriving DecidableEq, Repr

/-- A transaction with a firmware teller that a port's target is in, one byte of it a request (R363, R484): its address, the written bytes or the
number of bytes to read still to come, the offset of the next, every byte of it so far, and whether a repeated START follows. -/
structure TwTarget where
  addr : Nat
  read : Bool
  todo : List Byte
  left : Nat
  off : Nat
  all : List Byte
  sr : Bool
  deriving DecidableEq, Repr

/-- A two-wire port beside its registers (chapter 14). -/
structure TwPort where
  wait : Bool := false             -- a firmware transaction waits for its first START
  xfer : Word := 0                 -- its XFER, copied at GO (R477)
  tx : List Byte := []             -- its transmit buffer
  retry : Bool := false            -- it waits for another attempt (R480)
  gap : Bool := false              -- and for 1 ms first, after a NACK of the address
  clearDue : Bool := false         -- a bus clear waits for the poll that runs (R496)
  abort : Bool := false            -- ABORT takes effect at the next byte boundary (R495)
  run : Option TwJob := none       -- what runs on the bus
  polls : List Nat := []           -- slots whose poll waits, oldest first
  ara : List Byte := []            -- ARA queue (R489)
  line : Option Bool := none       -- TWn_ALERT_N as last sampled, none before (R498)
  pec : Option (List Byte) := none -- bytes of a target transaction so far, over a repeated START (R485)
  tgt : Option TwTarget := none    -- the transaction in which SCL is held low for a request (R484)
  deriving DecidableEq, Repr

/-- The two-wire block beside its registers: ports, the offset each teller's next two-wire read continues from (R484), and each sensor
slot's runs of failed and good polls and its last good VALUE (R492). -/
structure TwoWire where
  ports : List TwPort := List.replicate 6 {}
  offs : List (Nat × Nat) := []
  fails : List Nat := List.replicate 8 0
  goods : List Nat := List.replicate 8 0
  lastVal : List Nat := List.replicate 8 0x960
  deriving DecidableEq, Repr

/-- A fan channel beside its registers (chapter 15). -/
structure FanChan where
  integ : Int := 0                     -- I of R505
  teff : Option Int := none            -- T_eff of R506
  mode : Option Nat := none            -- MODE of the last loop period
  duty : Nat := 1000                   -- the mode's result; before the first loop period the pull-up's 100 % (log 115)
  edgeSeen : Bool := false             -- an edge has been counted since the channel started
  gaps : List Nat := []                -- the last edge intervals in µs, newest first
  base : List Nat := []                -- baseline record in force (R518)
  samples : Nat := 0                   -- ageing samples of this window
  sumNum : Nat := 0                    -- their sum, as a fraction
  sumDen : Nat := 1
  lastRpm : Option Nat := none         -- RPM a second ago (R521)
  deriving DecidableEq, Repr

/-- The fans and the AO fan safety loop beside their registers. -/
structure Cooling where
  chans : List FanChan := List.replicate 8 {}
  learn : List Nat := []               -- RPM of the learn's points so far (R519)
  learnDuty : Nat := 0
  loaded : Bool := false               -- FAN has loaded its tills (Table 15-2)
  watched : Bool := false              -- the safety loop is live (step 9 of Table 01-2)
  late : Bool := false                 -- HEARTBEAT holds
  forced : Bool := false               -- FORCE holds
  deriving DecidableEq, Repr

/-- A lamp string beside its registers (chapter 16): its configuration and value in force, its closed bypass switches, its shed list
oldest first, the ticks at which the last lamp has met R541, its last V_SNK, the calibration record in force, and its drive in this PWM
period: on-time and start in ticks and the regulator setting to 16 bits (R531). -/
structure LampString where
  scfg : Word := 0
  value : Nat := 0
  closed : Nat := 0
  shed : List Nat := []
  restore : Nat := 0
  vsnk : Option Nat := none            -- none while the string has no samples
  cal : List Nat := []
  onTicks : Nat := 0
  start : Nat := 0
  setting : Nat := 0
  ua : Int := 0                        -- the regulator's current in µA, with its record's trims (Table 16-2)
  deriving DecidableEq, Repr

/-- The strings and the boost stage beside their registers. -/
structure Strings where
  strs : List LampString := List.replicate 4 {}
  cfg : Word := 0                      -- LST_CFG in force
  ks : List Nat := List.replicate 4 32768  -- K_c in force
  tracking : Bool := false             -- the boost target has started from the measured V_BST (R538)
  ovpHold : Bool := false              -- the gate is off until V_BST falls below BST_VMAX (R556)
  ovps : List Nat := []                -- gaps in µs between the last overvoltages, newest first
  ovpSeen : Bool := false
  deriving DecidableEq, Repr

/-- The indicator matrix beside its registers: the values a frame runs from, its next row slot, and the on-time of each column of the row
that is selected, in ticks (R543). -/
structure Matrix where
  cfg : Word := 0
  frame : Word := 0
  colours : Nat := 0
  ks : List Nat := List.replicate 4 32768
  next : Nat := 0
  cols : List Nat := []
  deriving DecidableEq, Repr

/-- A chain beside its registers: the values its frame runs from, the channel values and the echo word it sends (R547), and the round
trip of its last good frame (R548). -/
structure Chain where
  cfg : Word := 0
  frame : Word := 0
  ks : List Nat := List.replicate 4 32768
  sent : List Nat := []
  echo : Nat := 0
  rtGood : Option Nat := none
  deriving DecidableEq, Repr

/-- An xSPI command in progress (R599): its data direction and count, and the bytes the port sends (R598). -/
structure XspiRun where
  dir : Nat
  len : Nat
  sent : List Byte := []
  deriving DecidableEq, Repr

/-- The status panel beside its registers (chapter 18): whether the next line start begins at line VACTIVE or line 0, the line buffers of
the line to come (base colours, overlay colours with pixel alpha), the colours the present line sends, what the frame's read-back has
shown so far, the field characters taken at the transfer point, and which planes R585 disables. -/
structure Panel where
  start : Bool := true
  last : Bool := false
  base : List Nat := []
  ovl : List (Nat × Nat) := []
  sent : List Nat := []
  checked : Bool := false              -- a frame is being checked from its line 0
  badLine : Option Nat := none
  badCtrl : Bool := false
  crcSent : Nat := 0xFFFFFFFF          -- running CRC-32 values, not yet inverted
  crcSeen : Nat := 0xFFFFFFFF
  under : Bool := false                -- an underrun has been seen in this frame
  fields : List (List Nat) := []
  baseOk : Bool := true
  overOk : Bool := true
  xrun : Option XspiRun := none
  xcmds : Nat := 0                     -- commands the memory has been sent: its contents may differ after each
  deriving DecidableEq, Repr

/-- One sealed copy of the lifecycle store (R626): the state, each key slot's status and key, the device epoch and its serial. -/
structure LcStore where
  state : Nat := 0
  status : List Nat := [0, 0, 0, 0]
  keys : List (Nat × Nat) := [(0, 0), (0, 0), (0, 0), (0, 0)]
  epoch : Nat := 0
  serial : Nat := 1
  deriving DecidableEq, Repr

/-- One sealed copy of the AES key store (R635): each slot's status (0 empty, 1 written, 2 locked) and its 32 bytes. -/
structure KeyStore where
  status : List Nat := List.replicate 8 0
  keys : List (List Nat) := List.replicate 8 []
  serial : Nat := 1
  deriving DecidableEq, Repr

/-- The lifecycle beside its registers (chapter 19): the two copies, none when a copy's seal does not check; the image a passed command is
writing; whether a nonce is held; the copies of the AES key store and the image being written to it. -/
structure Lifecycle where
  a : Option LcStore := some {}
  b : Option LcStore := some {}
  run : Option LcStore := none
  nonce : Bool := false
  ka : Option KeyStore := some {}
  kb : Option KeyStore := some {}
  deriving DecidableEq, Repr

/-- A SEAL operation in progress with the settings it started from (R632); code is the refusal found at its start, 0 when it runs. -/
structure SealRun where
  op : Nat
  src : Nat
  dst : Nat
  len : Nat
  cfg : Word
  key : List Nat
  code : Nat
  deriving DecidableEq, Repr

/-- The SEAL engine beside its registers: the firmware hash state, its byte count and bytes not yet hashed, the operation that runs, one that
waits for the engine, and whether SEAL_RNG holds a word. -/
structure SealEngine where
  hash : List Nat := List.replicate 8 0
  count : Nat := 0
  tail : List Byte := []
  run : Option SealRun := none
  waits : Option Nat := none
  rngReady : Bool := false
  deriving DecidableEq, Repr

/-- The state of the device. -/
structure State where
  pending : List Instr            -- the commands that wait, first in first out
  resp : Resp                     -- the answer the last command left at its port (the model's own)
  free : Nat                      -- the model's own count of free values used so far
  regs : RegFile                  -- every register word that is not 0
  mem : Memory                    -- every memory byte that is not at its default
  eccBad : List Nat               -- word addresses that hold an uncorrectable error (R283, R160)
  fl : FirstLight
  tills : List SecTill            -- the sections in force, by rising directory index
  lgr : LedgerUnit
  recon : Reconcile
  pwr : Power
  flash : Flash
  kx : Clearing
  vlt : Vault
  cal : Calendar
  aud : Audit
  seq : Sequencer
  coreA : CoreUnit
  coreB : CoreUnit
  hst : HostLink
  kbd : Keyboard
  tim : Timers
  adc : Measurement
  loops : List LoopChan
  twb : TwoWire
  fan : Cooling
  lst : Strings
  lmx : Matrix
  lch : List Chain
  dsp : Panel
  lc : Lifecycle
  sealEng : SealEngine
  deriving DecidableEq, Repr

/-- The machine right after reset: VIN_AO is below valid, every store is blank and the queue is empty. -/
def State.reset : State :=
  { pending := []
    resp := .none
    free := 0
    regs := resetRegs
    mem := []
    eccBad := []
    fl := {}
    tills := []
    lgr := {}
    recon := {}
    pwr := {}
    flash := {}
    kx := { levels := [278] }
    vlt := { measDue := true }
    cal := {}
    aud := {}
    seq := {}
    coreA := {}
    coreB := {}
    hst := {}
    kbd := {}
    tim := {}
    adc := {}
    loops := List.replicate 2 {}
    twb := {}
    fan := {}
    lst := {}
    lmx := {}
    lch := List.replicate 4 {}
    dsp := {}
    lc := {}
    sealEng := {} }

end Sys2Proof.Machine
end

