-- ==== Sys2Proof/Machine/Ops.lean ====
section
/-! DEFINITION. The operations every command is made of: reading and writing a register, a field or memory, taking a free value, raising
an event at its source, and asking which domains are on, frozen or in a Ledger. -/

namespace Sys2Proof.Machine

/-- A command that ends in a next state. -/
abbrev Res := Host.Outcome State Fault Refusal

/-- The word of a register. -/
def State.word (s : State) (a : Nat) : Word := rfGet s.regs a

/-- The state with a register's word replaced. -/
def State.setWord (s : State) (a : Nat) (w : Word) : State := { s with regs := rfSet s.regs a w }

/-- The value of a field. -/
def State.rd (s : State) (f : Fld) : Nat := f.get (s.word f.reg)

/-- A one-bit field as a truth value. -/
def State.on (s : State) (f : Fld) : Bool := s.rd f != 0

/-- The state with a field replaced. -/
def State.wr (s : State) (f : Fld) (v : Nat) : State := s.setWord f.reg (f.set (s.word f.reg) v)

/-- The state with one-bit field set. -/
def State.setOn (s : State) (f : Fld) : State := s.wr f 1

/-- The state with a field at 0. -/
def State.clr (s : State) (f : Fld) : State := s.wr f 0

/-- The state with a field set to a truth value. -/
def State.wrB (s : State) (f : Fld) (b : Bool) : State := s.wr f (b2n b)

/-- The greatest value a field can hold. -/
def Fld.max (f : Fld) : Nat := 2 ^ (f.hi + 1 - f.lo) - 1

/-- The state with a saturating count field raised by k. -/
def State.count (s : State) (f : Fld) (k : Nat) : State := s.wr f (satAdd f.max (s.rd f) k)

/-- The state with a wrapping count field raised by k. -/
def State.countWrap (s : State) (f : Fld) (k : Nat) : State := s.wr f (s.rd f + k)

/-- The state with the answer of the command. -/
def State.reply (s : State) (r : Resp) : State := { s with resp := r }

/-- The state with a bus error as the answer (R269). -/
def State.busErr (s : State) (code : Nat) : State := s.reply (.busError code)

/-- Bus error codes of Table 07-5. -/
abbrev busSize : Nat := 1
/-- DOMAIN_OFF. -/
abbrev busDomainOff : Nat := 2
/-- LEVEL. -/
abbrev busLevel : Nat := 3
/-- UNMAPPED. -/
abbrev busUnmapped : Nat := 4
/-- READ_ONLY. -/
abbrev busReadOnly : Nat := 5
/-- STRAND_TIMEOUT. -/
abbrev busTimeout : Nat := 6
/-- BUSY. -/
abbrev busBusy : Nat := 7

/-- The next free value below a bound that is not 0, and the state that has used it. -/
def State.freeBelow (s : State) (bound : Nat) : Nat × State :=
  (Config.freeNat s.free % bound, { s with free := s.free + 1 })

/-- A free 32-bit word and the state that has used it. -/
def State.freeWord (s : State) : Nat × State := s.freeBelow (2 ^ 32)

/-- num / den rounded to one of its two neighbours: the spec states no rounding, so the direction is a free value. -/
def State.roundFree (s : State) (num : Int) (den : Nat) : Int × State :=
  if num % (den : Int) = 0 then (num / (den : Int), s)
  else
    let r := s.freeBelow 2
    (num / (den : Int) + (r.1 : Int), r.2)

/-- Is a domain on and answering (PWR_STATUS)? -/
def State.domOn (s : State) (d : Nat) : Bool := bit (s.rd F.PWR_STATUS_ON) d

/-- The domain bit of each domain named in this model (AO_SWR order). -/
abbrev domFRAM : Nat := 1
/-- SEAL. -/
abbrev domSEAL : Nat := 2
/-- FAN. -/
abbrev domFAN : Nat := 3
/-- The domain of a core. -/
def domCore : Core → Nat | .a => 4 | .b => 5
/-- FLASH. -/
abbrev domFLASH : Nat := 10
/-- HOST. -/
abbrev domHOST : Nat := 11
/-- KBD. -/
abbrev domKBD : Nat := 12
/-- TWB. -/
abbrev domTWB : Nat := 13
/-- AREF. -/
abbrev domAREF : Nat := 17
/-- TIME. -/
abbrev domTIME : Nat := 18
/-- LAMPM. -/
abbrev domLAMPM : Nat := 19
/-- LAMPS. -/
abbrev domLAMPS : Nat := 20
/-- LAMPC. -/
abbrev domLAMPC : Nat := 21
/-- LOOP. -/
abbrev domLOOP : Nat := 22
/-- DISP. -/
abbrev domDISP : Nat := 23

/-- Is a domain exempt from a freeze (R613)? -/
def State.exempt (s : State) (d : Nat) : Bool :=
  let e := s.rd F.AUD_CFG_EXEMPT
  match d with | 0 => bit e 0 | 3 => bit e 1 | 11 => bit e 2 | 12 => bit e 3 | _ => false

/-- Is a domain's island frozen (R611, R612)? The exemptions in force are those of the freeze (AUD_STATUS.EXEMPT). -/
def State.frozen (s : State) (d : Nat) : Bool :=
  s.on F.AUD_STATUS_FROZEN &&
    !(match d with
      | 0 => bit (s.rd F.AUD_STATUS_EXEMPT) 0 | 3 => bit (s.rd F.AUD_STATUS_EXEMPT) 1
      | 11 => bit (s.rd F.AUD_STATUS_EXEMPT) 2 | 12 => bit (s.rd F.AUD_STATUS_EXEMPT) 3 | _ => false)

/-- Does a domain's hardware run: on, and not frozen? -/
def State.live (s : State) (d : Nat) : Bool := s.domOn d && !s.frozen d

/-- Is core service of first light live (t_READY reached)? -/
def State.ready (s : State) : Bool := s.on F.AO_FL_STATUS_READY

/-- The section of a till by type code; none when no till holds it. -/
def State.till (s : State) (code : Nat) : Option SecTill :=
  s.tills.find? fun t => t.held && t.typ % 4096 == code

/-- The body of a till's section, empty when there is none. -/
def State.tillBody (s : State) (code : Nat) : List Byte := match s.till code with | some t => t.body | none => []

/-- PRESENT of the running Ledger; under the bare Ledger the domains Table 01-4 powers. -/
def State.present (s : State) : Nat := if s.fl.runStore.isNone then 0x05F else u32At (s.tillBody 0x001) 4

/-- FIRST_LIGHT of the running Ledger; under the bare Ledger the domains Table 01-4 powers (AO, FRAM, SEAL, FAN, CORE_A, SRAM0). -/
def State.firstLight (s : State) : Nat := if s.fl.runStore.isNone then 0x05F else u32At (s.tillBody 0x001) 0

/-- The routes of the ROUTES till (R72). -/
def State.routes (s : State) : List Route :=
  let b := s.tillBody 0x020
  (List.range (u16At b 0)).map fun i => routeOf (u32At b (4 + 8 * i)) (u32At b (8 + 8 * i))

/-- The PINS entries in force (R66); under the bare Ledger the boot ROM's, which give AOP73 and AOP74 ALT 1 (R660). -/
def State.pinEntries (s : State) : List Nat :=
  match s.till 0x002 with
  | some t => leWords (u16At t.body 0) (t.body.drop 4)
  | none => if s.fl.runStore.isNone then [0x01000049, 0x0100004A] else []

/-- Is the supply of a ball's bank present (R651, R657)? The AO bank's is there while the device runs. -/
def State.bankUp (s : State) (ball : Nat) : Bool :=
  if ball < 80 then true
  else if ball < 120 then s.on F.AO_PAD_STAT_A_OK
  else if ball < 144 then s.on F.AO_PAD_STAT_B_OK
  else if ball < 160 then s.on F.AO_PAD_STAT_FN_OK
  else if ball < 200 then s.on F.AO_PAD_STAT_C_OK
  else if ball < 208 then s.on F.AO_PAD_STAT_HOST_OK
  else true

/-- Does PINS give a ball this function, with the ball's bank present and the pads not under boundary-scan control (R66, R646, R658)? -/
def State.pinned (s : State) (f : PinFn) : Bool :=
  s.aud.tap.hold == 0 && s.pinEntries.any fun w => ballFn (bits w 9 0) (bits w 27 24) == some f && s.bankUp (bits w 9 0)

/-- The accepted state of a level source, as KX_LEVEL shows it. -/
def State.accepted (s : State) (ev : Nat) : Bool := bit (s.word (Reg.KX_LEVEL (ev / 32))).toNat (ev % 32)

/-- Raise a pulse source once at its island (R318, R324): into its one-deep latch, or merged with the pulse that is there.
While the Clearing house does not route, pulses are not delivered (R339). -/
def State.raise (s : State) (ev : Nat) : State :=
  if !s.domOn (sourceDomain ev) || !s.on F.KX_STATUS_ROUTING then s
  else if s.kx.pulses.contains ev then s.count F.KX_MERGED_COUNT 1
  else { s with kx := { s.kx with pulses := ev :: s.kx.pulses } }

/-- Raise a source if a condition holds. -/
def State.raiseIf (s : State) (c : Bool) (ev : Nat) : State := if c then s.raise ev else s

/-- Put a level source at its island at a level (R318, R324): a change that returns before it is accepted is a lost trigger. -/
def State.level (s : State) (ev : Nat) (v : Bool) : State :=
  let cur := s.kx.levels.contains ev
  if cur == v then s else
  let s' : State := { s with kx := { s.kx with
    levels := if v then ev :: s.kx.levels else s.kx.levels.filter (· != ev) } }
  if v == s.accepted ev && s.on F.KX_STATUS_ROUTING then s'.count F.KX_MERGED_COUNT 1 else s'

/-- Does a level route of the ROUTES till hold this destination active (R319, R322)? -/
def State.routeHolds (s : State) (kind dest : Nat) : Bool :=
  s.routes.any fun r => r.level && r.kind == kind && r.dest == dest && (s.accepted r.source != r.invert)

/-- The state with a run of memory written. -/
def State.store (s : State) (a : Nat) (b : List Byte) : State := { s with mem := memWrite s.mem a b }

/-- The bytes of a run of memory. -/
def State.load (s : State) (a n : Nat) : List Byte := memBytes s.mem a n

/-- Start of the Ledger shadow (Table 09-1). -/
abbrev shadowBase : Nat := 0x28000000
/-- Start of Teller RAM. -/
abbrev tellerRam : Nat := 0x24000000
/-- Start of display SRAM. -/
abbrev displayRam : Nat := 0x30000000
/-- Start of the flash halves. -/
abbrev flashBase : Nat := 0x08000000
/-- Start of SRAM. -/
abbrev sramBase : Nat := 0x20000000
/-- Where this model keeps the ferroelectric memory, at FRAM offset 0 (Table 06-1); no bus address reaches it directly. -/
abbrev framBase : Nat := 0x200000000

/-- Start of a Ledger store: 0 A, 1 B (Table 06-1). -/
def storeBase (st : Nat) : Nat := framBase + 0x10000 * st

/-- The 64 KB of a Ledger store. -/
def State.storeBytes (s : State) (st : Nat) : List Byte := s.load (storeBase st) 0x10000

/-- Does an uncorrectable error stand in a run of memory? -/
def State.eccIn (s : State) (a n : Nat) : Bool := s.eccBad.any fun x => decide (a ≤ x) && decide (x < a + n)

/-- The value a written word has in a field. -/
def Fld.of (f : Fld) (w : Word) : Nat := f.get w

/-- Is a one-bit field 1 in a written word? -/
def Fld.has (f : Fld) (w : Word) : Bool := f.get w != 0

/-- A write that reaches a block: DOMAIN_OFF when the block's domain is off (R19), LEVEL when it must be a supervisor's
(R266), held for release while the island is frozen (R619), and otherwise the block's own action. -/
def State.access (s : State) (who : Agent) (d a : Nat) (w : Word) (lvl : Bool) (act : State → State) : State :=
  if !s.domOn d then s.busErr busDomainOff
  else if lvl && who.user then s.busErr busLevel
  else if s.frozen d then
    (if s.aud.queue.length < 16 then
      { s with aud := { s.aud with queue := s.aud.queue ++ [(a, w)] }, resp := .none } else s.busErr busTimeout)
  else act (s.reply .none)

/-- A wake source becomes active (Table 04-6), laid out as PWR_WAKE_CAUSE; it matters from acceptance of a stop on (R146, R151). -/
def State.wakeSource (s : State) (i : Nat) : State :=
  if s.pwr.phase == .run then s else { s with pwr := { s.pwr with wakeLevel := orBit s.pwr.wakeLevel i } }

/-- The DEST_INDEX of a host wire (Table 09-6). Wires are numbered as the bits of HST_VW_OUT, and 32 + 4g + w for generic ones. -/
def wireDest (w : Nat) : Nat := if w = 8 then 16 else if w = 9 then 17 else w

/-- Generic group g is used: its INDEX is at least 0x80 and no lower group has it (R354). -/
def State.groupOn (s : State) (g : Nat) : Bool :=
  decide (0x80 ≤ s.rd (F.HST_VWG_INDEX g)) && (List.range g).all fun h => s.rd (F.HST_VWG_INDEX h) != s.rd (F.HST_VWG_INDEX g)

/-- Is a device-to-host wire held asserted by a level: an autoteller, the device itself or a route (R321)? -/
def State.wireHeld (s : State) (w : Nat) : Bool :=
  if w < 10 then bit s.kx.autoWires w || ((w ≤ 4 || w == 8 || w == 9) && s.routeHolds 3 (wireDest w))
  else s.groupOn ((w - 32) / 4) && !s.on (F.HST_VWG_DIR ((w - 32) / 4)) && s.routeHolds 3 w

/-- The state of a device-to-host wire: held, or in the asserted part of a pulse. -/
def State.wireNow (s : State) (w : Nat) : Bool := s.wireHeld w || s.kx.wirePulse.contains (w, false)

/-- A wire as its register shows it. -/
def State.wireShown (s : State) (w : Nat) : Bool :=
  if w < 10 then bit (s.rd F.HST_VW_OUT_WIRES) w else bit (s.rd F.HST_VW_GEN_WIRES) (w - 32)

/-- Does the host drive a generic wire (R354)? -/
def State.hostDriven (s : State) (w : Nat) : Bool := decide (32 ≤ w) && s.on (F.HST_VWG_DIR ((w - 32) / 4))

/-- Bring a wire's register up to date: a change waits for the next virtual-wire message, and alert is signalled while channel 1 is enabled (R351).
A wire the host drives is none of the device's (R354). -/
def State.refreshWire (s : State) (w : Nat) : State :=
  if !s.live domHOST || s.hostDriven w || s.wireShown w == s.wireNow w then s else
  let s' : State := { s with
    kx := { s.kx with wireChg := insertNat s.kx.wireChg w }, hst := { s.hst with alert := s.hst.alert || bit (s.rd F.HST_LINK_CH_EN) 1 } }
  if w < 10 then s'.wr F.HST_VW_OUT_WIRES (setBits (s.rd F.HST_VW_OUT_WIRES) w w (b2n (s.wireNow w)))
  else s'.wr F.HST_VW_GEN_WIRES (setBits (s.rd F.HST_VW_GEN_WIRES) (w - 32) (w - 32) (b2n (s.wireNow w)))

/-- The autoteller or the device drives a wire of HST_VW_OUT. -/
def State.hostWire (s : State) (w : Nat) (v : Bool) : State :=
  if !s.domOn domHOST then s else
  ({ s with kx := { s.kx with autoWires := setBits s.kx.autoWires w w (b2n v) } } : State).refreshWire w

/-- Can the device drive a wire: a generic one only in a group that is used with DIR = 0 (R354)? -/
def State.deviceWire (s : State) (w : Nat) : Bool := decide (w < 32) || (s.groupOn ((w - 32) / 4) && !s.hostDriven w)

/-- A pulse on a wire (R351): it has no effect while the wire is held (R322), and merges with a pulse not yet carried whole. -/
def State.pulseWire (s : State) (w : Nat) : State :=
  if !s.domOn domHOST || !s.deviceWire w || s.wireHeld w || s.kx.wirePulse.any (fun p => p.1 == w) then s
  else ({ s with kx := { s.kx with wirePulse := (w, false) :: s.kx.wirePulse } } : State).refreshWire w

end Sys2Proof.Machine
end

