-- ==== Sys2Proof/Machine/Regs.lean ====
section
/-! DEFINITION. Register tables at work: the Reset value of a register with its L fields from the REGSET till (R8, R81), what a reset kind
clears (R9), and reading and writing by access code (R10, R11, Table 00-6). -/

namespace Sys2Proof.Machine

/-- The value a REGSET till gives for an offset of a block (R81). -/
def State.regset (s : State) (block off : Nat) : Option Nat :=
  match s.tills.find? (fun t => t.held && t.typ % 4096 == 0x060 && t.inst == block) with
  | none => none
  | some t =>
    match (List.range (u16At t.body 0)).find? (fun i => u16At t.body (4 + 8 * i) == off) with
    | some i => some (u32At t.body (8 + 8 * i))
    | none => none

/-- The Reset value of one field (R8). -/
def fieldReset (l : Option Nat) (f : FieldDesc) : Nat :=
  match f.isL, l with | true, some v => bits v f.hi f.lo | _, _ => f.rst

/-- A word with the fields a mask of reset kinds clears at their Reset values (R8, R9). -/
def resetFields (l : Option Nat) (mask : Nat) (fs : List FieldDesc) (w : Nat) : Nat :=
  fs.foldl (fun w f => if f.clr &&& mask = 0 then w else setBits w f.hi f.lo (fieldReset l f)) w

/-- One register after a reset of the kinds in a mask. -/
def State.resetReg (s : State) (block mask : Nat) (fs : List FieldDesc) (a : Nat) : State :=
  let l := s.regset block (a % 65536)
  s.setWord a (BitVec.ofNat 32 (resetFields l mask fs (s.word a).toNat))

/-- Every address a register's description stands for. -/
def RegDesc.addresses (d : RegDesc) : List Nat :=
  (List.range d.count1).flatMap fun i => (List.range d.count2).map fun j => d.base + d.step1 * i + d.step2 * j

/-- The registers of a block after a reset of the kinds in a mask. -/
def State.resetBlock (s : State) (block mask : Nat) : State :=
  (regsOfBlock block).foldl (fun s d => d.addresses.foldl (fun s a => s.resetReg block mask d.fields a) s) s

/-- The L fields of a block take their values from its till (R8, R81, R117). -/
def State.loadL (s : State) (block : Nat) : State :=
  (regsOfBlock block).foldl (fun s d =>
    let fs := d.fields.filter (·.isL)
    if fs.isEmpty then s else d.addresses.foldl (fun s a =>
      let l := s.regset block (a % 65536)
      s.setWord a (BitVec.ofNat 32 (fs.foldl (fun w f => setBits w f.hi f.lo (fieldReset l f)) (s.word a).toNat))) s) s

/-- The Reset value of a field of a register. -/
def State.resetOf (s : State) (f : Fld) : Nat :=
  let block := f.reg / 65536 % 256
  match findReg (regsOfBlock block) f.reg with
  | some d => match d.fields.find? (fun x => x.hi == f.hi && x.lo == f.lo) with
    | some x => fieldReset (s.regset block (f.reg % 65536)) x
    | none => 0
  | none => 0

/-- A word after a write by access code: RW takes the bits, W1C clears where a 1 is written, anything else keeps its value (Table 00-6).
An RWL field is left to its block, which knows its lock. -/
def accWord (fs : List FieldDesc) (old w : Nat) : Nat :=
  fs.foldl (fun x f => match f.acc with
    | .rw => setBits x f.hi f.lo (bits w f.hi f.lo)
    | .w1c => setBits x f.hi f.lo (bits x f.hi f.lo - (bits x f.hi f.lo &&& bits w f.hi f.lo))
    | _ => x) old

/-- A write by access code (R10, R11, R18). -/
def State.accWrite (s : State) (a : Nat) (w : Word) : State :=
  match findReg (regsOfBlock (a / 65536 % 256)) a with
  | some d => s.setWord a (BitVec.ofNat 32 (accWord d.fields (s.word a).toNat w.toNat))
  | none => s

/-- Clear the RS fields of a register, as a read does (Table 00-6). -/
def State.readClear (s : State) (a : Nat) : State :=
  match findReg (regsOfBlock (a / 65536 % 256)) a with
  | some d => s.setWord a (BitVec.ofNat 32
      (d.fields.foldl (fun x f => match f.acc with | .rs => setBits x f.hi f.lo 0 | _ => x) (s.word a).toNat))
  | none => s

/-- Does a register hold RS fields? -/
def hasRs (a : Nat) : Bool :=
  match findReg (regsOfBlock (a / 65536 % 256)) a with
  | some d => d.fields.any fun f => f.acc == .rs
  | none => false

end Sys2Proof.Machine
end

