-- ==== Sys2Proof/Machine/Access.lean ====
section
/-! DEFINITION. Runs of bytes in the memories of Table 09-1, as an engine that moves data itself sees them, with the errors a read meets. -/

namespace Sys2Proof.Machine

/-- Is a half of the flash under a command (R159)? -/
def State.halfBusy (s : State) (h : Nat) : Bool :=
  match s.flash.cmd with | some c => c.addr / 0x100000 % 2 == h | none => false

/-- Does a run of n bytes lie within a region? -/
def runIn (a n base size : Nat) : Bool := decide (base ≤ a) && decide (a + n ≤ base + size)

/-- Are the SRAM blocks of a run on? -/
def State.sramOn (s : State) (a n : Nat) : Bool :=
  (List.range 4).all fun j =>
    s.domOn (6 + j) || decide (a + n ≤ sramBase + 0x10000 * j) || decide (sramBase + 0x10000 * (j + 1) ≤ a)

/-- A word rewritten whole holds no uncorrectable error any more. -/
def State.cleanEcc (s : State) (a n : Nat) : State :=
  { s with eccBad := s.eccBad.filter fun w => !(decide (a ≤ w) && decide (w + 4 ≤ a + n)) }

/-- Has FRAM or SEAL failed for good, so that no signature can be verified (R172)? -/
def State.noVerify (s : State) : Bool := bit s.pwr.hardFail domFRAM || bit s.pwr.hardFail domSEAL

/-- An ECC report of the flash (R160): the row and the kind. -/
def State.flashReport (s : State) (row : Nat) (double : Bool) : State :=
  (s.setWord Reg.FLC_ECC_ADDR (BitVec.ofNat 32 (2 ^ 31 + 2 ^ 30 * b2n double + 16 * row)) |>.setOn F.FLC_STATUS_ECC).raise 99

/-- A corrected error in a row of the flash that is read (R160). -/
def State.flashCorrected (s : State) (row : Nat) : State :=
  let sec := row / 512
  let n := ((s.flash.sectorErr.find? fun p => p.1 == sec).map (·.2)).getD 0 + 1
  let s : State := { s with flash := { s.flash with
    sectorErr := (sec, n) :: s.flash.sectorErr.filter (fun p => p.1 != sec), weak := insertNat s.flash.weak row } }
  let s := s.count F.FLC_COUNTS_CORRECTED 1
  if n = orDefault (s.rd F.FLC_SCRUB_CFG_LIMIT) 4 then s.flashReport row false else s

/-- A row of the flash is read (R160): a single-bit error is corrected, an uncorrectable one is found, or one that is known is met again. -/
def State.flashRead (s : State) (row : Nat) (corrected bad : Bool) : State :=
  let a := flashBase + 16 * row
  if bad || s.eccIn a 16 then
    (if s.eccIn a 16 then s else { s with eccBad := a :: s.eccBad }).flashReport row true
  else if corrected || s.flash.weak.contains row then s.flashCorrected row
  else s

/-- The rows of a run of the flash that are known to hold an error, in rising order. -/
def State.badRows (s : State) (a n : Nat) : List Nat :=
  let rows := ((s.flash.weak ++ (s.eccBad.filter fun x => runIn x 1 flashBase 0x200000).map fun x => (x - flashBase) / 16).eraseDups.filter fun r =>
    decide (a < flashBase + 16 * r + 16) && decide (flashBase + 16 * r < a + n))
  sortUp rows

/-- A run of the flash is read: every known error in it is met once, in ascending address order (R160). -/
def State.flashReadRun (s : State) (a n : Nat) : State := (s.badRows a n).foldl (fun s r => s.flashRead r false false) s

/-- An error that a read of a run newly meets at an address, uncorrectable or corrected; one outside the run is not met. -/
def State.meetError (s : State) (a n x : Nat) (double : Bool) : State :=
  if !runIn x 1 a n then s
  else if runIn x 1 flashBase 0x200000 then
    let row := (x - flashBase) / 16
    if double then (if s.eccIn (flashBase + 16 * row) 16 then s else { s with eccBad := (flashBase + 16 * row) :: s.eccBad })
    else { s with flash := { s.flash with weak := insertNat s.flash.weak row } }
  else if double then { s with eccBad := insertNat s.eccBad (x - x % 4) } else s

/-- Write a run of bytes of a memory. -/
def State.putBytes (s : State) (a : Nat) (b : List Byte) : State := (s.store a b).cleanEcc a b.length

/-- The records of an image, empty where it does not parse. -/
def recordsOf (img : List Byte) : List (Nat × List Nat) :=
  (parseRecords (img.length / 4 + 1) (leWords (img.length / 4) img)).getD []

/-- The default of a record: the data of its CLASSDEF entry, or zero words (R215). -/
def State.recordDefault (s : State) (id : Nat) : Option (List Nat) :=
  let b := s.tillBody 0x070
  let rs := (parseRecords (b.length / 4 + 1) (leWords (b.length / 4 - 1) (b.drop 4))).getD []
  (rs.find? fun r => bits r.1 15 0 == id).map (·.2)

/-- A record of the mirror in a place of its own length, its data the default's when it holds an uncorrectable error (R240). -/
def State.shownRecord (s : State) (r : Nat × List Nat) : Nat × List Nat :=
  if s.vlt.mirrorBad.contains (bits r.1 15 0) then
    (r.1, (List.range r.2.length).map fun i => natAt ((s.recordDefault (bits r.1 15 0)).getD []) i) else r

/-- The image mirror as reads of it show it (R231, R240). -/
def State.mirrorView (s : State) : List Byte :=
  if s.vlt.mirrorBad.isEmpty then s.vlt.mirror
  else ((recordsOf s.vlt.mirror).map s.shownRecord).flatMap fun r => (r.1 :: r.2).flatMap (leBytes 4)

/-- The record of an image that holds an offset. -/
def recordAt : List (Nat × List Nat) → Nat → Option Nat
  | [], _ => none
  | (h, d) :: t, o => if o < 4 + 4 * d.length then some (bits h 15 0) else recordAt t (o - (4 + 4 * d.length))

/-- A read of the mirror meets an uncorrectable error in a record (R240). -/
def State.mirrorError (s : State) (id : Nat) : State :=
  ({ s with vlt := { s.vlt with mirrorBad := insertNat s.vlt.mirrorBad id } } : State).setOn F.VLT_STATUS_READ_ERR

/-- The Vault read window's bytes (R230): the active bank as the mirror holds it (R231), and the Daybook ring from 0xC000. -/
def State.vaultByte (s : State) (off : Nat) : Byte :=
  if off < 0xC000 then s.mirrorView.getD off 0 else memGet s.mem (framBase + 0x38000 + (off - 0xC000))

/-- Bytes of a run of a memory or of the Vault read window. -/
def State.getBytes (s : State) (a n : Nat) : List Byte :=
  if 0x50000000 ≤ a ∧ a < 0x50010000 then (List.range n).map fun i => s.vaultByte (a + i - 0x50000000)
  else s.load a n

end Sys2Proof.Machine
end

