-- ==== Sys2Proof/Machine/Vault.lean ====
section
/-! DEFINITION. The Vault, the Daybook and the Reserve gauge (chapter 06): bank format and selection, records and their defaults,
the draft and the pending set, the gate, the commit, the Daybook queue and ring, and the capacitance measurement. -/

namespace Sys2Proof.Machine

/-- Start of a Vault bank: 0 A, 1 B (Table 06-1). -/
def bankBase (b : Nat) : Nat := framBase + 0x20000 + 0xC000 * b

/-- Start of a Daybook slot (Table 06-1). -/
def daybookSlot (i : Nat) : Nat := framBase + 0x38000 + 32 * i

/-- MAGIC of a completed image and of a commit under way (R212). -/
abbrev magicSealed : Nat := 0x56545344
/-- INTENT. -/
abbrev magicIntent : Nat := 0x5654494E

/-- The seal's CRC over an image, with MAGIC taken as SEALED (R212). -/
def sealCrc (img : List Byte) (serial len : Nat) : Nat :=
  crc32 (img ++ leBytes 4 magicSealed ++ leBytes 4 serial ++ leBytes 4 len)

/-- Do records meet R211 and R214: LEN 1 to 63, the class of the identifier, identifiers strictly ascending? -/
def recordsOk : List (Nat × List Nat) → Bool
  | [] => true
  | (h, d) :: t =>
    bits h 31 30 == 0 && d.length != 0 && recordClass (bits h 15 0) != 0 && bits h 23 16 == recordClass (bits h 15 0)
      && (match t with | [] => true | (g, _) :: _ => decide (bits h 15 0 < bits g 15 0)) && recordsOk t

/-- The state of a bank (Table 06-10): 0 valid, 1 INTENT, 2 MAGIC neither value, 3 SEALED but invalid; and its image and serial. -/
def State.bankState (s : State) (b : Nat) : Nat × List Byte × Nat :=
  let base := bankBase b
  let magic := memWord s.mem (base + 0xBFF0)
  let serial := memWord s.mem (base + 0xBFF4)
  let len := memWord s.mem (base + 0xBFF8)
  let img := s.load base len
  if magic = magicIntent then (1, [], serial)
  else if magic ≠ magicSealed then (2, [], serial)
  else if len % 4 = 0 ∧ len ≤ 0xBFF0 ∧ sealCrc img serial len = memWord s.mem (base + 0xBFFC)
      ∧ (parseRecords (len / 4 + 1) (leWords (len / 4) img)).isSome ∧ recordsOk (recordsOf img) ∧ !s.eccIn base 0xC000 then
    (0, img, serial)
  else (3, [], serial)

/-- Is a Daybook slot valid (R228)? -/
def State.slotValid (s : State) (i : Nat) : Bool :=
  let e := s.load (daybookSlot i) 32
  !s.eccIn (daybookSlot i) 32 && crc32 (e.take 28) == u32At e 28

/-- The SEQNO of a Daybook slot. -/
def State.slotSeq (s : State) (i : Nat) : Nat := memWord s.mem (daybookSlot i)

/-- The newest Daybook slot (R228); none for an empty Daybook. -/
def State.newestSlot (s : State) : Option Nat :=
  let valid := (List.range 512).filter s.slotValid
  match valid.find? (fun i => valid.all fun j => j == i || higher (s.slotSeq i) (s.slotSeq j)) with
  | some i => some i
  | none => valid.foldl (fun c i => match c with
      | none => some i
      | some k => if higher (s.slotSeq i) (s.slotSeq k) then some i else some k) none

/-- Queue a Daybook entry, stamped with the Calendar count; a full queue discards and counts it (R229). -/
def State.daybook (s : State) (typ d0 d1 d2 : Nat) : State :=
  if s.vlt.queue.length < 16 then
    ({ s with vlt := { s.vlt with queue := s.vlt.queue ++ [⟨typ, s.cal.count, d0, d1, d2⟩] } } : State).wr
      F.VLT_DAYBOOK_QUEUED (s.vlt.queue.length + 1)
  else ({ s with vlt := { s.vlt with lostSince := s.vlt.lostSince + 1 } } : State).count F.VLT_LOST_COUNT 1 |>.raise 91

/-- The data of a record as every consumer reads it (R215, R231, R240). -/
def State.record (s : State) (id : Nat) : List Nat :=
  match (recordsOf s.vlt.mirror).find? (fun r => bits r.1 15 0 == id) with
  | some r => if s.vlt.mirrorBad.contains id then (s.recordDefault id).getD [] else r.2
  | none => (s.recordDefault id).getD []

/-- Does the active bank hold a record? -/
def State.hasRecord (s : State) (id : Nat) : Bool :=
  (recordsOf s.vlt.mirror).any fun r => bits r.1 15 0 == id

/-- The pending set without the change of one record. -/
def State.pendBut (s : State) (id : Nat) : List (Nat × List Nat) := s.vlt.pend.filter fun r => bits r.1 15 0 != id

/-- Words a pending set takes. -/
def pendWords (p : List (Nat × List Nat)) : Nat := (p.map fun r => 1 + r.2.length).sum

/-- Does a change of n data words find room among the pending set's 64 words (R232)? -/
def State.pendFits (s : State) (id n : Nat) : Bool := decide (pendWords (s.pendBut id) + 1 + n ≤ 64)

/-- Put a change into the hardware pending set: a later change of one record replaces the earlier (R216). One that comes during a commit goes into
the next (R236). -/
def State.pendRecord (s : State) (h : Nat) (d : List Nat) : State :=
  let id := bits h 15 0
  ({ s with vlt := { s.vlt with
      pend := s.pendBut id ++ [(h, d)], commit := s.vlt.commit.map fun c => { c with again := insertNat c.again id } } } : State).setOn
    F.VLT_STATUS_HW_PENDING

/-- Take the change of a record out of the pending set. -/
def State.unpend (s : State) (id : Nat) : State :=
  let p := s.pendBut id
  ({ s with vlt := { s.vlt with pend := p, hwWaiting := s.vlt.hwWaiting && (!p.isEmpty || s.vlt.lastDue) } } : State).wrB
    F.VLT_STATUS_HW_PENDING (!p.isEmpty)

/-- Bank selection at every first light, without a write (R222): the mirror, VLT_START, VLT_SERIAL and VLT_FAILED_SERIAL, and
the newest Daybook slot (R228). A failed FRAM leaves no bank and CODE FRAM_FAIL. -/
def State.selectBank (s : State) : State :=
  let failed := bit s.pwr.hardFail domFRAM
  let (sa, ia, ka) := s.bankState 0
  let (sb, ib, kb) := s.bankState 1
  let win : Option Nat := if failed then none else
    if sa = 0 ∧ sb = 0 then some (if higher kb ka then 1 else 0)
    else if sa = 0 then some 0 else if sb = 0 then some 1 else none
  let img := match win with | some 0 => ia | some _ => ib | none => []
  let serial := match win with | some 0 => ka | some _ => kb | none => 0
  let losing := match win with | some 0 => sb | some _ => sa | none => if sa = 1 ∨ sb = 1 then 1 else 2
  let code := if failed then 4 else if losing = 1 then 1 else if win.isNone then 3 else if losing = 0 then 0 else 2
  let next := match s.newestSlot with
    | some i => ((i + 1) % 512, (s.slotSeq i + 1) % 2 ^ 32)
    | none => (0, 1)
  let s := { s with vlt := { s.vlt with mirror := img, mirrorBad := [], nextSeq := next.2 } }
  let s := s.wr F.VLT_START_CODE code |>.wr F.VLT_START_A_STATE sa |>.wr F.VLT_START_B_STATE sb
    |>.wr F.VLT_START_ACTIVE (win.getD 0) |>.wr F.VLT_STATUS_ACTIVE (win.getD 0)
    |>.wrB F.VLT_STATUS_NO_BANK win.isNone |>.wr F.VLT_SERIAL_SERIAL serial
    |>.wr F.VLT_FAILED_SERIAL_SERIAL
        (if code = 1 then (if win.isNone then 1 else (serial + 1) % 2 ^ 32) else s.rd F.VLT_FAILED_SERIAL_SERIAL)
    |>.wr F.VLT_DAYBOOK_NEXT next.1
  s

/-- The mirror is loaded again from the bank in use (R231): a reset of FRAM alone chooses no bank (R222). -/
def State.reloadMirror (s : State) (active : Nat) (noBank : Bool) : State :=
  let img := if noBank then [] else (s.bankState active).2.1
  ({ s with vlt := { s.vlt with mirror := img, mirrorBad := [] } } : State).wr F.VLT_STATUS_ACTIVE active
    |>.wrB F.VLT_STATUS_NO_BANK noBank

/-- The budget current in mA (R224). -/
def State.budgetMa (s : State) : Nat := max (s.rd F.RSV_LOAD_MA) (s.rd F.RSV_CFG_I_BUDGET) + 12

/-- t_COMMIT for an image of a length, in ns (R220). -/
def tCommit (len : Nat) : Nat := 21000 + 25 * len / 2

/-- The budget for an image of a length, in µJ (R219). -/
def State.budget (s : State) (len : Nat) : Nat :=
  (s.rd F.RSV_VHOLD_MV * s.budgetMa * tCommit len + (10 ^ 9 - 1)) / 10 ^ 9

/-- The energy the gate asks for an image of a length, in µJ (R219). -/
def State.gateEnergy (s : State) (len : Nat) : Nat :=
  (5 * (s.rd F.RSV_VHOLD_MV * s.budgetMa * tCommit len) + (4 * 10 ^ 9 - 1)) / (4 * 10 ^ 9)

/-- The refusal the gate gives for an image of a length, 0 when it is open, in the order of R239. -/
def State.gateCode (s : State) (len : Nat) : Nat :=
  if bit s.pwr.hardFail domFRAM then 9
  else if s.pwr.phase ≠ .run then 8
  else if !s.on F.RSV_STATUS_VALID then 3
  else if !s.vlt.pfailOk then 2
  else if s.rd F.RSV_ENERGY_UJ < s.gateEnergy len then 1
  else 0

/-- RSV_STATUS.GATE and RSV_GATE (EV95) for the present image length. -/
def State.updateGate (s : State) : State :=
  let openNow := s.gateCode s.vlt.mirror.length == 0
  (s.wrB F.RSV_STATUS_GATE openNow).level 95 openNow

/-- Words of records. -/
def recordWords (rs : List (Nat × List Nat)) : List Nat := rs.flatMap fun r => r.1 :: r.2

/-- Put one change into a list of records: LEN 0 deletes, any other replaces (R216). -/
def applyRecord (rs : List (Nat × List Nat)) (r : Nat × List Nat) : List (Nat × List Nat) :=
  let rest := rs.filter fun x => bits x.1 15 0 != bits r.1 15 0
  if r.2.isEmpty then rest else
    rest.filter (fun x => decide (bits x.1 15 0 < bits r.1 15 0)) ++ [r]
      ++ rest.filter (fun x => decide (bits r.1 15 0 < bits x.1 15 0))

/-- The draft's records, none when it is malformed (R217). -/
def draftRecords (draft : List Nat) : Option (List (Nat × List Nat)) :=
  match parseRecords (draft.length + 1) draft with
  | none => none
  | some rs =>
    if rs.all fun r => bits r.1 31 30 == 0 && recordClass (bits r.1 15 0) != 0
        && bits r.1 23 16 == recordClass (bits r.1 15 0) then some rs else none

/-- The commit a request would start: the composed image (R216), or the refusal BAD_DRAFT or NO_ROOM (R217). A record of the mirror with an error goes
in at its default (R240); without a CLASSDEF entry it keeps its LEN with zero words (log entry 113). -/
def State.compose (s : State) : Commit ⊕ Nat :=
  match draftRecords s.vlt.draft with
  | none => .inr 5
  | some dr =>
    let dflt (r : Nat × List Nat) : Nat × List Nat :=
      match s.vlt.mirrorBad.contains (bits r.1 15 0), s.recordDefault (bits r.1 15 0) with
      | true, some d => (setBits r.1 29 24 d.length, d)
      | _, _ => s.shownRecord r
    let base := (recordsOf s.vlt.mirror).map dflt
    let withPend := s.vlt.pend.foldl applyRecord base
    let named (r : Nat × List Nat) : Bool := s.vlt.pend.any fun p => bits p.1 15 0 == bits r.1 15 0
    let clash := dr.any named
    let all := (dr.filter fun r => !named r).foldl applyRecord withPend
    let img := (recordWords all).flatMap (leBytes 4)
    if 0xBFF0 < img.length then .inr 6 else
    let none' := s.on F.VLT_STATUS_NO_BANK
    let serial := if none' then 1 else (s.rd F.VLT_SERIAL_SERIAL + 1) % 2 ^ 32
    let bank := if none' then 0 else 1 - s.rd F.VLT_STATUS_ACTIVE
    .inl ⟨img, serial, bank, s.vlt.pend, [], true, clash⟩

/-- A commit request has ended with a code (Table 06-7). -/
def State.commitCode (s : State) (code : Nat) : State :=
  s.wr F.VLT_STATUS_CODE code |>.setOn F.VLT_STATUS_DONE |>.clr F.VLT_STATUS_WAITING

/-- VCODE of NVX for the host-class records of some changes: the code of the last commit that carried or tried them (Table 10-10). -/
def State.noteCode (s : State) (rs : List (Nat × List Nat)) (code : Nat) : State :=
  if !s.domOn domHOST then s else
  let ids := (rs.map fun r => bits r.1 15 0).filter fun i => decide (0x300 ≤ i) && decide (i ≤ 0x3FF)
  let n := s.hst.nvx
  { s with hst := { s.hst with nvx := { n with
    vcodes := ids.map (fun i => (i - 0x300, code)) ++ n.vcodes.filter fun p => !ids.contains (p.1 + 0x300) } } }

/-- A commit request is refused with a code. -/
def State.commitEnd (s : State) (code : Nat) : State := (s.commitCode code).noteCode s.vlt.pend code

/-- Start a commit: step 2 of Table 06-3 marks the standby seal INTENT. -/
def State.commitStart (s : State) (c : Commit) : State :=
  let s := { s with vlt := { s.vlt with commit := some c } }
  let s := s.store (bankBase c.bank + 0xBFF0) (leBytes 4 magicIntent)
  let s := if c.clash then s.setOn F.VLT_STATUS_CLASH else s
  s.setOn F.VLT_STATUS_BUSY |>.clr F.VLT_STATUS_WAITING |>.wr F.RSV_BUDGET_UJ (s.budget c.image.length)

/-- Request a commit that may wait for the gate for WAIT ms (R219, R220, R239). -/
def State.commitRequest (s : State) (wait : Nat) : State :=
  if s.on F.VLT_STATUS_BUSY || s.on F.VLT_STATUS_WAITING then
    s.wr F.VLT_STATUS_CODE 4 |>.setOn F.VLT_STATUS_DONE
  else match s.compose with
    | .inr code => s.commitEnd code
    | .inl c =>
      let g := s.gateCode c.image.length
      let s := s.wr F.RSV_BUDGET_UJ (s.budget c.image.length)
      if g = 0 then s.commitStart c
      else if wait = 0 ∨ g = 8 ∨ g = 9 then s.commitEnd g
      else s.setOn F.VLT_STATUS_WAITING

/-- A hardware-originated commit: started when it can be, and otherwise refused with its code (Table 06-3) and retried every 1 s (R192, R237). A
commit that waits for the gate carries its changes too, so it is no refusal while one waits (R235). -/
def State.hwCommit (s : State) : State :=
  let s : State := { s with vlt := { s.vlt with hwWaiting := true } }
  if !s.live domFRAM || s.on F.VLT_STATUS_WAITING then s
  else if s.on F.VLT_STATUS_BUSY then s.commitEnd 4
  else match s.compose with
    | .inr code => s.commitEnd code
    | .inl c =>
      let g := s.gateCode c.image.length
      let s := s.wr F.RSV_BUDGET_UJ (s.budget c.image.length)
      if g = 0 then ({ s with vlt := { s.vlt with hwWaiting := false } } : State).commitStart c else s.commitEnd g

/-- The power-restore word as it would next be committed: a pending change, the active record or its default. -/
def State.powerWord (s : State) : Nat :=
  match s.vlt.pend.find? (fun r => bits r.1 15 0 == 1) with
  | some r => natAt r.2 0
  | none => natAt (s.record 1) 0

/-- LAST goes into the pending set and a commit is tried; without room it waits for the retry (R192, R232). -/
def State.commitLast (s : State) (v : Bool) : State :=
  if s.pendFits 1 1 then
    (({ s with vlt := { s.vlt with lastDue := false } } : State).pendRecord 0x01010001 [setBits s.powerWord 2 2 (b2n v)]).hwCommit
  else { s with vlt := { s.vlt with lastDue := true, hwWaiting := true } }

/-- Does LAST differ from the RUN latch under LAST_STATE (R192)? -/
def State.lastDiffers (s : State) : Bool := s.rd F.SEQ_POLICY_POLICY == 2 && s.on F.SEQ_POLICY_LAST != s.on F.SEQ_STATUS_RUN

/-- A write of VLT_COMMIT (R220, R235). met tells what came in the same cycle before it: bit 0 a hardware-originated commit, which carries this
request's draft too when it has started; bit 1 the other core's write, to which core A's never yields. -/
def State.vltCommitWrite (s : State) (who : Agent) (w : Word) (met : Nat) : State :=
  if !(F.VLT_COMMIT_KEY.of w == 0xE7 && F.VLT_COMMIT_GO.has w) then s
  else if bit met 1 && who.isCore .b then s.wr F.VLT_STATUS_CODE 4 |>.setOn F.VLT_STATUS_DONE
  else if bit met 0 && s.on F.VLT_STATUS_BUSY then s
  else s.commitRequest (F.VLT_COMMIT_WAIT.of w)

/-- VAULT_COMMIT_REQUEST (R220, R235, R244). -/
def execVaultCommitRequest (who : Agent) (arg : CommitArg) (s : State) : Res :=
  .next (s.access who domFRAM Reg.VLT_COMMIT arg.w true fun s => s.vltCommitWrite who arg.w arg.met.toNat)

/-- A stop that is accepted ends a request that waits for the gate (R239, R145). -/
def State.stopWaiting (s : State) : State :=
  if !s.on F.VLT_STATUS_WAITING then s else
  match s.compose with
  | .inr code => s.commitEnd code
  | .inl c => if 8 ≤ s.gateCode c.image.length then s.commitEnd (s.gateCode c.image.length) else s

/-- VAULT_GATE_OPEN (R219, R234): a waiting commit finds the gate open and starts. tie says that the opening falls in the
cycle in which WAIT ends, which VLT_COINCIDE counts. -/
def execVaultGateOpen (tie : Bool) (s : State) : Res :=
  .next (if !(s.on F.VLT_STATUS_WAITING && s.live domFRAM) then s else
    match s.compose with
    | .inr code => s.commitEnd code
    | .inl c =>
      if s.gateCode c.image.length = 0 then (if tie then s.count F.VLT_COINCIDE_COUNT 1 else s).commitStart c
      else s.wr F.RSV_BUDGET_UJ (s.budget c.image.length))

/-- A commit whose read-back differs at step 4 ends with VERIFY (R239). -/
def State.commitVerify (s : State) (c : Commit) : State :=
  (s.wr F.VLT_FAILED_SERIAL_SERIAL c.serial |>.commitCode 7).daybook 0x07 c.serial c.bank 0 |>.raise 90

/-- A failure of FRAM or SEAL goes to the Daybook at the next successful commit (R172), with PWR_FAIL as the failure left it. -/
def State.noteFailures (s : State) : State :=
  if s.pwr.failNote = 0 then s else
  let n := s.pwr.failNote
  ({ s with pwr := { s.pwr with failNote := 0 } } : State).daybook 0x05 n 0 0

/-- The seal of a completed image (R212). -/
def sealBytes (serial : Nat) (img : List Byte) : List Byte :=
  leBytes 4 magicSealed ++ leBytes 4 serial ++ leBytes 4 img.length ++ leBytes 4 (sealCrc img serial img.length)

/-- A commit reaches its commit point: steps 3 to 6 of Table 06-3 (R218, R220, R221). -/
def State.commitPoint (s : State) (c : Commit) : State :=
  let s := s.store (bankBase c.bank) c.image
  let s := s.store (bankBase c.bank + 0xBFF0) (sealBytes c.serial c.image)
  let pend := s.vlt.pend.filter fun r => !c.carried.contains r || c.again.contains (bits r.1 15 0)
  let s : State := { s with vlt := { s.vlt with
    mirror := c.image, mirrorBad := [], draft := [], pend := pend, hwWaiting := s.vlt.hwWaiting && (!pend.isEmpty || s.vlt.lastDue) } }
  let s := s.wr F.VLT_STATUS_ACTIVE c.bank |>.clr F.VLT_STATUS_NO_BANK |>.wr F.VLT_SERIAL_SERIAL c.serial
    |>.wr F.VLT_STATUS_FILL 0 |>.wrB F.VLT_STATUS_HW_PENDING (!pend.isEmpty) |>.countWrap F.VLT_COMMITS_COUNT 1
  (s.commitCode 0 |>.raise 88 |>.updateGate).noteFailures

/-- The commit in progress ends: at its commit point when the read-back matches, otherwise with VERIFY. -/
def State.commitDone (s : State) (readBackOk : Bool) : State :=
  match s.vlt.commit with
  | none => s
  | some c =>
    let s : State := { s with vlt := { s.vlt with commit := none } }
    if readBackOk then (s.clr F.VLT_STATUS_BUSY).commitPoint c else (s.clr F.VLT_STATUS_BUSY).commitVerify c

/-- VAULT_WAIT_EXPIRED (R239): the gate stayed closed for WAIT. -/
def execVaultWaitExpired (s : State) : Res :=
  .next (if s.on F.VLT_STATUS_WAITING && s.live domFRAM then s.commitEnd 0xA else s)

/-- HW_COMMIT_RETRY (R237, R192): the 1 s retry while the pending set is not empty; LAST is tried again while it differs from the latch. -/
def execHwCommitRetry (s : State) : Res :=
  .next (if !s.vlt.hwWaiting || !s.live domFRAM then s
    else if s.lastDiffers then (if s.vlt.lastDue then s.commitLast (s.on F.SEQ_STATUS_RUN) else s.hwCommit)
    else
      let s := ({ s with vlt := { s.vlt with lastDue := false } } : State).unpend 1
      if s.vlt.pend.isEmpty then s else s.hwCommit)

/-- A write of VLT_DRAFT_DATA (R218). -/
def State.draftAppend (s : State) (w : Word) : State :=
  if s.on F.VLT_STATUS_BUSY || decide (1024 ≤ s.vlt.draft.length) then s.setOn F.VLT_STATUS_REFUSED
  else ({ s with vlt := { s.vlt with draft := s.vlt.draft ++ [w.toNat] } } : State).wr F.VLT_STATUS_FILL
    (s.vlt.draft.length + 1)

/-- VAULT_DRAFT_APPEND (R218, R244). -/
def execVaultDraftAppend (who : Agent) (w : Word) (s : State) : Res :=
  .next (s.access who domFRAM Reg.VLT_DRAFT_DATA w true fun s => s.draftAppend w)

/-- A write of VLT_DRAFT_CTL: CLEAR empties the draft and is ignored while BUSY. -/
def State.draftClear (s : State) (w : Word) : State :=
  if F.VLT_DRAFT_CTL_CLEAR.has w && !s.on F.VLT_STATUS_BUSY then
    ({ s with vlt := { s.vlt with draft := [] } } : State).wr F.VLT_STATUS_FILL 0
  else s

/-- VAULT_DRAFT_CLEAR (R218, R244). -/
def execVaultDraftClear (who : Agent) (w : Word) (s : State) : Res :=
  .next (s.access who domFRAM Reg.VLT_DRAFT_CTL w true fun s => s.draftClear w)

/-- The byte offset of a record's header in an image. -/
def recordOffset : List (Nat × List Nat) → Nat → Nat → Nat
  | [], _, o => o
  | (h, d) :: t, id, o => if bits h 15 0 = id then o else recordOffset t id (o + 4 + 4 * d.length)

/-- VLT_FOUND as a read shows it: the last VLT_FIND against the active bank now. -/
def State.vltFound (s : State) : Word :=
  let id := s.rd F.VLT_FIND_ID
  let rs := recordsOf s.vlt.mirror
  let dft := s.recordDefault id
  match rs.find? (fun r => bits r.1 15 0 == id) with
  | some r => BitVec.ofNat 32 (2 ^ 31 + 2 ^ 30 * b2n dft.isSome + 2 ^ 24 * r.2.length + recordOffset rs id 0)
  | none => BitVec.ofNat 32 (2 ^ 30 * b2n dft.isSome + 2 ^ 24 * (dft.getD []).length)

/-- A write of VLT_FIND. -/
def State.vltFindWrite (s : State) (w : Word) : State :=
  let s := s.wr F.VLT_FIND_ID (F.VLT_FIND_ID.of w)
  s.setWord Reg.VLT_FOUND s.vltFound

/-- VAULT_FIND (R231, R240). bad says that the mirror's words of the record hold an uncorrectable error, which this read finds. -/
def execVaultFind (who : Agent) (w : Word) (bad : Bool) (s : State) : Res :=
  .next (s.access who domFRAM Reg.VLT_FIND w false fun s =>
    let s := s.vltFindWrite w
    if bad && s.hasRecord (s.rd F.VLT_FIND_ID) then s.mirrorError (s.rd F.VLT_FIND_ID) else s)

/-- A write of VLT_LOG (R229): a firmware TYPE queues an entry; a full queue sets REFUSED. -/
def State.vltLogWrite (s : State) (w : Word) : State :=
  let t := F.VLT_LOG_TYPE.of w
  if t < 0x80 then s else
  let full := decide (16 ≤ s.vlt.queue.length)
  let s := s.daybook t (s.rd F.VLT_LOG_D0_DATA) (s.rd F.VLT_LOG_D1_DATA) (s.rd F.VLT_LOG_D2_DATA)
  if full then s.setOn F.VLT_STATUS_REFUSED else s

/-- DAYBOOK_LOG (R229). -/
def execDaybookLog (who : Agent) (w : Word) (s : State) : Res :=
  .next (s.access who domFRAM Reg.VLT_LOG w false fun s => s.vltLogWrite w)

/-- The bytes of a Daybook entry in the ring (Table 06-4). -/
def dayBytes (seq : Nat) (e : DayEntry) : List Byte :=
  let b := leBytes 4 seq ++ leBytes 4 e.typ ++ leBytes 8 e.time ++ leBytes 4 e.d0 ++ leBytes 4 e.d1 ++ leBytes 4 e.d2
  b ++ leBytes 4 (crc32 b)

/-- Write one entry to the ring after the newest (R228). -/
def State.dayWrite (s : State) (e : DayEntry) : State :=
  let slot := s.rd F.VLT_DAYBOOK_NEXT
  let s := s.store (daybookSlot slot) (dayBytes s.vlt.nextSeq e)
  ({ s with vlt := { s.vlt with nextSeq := (s.vlt.nextSeq + 1) % 2 ^ 32 } } : State).wr F.VLT_DAYBOOK_NEXT ((slot + 1) % 512)

/-- Would a commit that waits for the gate start now? -/
def State.waitingStarts (s : State) : Bool :=
  s.on F.VLT_STATUS_WAITING && (match s.compose with | .inr _ => false | .inl c => s.gateCode c.image.length == 0)

/-- DAYBOOK_APPEND (R229, R219): at a commit opportunity one queued entry goes to the ring; the first append after entries were
discarded writes a LOST entry with their count instead. The START entry has been queued since t_READY (R49). A commit due in the same cycle
goes first (R235). -/
def execDaybookAppend (s : State) : Res :=
  .next (if !s.live domFRAM || s.on F.VLT_STATUS_BUSY || !s.ready || (s.vlt.queue.isEmpty && s.vlt.lostSince == 0) || s.waitingStarts then s else
    let s := s.wr F.RSV_BUDGET_UJ (s.budget 32)
    if s.gateCode 32 ≠ 0 then s
    else if s.vlt.lostSince ≠ 0 ∧ s.vlt.queue.length < 16 then
      ({ s with vlt := { s.vlt with lostSince := 0 } } : State).dayWrite ⟨0x06, s.cal.count, s.vlt.lostSince, 0, 0⟩
    else match s.vlt.queue with
      | [] => s
      | e :: q =>
        (({ s with vlt := { s.vlt with queue := q } } : State).wr F.VLT_DAYBOOK_QUEUED q.length).dayWrite e)

/-- RSV_ENERGY from the capacitance and VHOLD (R226). -/
def State.updateEnergy (s : State) : State :=
  let v := s.rd F.RSV_VHOLD_MV
  s.wr F.RSV_ENERGY_UJ
    (if v ≤ 2880 then 0 else min (2 ^ 24 - 1) (475 * s.rd F.RSV_CAP_UF * (v * v - 2880 * 2880) / 10 ^ 9))

/-- RESERVE_SAMPLE (R224, R226, R240): VHOLD in mV, the peak load in mA and whether PFAIL_N has been high for the last 100 µs. -/
def execReserveSample (mv ma : Nat) (pfailHigh : Bool) (s : State) : Res :=
  .next (if s.frozen 0 || !s.fl.vinValid then s else
    let was := s.vlt.loadAbove
    let s := s.wr F.RSV_VHOLD_MV (min mv 4095) |>.wr F.RSV_LOAD_MA (min ma 255)
    let now := decide (s.rd F.RSV_CFG_I_BUDGET < s.rd F.RSV_LOAD_MA)
    let s := { s with vlt := { s.vlt with pfailOk := pfailHigh, loadAbove := now } }
    let s := if now && !was then (s.setOn F.RSV_STATUS_LOAD_HIGH).raise 93 else s
    s.updateEnergy.updateGate)

/-- A write of RSV_MEASURE (R225): ignored while a measurement is due or in progress. -/
def State.rsvMeasureWrite (s : State) (w : Word) : State :=
  if F.RSV_MEASURE_GO.has w && !s.on F.RSV_STATUS_MEASURING then { s with vlt := { s.vlt with measDue := true } } else s

/-- RSV_MEASURE (R225, R244). -/
def execRsvMeasure (who : Agent) (w : Word) (s : State) : Res :=
  .next (s.access who 0 Reg.RSV_MEASURE w true fun s => s.rsvMeasureWrite w)

/-- RESERVE_PERIOD_ELAPSED (R225). -/
def execReservePeriodElapsed (s : State) : Res :=
  .next (if s.fl.vinValid && !s.frozen 0 && !s.on F.RSV_STATUS_MEASURING && s.on F.RSV_STATUS_VALID then
    { s with vlt := { s.vlt with measDue := true } } else s)

/-- RESERVE_MEASURE_START (R225): VHOLD has been in band for 10 ms with a measurement due, in run. -/
def execReserveMeasureStart (s : State) : Res :=
  .next (if s.fl.vinValid && s.vlt.measDue && !s.frozen 0 && s.pwr.phase == .run then
    ({ s with vlt := { s.vlt with measDue := false } } : State).setOn F.RSV_STATUS_MEASURING else s)

/-- A measurement is completed with a capacitance in µF (R225, R226, R240). -/
def State.measured (s : State) (uf : Nat) : State :=
  let low := decide (uf < 100)
  let s := s.wr F.RSV_CAP_UF (if low then 0 else min uf 65535) |>.wrB F.RSV_STATUS_CAP_LOW low
    |>.clr F.RSV_STATUS_MEASURING
  let s := if low then s.raise 92 else s
  let s := if s.on F.RSV_STATUS_VALID then s else (s.setOn F.RSV_STATUS_VALID).raise 94
  s.updateEnergy.updateGate

/-- RESERVE_MEASURE_DONE (R225, R234): the 20 mV fall took tNs ns, so C = 10 mA × t / 20 mV. tie says that the fall is seen in
the cycle of the 20 ms limit; no fall is seen after it. -/
def execReserveMeasureDone (tNs : Nat) (tie : Bool) (s : State) : Res :=
  .next (if s.on F.RSV_STATUS_MEASURING && !s.frozen 0 then
    (if tie then s.count F.RSV_COINCIDE_COUNT 1 else s).measured (min tNs 20000000 / 2000) else s)

/-- RESERVE_MEASURE_TIMEOUT (R225): no fall within 20 ms. -/
def execReserveMeasureTimeout (s : State) : Res :=
  .next (if s.on F.RSV_STATUS_MEASURING && !s.frozen 0 then s.measured 10000 else s)

end Sys2Proof.Machine
end

