-- ==== Sys2Proof/Machine/Calendar.lean ====
section
/-! DEFINITION. The Calendar (chapter 12): the backup cell's count and its trim, PPS alignment, holdover, alarms, SET, and the substitute for
XT32. A tick command is one XT32 tick, or one of its substitute. -/

namespace Sys2Proof.Machine

/-- The state with the Calendar's own part changed. -/
def State.modCal (s : State) (f : Calendar → Calendar) : State := { s with cal := f s.cal }

/-- SECONDS of a count. -/
def secondsOf (c : Nat) : Nat := c / 2 ^ 24

/-- The count, fraction bits included, as one number. -/
def Calendar.full (c : Calendar) : Nat := c.count * 2 ^ 32 + c.frac

/-- What one tick adds, with 32 fraction bits: 512 × (1 + RATE / 2^32) units (R413). -/
def State.tickInc (s : State) : Nat := 512 * (2 ^ 32 + sext 32 (s.word Reg.CAL_RATE).toNat).toNat

/-- Replace the count. -/
def State.setCount (s : State) (full : Nat) : State :=
  s.modCal fun c => { c with count := full / 2 ^ 32 % 2 ^ 64, frac := full % 2 ^ 32 }

/-- RATE clamped to ±200 ppm, with RATE_LIM (R418, R423). -/
def State.setRate (s : State) (r : Int) : State :=
  let x := clampInt (-858993) 858993 r
  (s.setWord Reg.CAL_RATE (BitVec.ofNat 32 (wrapInt 32 x))).wrB F.CAL_STATUS_RATE_LIM (x != r)

/-- The 40-bit value of alarm k. -/
def State.alarmValue (s : State) (k : Nat) : Nat :=
  if k = 0 then s.rd F.CAL_ALARM0_LO_SECONDS + 2 ^ 32 * s.rd F.CAL_ALARM0_HI_SECONDS
  else s.rd F.CAL_ALARM1_LO_SECONDS + 2 ^ 32 * s.rd F.CAL_ALARM1_HI_SECONDS

/-- EN of alarm k. -/
def alarmEn (k : Nat) : Fld := if k = 0 then F.CAL_ALARM0_HI_EN else F.CAL_ALARM1_HI_EN

/-- Judge alarm k (R421). -/
def State.judgeAlarm (s : State) (k : Nat) : State :=
  if s.live 0 && s.on (alarmEn k)
    && decide ((secondsOf s.cal.count + 2 ^ 40 - s.alarmValue k) % 2 ^ 40 < 2 ^ 39)
  then ((s.clr (alarmEn k)).raise (29 + k)).wakeSource 3
  else s

/-- After a change of the count: CAL_SECOND at a change of SECONDS (R413), and the alarms (R421, R438). -/
def State.afterCount (s : State) (was : Nat) : State :=
  (((s.raiseIf (s.live 0 && secondsOf was != secondsOf s.cal.count) 28).judgeAlarm 0).judgeAlarm 1)

/-- Restart the 2 s count, in ACQUIRE (R420, R423). -/
def State.acquire (s : State) : State :=
  ((s.modCal fun c => { c with holdFrom := c.count }).wr F.CAL_STATUS_STATE 1).level 27 false

/-- Enter holdover (R420). -/
def State.enterHoldover (s : State) : State := (s.wr F.CAL_STATUS_STATE 3).level 27 true

/-- Calendar time since the 2 s count started. -/
def Calendar.heldFor (c : Calendar) (at_ : Nat) : Nat := (at_ + 2 ^ 64 - c.holdFrom) % 2 ^ 64

/-- Holdover is judged: 2 s of Calendar time have passed (R420). -/
def State.judgeHoldover (s : State) : State :=
  if s.live 0 && s.cal.started && s.on F.CAL_CFG_PPS_EN && s.rd F.CAL_STATUS_STATE != 3
    && decide (2 ^ 25 ≤ s.cal.heldFor s.cal.count)
  then s.enterHoldover else s

/-- Load CAL_SET (R423). -/
def State.applySet (s : State) : State :=
  let v := (s.word Reg.CAL_SET_LO).toNat + 2 ^ 32 * (s.word Reg.CAL_SET_HI).toNat
  let s := (s.setCount (v * 2 ^ 32)).modCal fun c =>
    { c with setDue := false, chain := none, considered := none, credit := 0, holdFrom := v }
  let s := ((s.setOn F.CAL_STATUS_VALID).clr F.CAL_STATUS_LOST).wr F.CAL_STATUS_REJ_RUN 0
  if s.cal.started && s.on F.CAL_CFG_PPS_EN then s.acquire else s

/-- The trim of the AO oscillator, every 32 XT32 periods (R135); the trim word it finds is not stated, nor when it is within ±0.5 % (log entry 70). -/
def State.oscTrim (s : State) (ticks : Nat) : State :=
  if !s.on F.CLK_STATUS_XT32_OK then s
  else if s.cal.trimTicks + ticks < 32 then s.modCal fun c => { c with trimTicks := c.trimTicks + ticks }
  else
    let r := s.freeBelow 4096
    let l := r.2.freeBelow 2
    ((l.2.modCal fun c => { c with trimTicks := (c.trimTicks + ticks) % 32, locked := c.locked || l.1 == 1 }).wr F.CLK_STATUS_TRIM_LOCK l.1).wr
      F.CLK_STATUS_TRIM r.1

/-- XT32 is lost (R415, R135, R174): the count goes on from the AO oscillator, which keeps its trim, or its factory trim when it has never locked. In
stop the elapsed count is substituted. -/
def State.xt32Lost (s : State) : State :=
  let s : State := { s with pwr := { s.pwr with xt32Fail := true } }
  let s := ((s.clr F.CLK_STATUS_XT32_OK).clr F.CLK_STATUS_TRIM_LOCK).setOn F.CAL_STATUS_SUBST
  let s := if s.cal.locked then s else s.wr F.CLK_STATUS_TRIM Config.oscTrim
  let s := if s.pwr.phase = .stopped then s.setOn F.PWR_STOP_STAT_SUBST else s
  (s.modCal fun c => { c with trimTicks := 0 }).raise 6

/-- n ticks that add to the count. -/
def State.addTicks (s : State) (n : Nat) : State :=
  let was := s.cal.count
  let gone := s.cal.credit * 2 ^ 56 / 10 ^ 9
  let s := (s.setCount (s.cal.full + (n * s.tickInc - gone))).modCal fun c =>
    { c with credit := 0, gapTicks := c.gapTicks + n }
  ((s.oscTrim n).afterCount was).judgeHoldover

/-- The trim that waits for a tick takes effect (R423). -/
def State.applyRate (s : State) : State :=
  match s.cal.rateDue with
  | none => s
  | some w => (s.modCal fun c => { c with rateDue := none }).setRate (sext 32 w.toNat)

/-- One tick (R413, R423): a SET that waits is loaded, otherwise the trimmed increment is added. -/
def State.calTick (s : State) : State :=
  let s := s.applyRate
  if s.cal.setDue then
    let was := s.cal.count
    ((s.applySet.modCal fun c => { c with gapTicks := c.gapTicks + 1 }).oscTrim 1).afterCount was
  else s.addTicks 1

/-- CALENDAR_TICK (R413). -/
def execCalendarTick (s : State) : Res := .next s.calTick

/-- The ticks up to and including the next second boundary. -/
def State.ticksToSecond (s : State) : Nat :=
  let goal := (secondsOf s.cal.count + 1) * 2 ^ 56
  let gone := s.cal.credit * 2 ^ 56 / 10 ^ 9
  (goal + gone - s.cal.full + s.tickInc - 1) / s.tickInc

/-- CALENDAR_SECOND (R413): the Calendar second boundary comes; the ticks up to it are counted. With a SET or a trim waiting, the next
tick comes first. -/
def execCalendarSecond (s : State) : Res :=
  .next (if s.cal.setDue || s.cal.rateDue.isSome then s.calTick else s.addTicks s.ticksToSecond)

/-- ALARM_MATCH (R421): the alarm is judged, within a tick of the write that sets EN. -/
def execAlarmMatch (k : Fin 2) (s : State) : Res := .next (s.judgeAlarm k.val)

/-- The phase of an edge in nanoseconds and its aligned second (R416, R417): the count interpolated by the nanoseconds since the last
tick. -/
def Calendar.phase (c : Calendar) (since : Nat) : Int × Nat :=
  let t : Nat := (c.count % 2 ^ 24) * 10 ^ 9 / 2 ^ 24 + (since - c.credit)
  let sec : Nat := secondsOf c.count + t / 10 ^ 9
  let r : Nat := t % 10 ^ 9
  if 2 * r < 10 ^ 9 then ((r : Int), sec % 2 ^ 40) else ((r : Int) - 10 ^ 9, (sec + 1) % 2 ^ 40)

/-- An accepted edge or a step sets the count to the aligned second (R418, R419). -/
def State.alignTo (s : State) (sec since : Nat) : State :=
  let was := s.cal.count
  let s := (s.setCount (sec * 2 ^ 56)).modCal fun c =>
    { c with credit := since, holdFrom := sec * 2 ^ 24, considered := some sec, taken := true, chain := some sec }
  let s := ((s.wr F.CAL_STATUS_REJ_RUN 0).wr F.CAL_STATUS_STATE 2).level 27 false
  (s.count F.CAL_PPS_COUNT_ACCEPTED 1).afterCount was

/-- The correction of RATE for a phase: e_ns × 2^32 / (10^9 × 2^GAIN), rounded (R418). No phase falls half way. -/
def rateStep (e : Int) (gain : Nat) : Int := (2 * e * 2 ^ 32 + 10 ^ 9 * 2 ^ gain) / (2 * (10 ^ 9 * 2 ^ gain))

/-- An accepted edge (R418). -/
def State.acceptEdge (s : State) (e : Int) (sec since : Nat) : State :=
  let chained := match s.cal.chain with | some c => (c + 1) % 2 ^ 40 == sec | none => false
  let s := (s.alignTo sec since).raise 24
  if chained then s.setRate (sext 32 (s.word Reg.CAL_RATE).toNat - rateStep e (s.rd F.CAL_CFG_GAIN)) else s

/-- A rejected edge, or the step its fourth in a row becomes (R419). -/
def State.rejectEdge (s : State) (sec since : Nat) : State :=
  let run := s.rd F.CAL_STATUS_REJ_RUN
  if run < 3 then
    ((s.wr F.CAL_STATUS_REJ_RUN (run + 1)).count F.CAL_PPS_COUNT_REJECTED 1 |>.raise 25).modCal fun c =>
      { c with considered := some sec, taken := false }
  else ((s.alignTo sec since).raise 26).setOn F.CAL_STATUS_STEPPED

/-- PPS_EDGE (R416-R419, R435, R438): a qualifying edge, since nanoseconds after the last tick. tie is an edge sampled on the AO edge on
which the 2 s count ends. An edge that would set the count while a SET waits for its tick is ignored. -/
def execPpsEdge (since : Nat) (tie : Bool) (s : State) : Res :=
  .next (if !s.live 0 || !s.cal.started || !s.on F.CAL_CFG_PPS_EN || !s.pinned .ppsIn then s else
    let p := s.cal.phase since
    let e := p.1
    let sec := p.2
    if s.cal.considered == some sec then
      if s.cal.taken then s.count F.CAL_PPS_COUNT_EXTRA 1 else s
    else
      let win : Int := (1000 * s.rd F.CAL_CFG_PPS_WIN : Nat)
      let inside := decide (-win ≤ e) && decide (e ≤ win)
      if s.cal.setDue && (inside || s.rd F.CAL_STATUS_REJ_RUN == 3) then s else
      let s := s.setWord Reg.CAL_PHASE (BitVec.ofNat 32 (wrapInt 32 e))
      let s := if e == win || e == -win then s.count F.CAL_COINCIDE_COUNT 1 else s
      let s := if tie && s.rd F.CAL_STATUS_STATE != 3 then s.count F.CAL_COINCIDE_COUNT 1 else s
      if inside then s.acceptEdge e sec since else s.rejectEdge sec since)

/-- HOLDOVER (R420): the 2 s count ends before the next tick. -/
def execHoldover (s : State) : Res :=
  .next (if s.live 0 && s.cal.started && s.on F.CAL_CFG_PPS_EN && s.rd F.CAL_STATUS_STATE != 3
      && decide (2 ^ 25 ≤ s.cal.heldFor s.cal.count + 513)
    then s.enterHoldover else s)

/-- A write of CAL_CMD (R423). -/
def State.calCmdWrite (s : State) (w : Word) : State :=
  if F.CAL_CMD_KEY.of w = 0xCA ∧ F.CAL_CMD_SET.has w then s.modCal fun c => { c with setDue := true } else s

/-- CALENDAR_SET (R423, R444). -/
def execCalendarSet (who : Agent) (key : BitVec 8) (s : State) : Res :=
  let w : Word := BitVec.ofNat 32 (key.toNat * 2 ^ 24 + 1)
  .next (s.access who 0 Reg.CAL_CMD w true fun s => s.calCmdWrite w)

/-- A write of CAL_RATE waits for the next tick (R423). -/
def State.calRateWrite (s : State) (w : Word) : State := s.modCal fun c => { c with rateDue := some w }

/-- CAL_RATE_WRITE (R423, R444). -/
def execCalRateWrite (who : Agent) (w : Word) (s : State) : Res :=
  .next (s.access who 0 Reg.CAL_RATE w true fun s => s.calRateWrite w)

/-- A read of CAL_NOW_LO (R422). -/
def State.calNowLo (s : State) (who : Agent) : Word × State :=
  (BitVec.ofNat 32 s.cal.count,
    match who with
    | .core c _ => s.modCal fun x => { x with latch := (c, s.cal.count / 2 ^ 32) :: x.latch.filter fun p => p.1 != c }
    | .jtag => s)

/-- A read of CAL_NOW_HI (R422). -/
def State.calNowHi (s : State) (who : Agent) : Word × State :=
  match who with
  | .core c _ =>
    (match s.cal.latch.find? fun p => p.1 == c with
      | some p => (BitVec.ofNat 32 p.2, s.modCal fun x => { x with latch := x.latch.filter fun p => p.1 != c })
      | none => (BitVec.ofNat 32 (s.cal.count / 2 ^ 32), s))
  | .jtag => (BitVec.ofNat 32 (s.cal.count / 2 ^ 32), s)

/-- CAL_NOW_LO_READ (R422). -/
def execCalNowLoRead (who : Agent) (s : State) : Res :=
  .next (if !s.domOn 0 then s.busErr busDomainOff else let r := s.calNowLo who; r.2.reply (.word r.1))

/-- CAL_NOW_HI_READ (R422). -/
def execCalNowHiRead (who : Agent) (s : State) : Res :=
  .next (if !s.domOn 0 then s.busErr busDomainOff else let r := s.calNowHi who; r.2.reply (.word r.1))

/-- The backup cell restarts (R414); VALID and LOST show it at the next POR. -/
def State.cellRestart (s : State) : State :=
  (s.setWord Reg.CAL_RATE 0).modCal fun c => { c with count := 0, frac := 0, rateDue := none, credit := 0, restarted := true }

/-- VBAT_SAMPLE (R414): the sample of one second, in mV. -/
def execVbatSample (mv : Nat) (s : State) : Res :=
  .next (if !s.live 0 || !s.fl.vinValid then s
    else (s.wrB F.CAL_STATUS_VBAT_LOW (decide (mv < 2200))).level 31 (decide (mv < 2200)))

/-- XT32_LOSS (R415, R135): no edge for 128 µs while VIN_AO is valid. In stop it is a wake source that is active until the wake (R151, R174). -/
def execXt32Loss (s : State) : Res :=
  .next (if !s.live 0 || !s.fl.vinValid || s.pwr.xt32Fail then s else s.xt32Lost.wakeSource 17)

/-- XT32_RETURN (R415): XT32 runs again and gives its first edge. -/
def execXt32Return (s : State) : Res :=
  .next (if !s.live 0 || !s.fl.vinValid then s else
    let s : State := { s with pwr := { s.pwr with xt32Fail := false } }
    (s.setOn F.CLK_STATUS_XT32_OK).clr F.CAL_STATUS_SUBST)

/-- PPS_EN judged after it may have changed (R420): an enabling starts the 2 s count. -/
def State.ppsUpdate (s : State) : State :=
  if !s.cal.started then s
  else if !s.on F.CAL_CFG_PPS_EN then (s.wr F.CAL_STATUS_STATE 0).level 27 false
  else if s.rd F.CAL_STATUS_STATE = 0 then s.acquire else s

/-- The CALENDAR section takes effect (R71, R438); without one the window is 50 µs with PPS enabled (Table 02-3). -/
def State.calApply (s : State) : State :=
  let w := match s.till 0x018 with | some t => u32At t.body 0 | none => 2 ^ 16 + 50
  ((s.wr F.CAL_CFG_PPS_WIN (bits w 10 0)).wr F.CAL_CFG_PPS_EN (bits w 16 16)).ppsUpdate

/-- PPS alignment goes live at step 8 of Table 01-2 (R440). -/
def State.calStart (s : State) : State := (s.modCal fun c => { c with started := true }).ppsUpdate

/-- What POR and WDR clear beside the registers; the backup cell keeps its count (R440). -/
def State.calClear (s : State) (por : Bool) : State :=
  s.modCal fun c => { c with
    setDue := false, considered := none, taken := false, chain := none, latch := [], started := c.started && !por }

/-- The freeze instant, as the backup cell latches it (R443). -/
def State.calFreeze (s : State) : State := s.modCal fun c => { c with gapTicks := 0, gapSec := secondsOf c.count }

/-- Release of a freeze (R443): FROZEN_GAP, and, when AO was frozen, alarms, the chain and holdover. -/
def State.calRelease (s : State) (aoFrozen : Bool) : State :=
  let g := s.cal.gapTicks
  let s := s.daybook 0x04 (g % 2 ^ 32) (g / 2 ^ 32 % 2 ^ 16) (s.cal.gapSec % 2 ^ 32)
  if aoFrozen then (((s.modCal fun c => { c with chain := none }).judgeAlarm 0).judgeAlarm 1).judgeHoldover else s

end Sys2Proof.Machine
end

