-- ==== Sys2Proof/Machine/Temp.lean ====
section
/-! DEFINITION. Temperatures from codes (R453-R455): natural logarithms in fixed point with 128 fraction bits, the thermistor and the
remote-diode formula, rounded to the nearest 1/16 °C and held to -55 to +150 °C. -/

namespace Sys2Proof.Machine

/-- One in fixed point: 128 fraction bits. -/
def fxOne : Nat := 2 ^ 128

/-- The terms of 2 × artanh z = ln((1 + z) / (1 - z)): z^(2i+1) / (2i + 1), p being z^(2i+1) and zz being z^2. -/
def artanhSum : Nat → Nat → Int → Int → Int
  | 0, _, _, _ => 0
  | fuel + 1, i, p, zz => p / ((2 * i + 1 : Nat) : Int) + artanhSum fuel (i + 1) (p * zz / (fxOne : Int)) zz

/-- ln(num / den) for a ratio between 1/2 and 2, in fixed point. -/
def lnNear (num den : Nat) : Int :=
  let z : Int := (((num : Int) - den) * fxOne) / ((num + den : Nat) : Int)
  2 * artanhSum 84 0 z (z * z / (fxOne : Int))

/-- ln 2 in fixed point. -/
def ln2Fx : Int := lnNear 2 1

/-- ln(num / den) in fixed point; num and den are not 0. -/
def lnFx (num den : Nat) : Int :=
  let a := num.log2
  let b := den.log2
  if b ≤ a then ((a - b : Nat) : Int) * ln2Fx + lnNear num (den * 2 ^ (a - b))
  else lnNear (num * 2 ^ (b - a)) den - ((b - a : Nat) : Int) * ln2Fx

/-- ln 10 in fixed point. -/
def ln10Fx : Int := lnFx 10 1

/-- The hottest code, +150 °C (R452). -/
abbrev hottest : Nat := 2400

/-- A temperature in 1/16 °C held to the range of Table 13-1, as a 16-bit VALUE. -/
def tempValue (t : Int) : Nat := wrapInt 16 (clampInt (-880) 2400 t)

/-- num / den in K as 1/16 °C, rounded to the nearest. A thermistor's 1/T below 0 gives a T below 0 K, which is held to -55 °C; it is never 0, the
logarithm of a ratio of whole numbers being irrational. -/
def kelvinValue (num den : Int) : Nat :=
  if den ≤ 0 then tempValue (-880) else tempValue ((2 * (320 * num - 87408 * den) + 20 * den) / (40 * den))

/-- A thermistor code x / 65,536 is implausible (R454). -/
def thBad (code : Nat) : Bool := decide (98 * 65536 ≤ 100 * code) || decide (100 * code ≤ 65536)

/-- Temperature of a thermistor (R453): RB in ohms, RNOM in 10-ohm units, BETA in K. -/
def thValue (code rb rnom beta : Nat) : Nat :=
  if code = 0 then tempValue (-880) else
  let l := lnFx (rb * code) ((65536 - code) * (10 * rnom))
  kelvinValue (5963 * (fxOne : Int) * beta) (20 * (fxOne : Int) * beta + 5963 * l)

/-- A remote-diode reading is implausible (R455): the 10 µA voltage above 1,000 mV or below 100 mV. -/
def rdBad (c10 : Nat) : Bool := decide (1000 * 65536 < 2500 * c10) || decide (2500 * c10 < 100 * 65536)

/-- Temperature of a remote diode (R455): codes at 10 and 100 µA, RS in 0.1-ohm units, ETA - 1 in 1/65,536. -/
def rdValue (c10 c100 rs eta : Nat) : Nat :=
  let dv : Int := ((c100 : Int) - c10) * 2500000 - 9 * rs * 65536
  kelvinValue (dv * 10000 * (fxOne : Int)) (((65536 + eta) * 861733 : Nat) * ln10Fx)

end Sys2Proof.Machine
end

