-- ==== Sys2Proof/Machine/Measure.lean ====
section
/-! DEFINITION. The measurement block (chapter 13): slices and their roles, correction and relief calibration, rotation, scan lists with
their triggers and overlap, sensor faults, limits, and the Survey. Raw codes are averages in 1/16 LSB. -/

namespace Sys2Proof.Machine

/-- The state with the measurement block's own part changed. -/
def State.modAdc (s : State) (f : Measurement → Measurement) : State := { s with adc := f s.adc }

/-- What slice x keeps beside its registers. -/
def State.slc (s : State) (x : Nat) : AdcSlice := s.adc.slices.getD x {}

/-- The state with a slice changed. -/
def State.modSlc (s : State) (x : Nat) (f : AdcSlice → AdcSlice) : State :=
  s.modAdc fun a => { a with slices := a.slices.set x (f (a.slices.getD x {})) }

/-- Is slice x on? -/
def State.slcOn (s : State) (x : Nat) : Bool := s.domOn (14 + x)

/-- The slices that are on and not bad. -/
def State.goodSlices (s : State) : List Nat := (List.range 3).filter fun x => s.slcOn x && !(s.slc x).bad

/-- STATE of a slice (Table 13-8). -/
def State.slcState (s : State) (x : Nat) : Nat := s.rd (F.ADC_SLICE_STATE x)

/-- Is slice x live and able to start a pass? -/
def State.slcIdle (s : State) (x : Nat) : Bool := s.slcOn x && s.slcState x == 0 && (s.slc x).pass.isNone

/-- Is any slice live? -/
def State.anyLive (s : State) : Bool := (List.range 3).any fun x => s.slcOn x && s.slcState x == 0

/-- A slice takes correction values. -/
def State.setCorr (s : State) (x gain off : Nat) : State := (s.wr (F.ADC_CORR_GAIN x) gain).wr (F.ADC_CORR_OFFSET x) off

/-- A slice's record (R458). -/
def State.slcRecord (s : State) (x : Nat) : List Nat := s.record (0x0101 + x)

/-- A slice takes its baseline values (R448). -/
def State.baseline (s : State) (x : Nat) : State :=
  let w := natAt (s.slcRecord x) 0
  (s.setCorr x (bits w 31 16) (bits w 15 0)).modSlc x fun c => { c with age := 0 }

/-- A relief calibration starts: the slice's record applies (R458). -/
def State.startCal (s : State) (x : Nat) : State :=
  (s.wr (F.ADC_SLICE_STATE x) 2).modSlc x fun c => { c with rec0 := s.slcRecord x, pass := none }

/-- A slice becomes idle (R461). -/
def State.slcIdleNow (s : State) (x : Nat) : State :=
  (s.modSlc x fun c => { c with pass := none, idleAt := s.adc.serial }).modAdc fun a => { a with serial := a.serial + 1 }

/-- A slice becomes live. -/
def State.goLive (s : State) (x : Nat) : State := (s.wr (F.ADC_SLICE_STATE x) 0).slcIdleNow x

/-- Roles with a set of good slices (R445, R469): with fewer than three all are live; a third starts in relief. -/
def State.adcRolesOf (s : State) (good : List Nat) : State :=
  let s := s.wrB F.ADC_STAT_NO_RELIEF (decide (good.length < 3))
  if good.length < 3 then
    good.foldl (fun s x =>
      if s.slcState x = 0 then s else if s.slcState x = 1 then s.wr (F.ADC_SLICE_STATE x) 0 else s.goLive x) s
  else s

/-- Roles when the set of good slices has changed. -/
def State.adcRoles (s : State) : State := s.adcRolesOf s.goodSlices

/-- PENDING of a list. -/
def State.setPending (s : State) (k : Nat) (v : Bool) : State := s.wrB (F.ADC_SL_STAT_PENDING k) v

/-- Trigger overrun (R462): counted and raised. -/
def State.adcOver (s : State) (k : Nat) : State := (s.count (F.ADC_SL_OVR_COUNT k) 1).raise 244

/-- The slice that runs a list, with its pass; a pass whose last entry has completed has ended for a trigger (R468). -/
def State.listSlice (s : State) (k : Nat) : Option Nat :=
  (List.range 3).find? fun x => match (s.slc x).pass with | some p => p.list == k && decide (p.idx < p.len) | none => false

/-- The configuration a list runs by: that of its pass, else ADC_SL_CFG (R459). -/
def State.listCfg (s : State) (k : Nat) : Word :=
  match (s.listSlice k).bind fun x => (s.slc x).pass with
  | some p => p.cfg
  | none => s.word (Reg.ADC_SL_CFG k)

/-- A trigger to a list (R460, R462, Table 13-2, Table 13-6). -/
def State.adcTrigger (s : State) (k : Nat) : State :=
  let cfg := s.listCfg k
  if !(F.ADC_SL_CFG_EN k).has cfg || (F.ADC_SL_CFG_MODE k).has cfg then s
  else if !s.anyLive then s.adcOver k
  else
    let ov := (F.ADC_SL_CFG_OVERLAP k).of cfg
    if s.on (F.ADC_SL_STAT_PENDING k) then s.adcOver k else
    match s.listSlice k with
    | none => s.setPending k true
    | some x =>
      if ov = 1 then s.adcOver k
      else if ov = 2 then
        (match (s.slc x).pass with
          | some p => if p.restart then s.adcOver k else s.modSlc x fun c => { c with pass := some { p with restart := true } }
          | none => s)
      else s.setPending k true

/-- A Survey becomes due; requests merge (R465). -/
def State.surveyDue (s : State) (cause : Nat) : State :=
  if s.adc.survey.isSome then s else (s.modAdc fun a => { a with survey := some cause }).setOn F.ADC_STAT_SURVEYING

/-- A write of ADC_CMD (R460, R465): ROT_MS, the triggers and the Survey request. -/
def State.adcCmdWrite (s : State) (w : Word) : State :=
  let s := s.wr F.ADC_CMD_ROT_MS (F.ADC_CMD_ROT_MS.of w)
  let s := (List.range 8).foldl (fun s k => if bit (F.ADC_CMD_TRIG.of w) k then s.adcTrigger k else s) s
  if F.ADC_CMD_SURVEY.has w then s.surveyDue 2 else s

/-- A write of ADC_CMD from any level: ROT_MS, when it changes, is a supervisor's (R473). -/
def State.adcCmdAccess (s : State) (who : Agent) (w : Word) : State :=
  s.access who domAREF Reg.ADC_CMD w (F.ADC_CMD_ROT_MS.of w != s.rd F.ADC_CMD_ROT_MS) fun s => s.adcCmdWrite w

/-- ADC_TRIGGER (R460, R462): ADC_CMD.TRIG; ROT_MS is written as it stands. A route's trigger comes with EVENT_ACCEPT. -/
def execAdcTrigger (who : Agent) (lists : BitVec 8) (s : State) : Res :=
  .next (s.adcCmdAccess who (BitVec.ofNat 32 (s.rd F.ADC_CMD_ROT_MS * 2 ^ 24 + lists.toNat)))

/-- SURVEY (R465). -/
def execSurvey (who : Agent) (s : State) : Res :=
  .next (s.adcCmdAccess who (BitVec.ofNat 32 (s.rd F.ADC_CMD_ROT_MS * 2 ^ 24 + 2 ^ 9)))

/-- SURVEY_PERIOD (R465): SURVEY_S seconds have passed since the last Survey completed. -/
def execSurveyPeriod (s : State) : Res :=
  .next (if s.live domAREF && s.rd F.ADC_CFG_SURVEY_S != 0 then s.surveyDue 1 else s)

/-- The list that starts next: triggered lists first, then continuous ones, lowest number first (R461). -/
def State.nextList (s : State) : Option Nat :=
  let ready := (List.range 8).filter fun k =>
    s.on (F.ADC_SL_CFG_EN k) && s.on (F.ADC_SL_STAT_PENDING k) && !s.on (F.ADC_SL_STAT_RUNNING k)
  match ready.find? fun k => !s.on (F.ADC_SL_CFG_MODE k) with
  | some k => some k
  | none => ready.head?

/-- The idle live slice that has been idle longest (R461). -/
def State.nextSlice (s : State) : Option Nat :=
  (List.range 3).foldl (fun b x =>
    if !s.slcIdle x then b else
    match b with
    | none => some x
    | some y => if (s.slc x).idleAt < (s.slc y).idleAt then some x else some y) none

/-- A pass of a list from the copies taken now (R458, R459). -/
def State.newPass (s : State) (k : Nat) : AdcPass :=
  ⟨k, 0, s.rd (F.ADC_SL_CFG_LEN k) + 1, (List.range 16).map fun j => s.word (Reg.ADC_ENT k j), s.record 0x0104, false,
    s.word (Reg.ADC_SL_CFG k), false⟩

/-- Does a slice run the Survey as a pass (R465)? -/
def State.surveyPass (s : State) : Bool :=
  (List.range 3).any fun y => match (s.slc y).pass with | some p => p.list == 8 | none => false

/-- ADC_PASS_START (R459, R461, R465). -/
def execAdcPassStart (s : State) : Res :=
  .next (if !s.live domAREF then s else
    match s.nextSlice with
    | none => s
    | some x =>
      match s.nextList with
      | some k =>
        ((s.modSlc x fun c => { c with pass := some (s.newPass k) }).setPending k false |>.setOn
          (F.ADC_SL_STAT_RUNNING k)).wr (F.ADC_SL_STAT_SLICE k) x
      | none =>
        if s.on F.ADC_STAT_NO_RELIEF && s.adc.survey.isSome && !s.surveyPass then
          (s.modSlc x fun c => { c with pass := some ⟨8, 0, 0, [], [], false, 0, false⟩ }).modAdc fun a => { a with surveyAt := s.cal.count }
        else s)

/-- A corrected code in 1/16 LSB (R446): the spec states no rounding to 1/16 LSB. -/
def State.corrected (s : State) (x raw : Nat) : Nat × State :=
  let off := sext 16 (s.rd (F.ADC_CORR_OFFSET x))
  let gain := sext 16 (s.rd (F.ADC_CORR_GAIN x))
  let r := s.roundFree (((raw : Int) - off) * (1000000 + gain)) 1000000
  ((clampInt 0 65535 r.1).toNat, r.2)

/-- Largest VALUE of a channel behind an internal divider (Table 13-1). -/
def channelMax (c : Nat) : Nat := if c = 29 then 1200 else if c = 37 ∨ c = 38 then 36000 else if c = 39 then 40000 else 4000

/-- A word of the loop record in force (R567, R572). -/
def State.loopWord (s : State) (c i : Nat) : Nat := natAt (s.loops.getD c {}).cal i

/-- R_S of loop c in 0.01 ohm (Table 17-3). -/
def State.loopRs (s : State) (c : Nat) : Nat := orDefault (bits (s.loopWord c 0) 15 0) 4990

/-- The current of a loop sense code in µA (R567): round(V_SNS / R_S × (1 + G × 10^-6)) + O, held to its range. -/
def State.loopCurrent (s : State) (c code : Nat) : Nat :=
  let w := s.loopWord c 1
  let num : Int := (code * 2500000 * 100 : Nat) * (1000000 + sext 16 (bits w 31 16))
  let den : Int := (65536 * s.loopRs c * 1000000 : Nat)
  (clampInt 0 25000 ((2 * num + den) / (2 * den) + sext 16 (bits w 15 0))).toNat

/-- VALUE of a channel that is no temperature from its corrected code (R452, R567). -/
def State.chanValue (s : State) (c sub code : Nat) : Nat × State :=
  if c < 16 then
    let r := s.roundFree (code * 2500 : Nat) 65536
    ((clampInt 0 2500 r.1).toNat, r.2)
  else if c = 35 ∨ c = 36 then (s.loopCurrent (c - 35) code, s)
  else if c = 37 ∨ c = 38 then
    let g := sext 16 (bits (s.loopWord (c - 37) 2) 15 0)
    let r := s.roundFree ((Config.ballMv c 0 code : Int) * (1000000 + g)) 1000000
    ((clampInt 0 36000 r.1).toNat, r.2)
  else if c < 40 then (min (channelMax c) (Config.ballMv c (min 4 sub) code), s)
  else (0, s)

/-- A temperature reading: its VALUE and whether it is plausible (R453-R455). recs is the sensor record of the pass. -/
def tempReading (recs : List Nat) (c code code2 : Nat) : Nat × Bool :=
  if c < 24 then
    let w := natAt recs (2 * (c - 16) + 1)
    (thValue code (orDefault (natAt recs (2 * (c - 16))) 10000) (orDefault (bits w 15 0) 1000) (orDefault (bits w 31 16) 3435),
      !thBad code)
  else if c < 28 then
    let w := natAt recs (16 + (c - 24))
    (rdValue code code2 (bits w 31 16) (orDefault (bits w 15 0) 524), !rdBad code)
  else (tempValue (Config.dieTemp code), true)

/-- FAULT of a temperature channel. -/
def State.sensorFault (s : State) (c : Nat) : Bool := bit (s.rd F.ADC_FAULT_LO_FAULT) c

/-- Set FAULT of a channel, with ADC_SENSOR_FAULT (R456). -/
def State.setSensorFault (s : State) (c : Nat) (v : Bool) : State :=
  let s := s.wr F.ADC_FAULT_LO_FAULT (setBits (s.rd F.ADC_FAULT_LO_FAULT) c c (b2n v))
  s.level 247 (s.rd F.ADC_FAULT_LO_FAULT != 0)

/-- What a temperature channel keeps. -/
def State.sensor (s : State) (c : Nat) : SensorRun := s.adc.sensors.getD (c - 16) {}

/-- The state with a channel's windows changed. -/
def State.modSensor (s : State) (c : Nat) (f : SensorRun → SensorRun) : State :=
  s.modAdc fun a => { a with sensors := a.sensors.set (c - 16) (f (a.sensors.getD (c - 16) {})) }

/-- A temperature reading passes the windows of R456: VALUE, FAULT and SUSPECT as the channel reports them. tie is a reading taken on the
edge on which the running window ends (R467). A channel that never read plausible has no last plausible VALUE: a free value. -/
def State.sensorReading (s : State) (c v : Nat) (ok tie : Bool) : (Nat × Bool × Bool) × State :=
  let r := s.sensor c
  if !s.sensorFault c then
    if ok then
      let s := if tie && r.badRun then s.count F.ADC_COINCIDE_COUNT 1 else s
      ((v, false, false), s.modSensor c fun r => { r with last := some v, badRun := false })
    else
      let s := s.modSensor c fun r => { r with badRun := true }
      match r.last with
      | some l => ((l, false, true), s)
      | none => let q := s.freeBelow 65536; ((q.1, false, true), q.2)
  else if ok then ((v, true, true), s.modSensor c fun r => { r with last := some v, goodRun := true })
  else
    let s := if tie && r.goodRun then s.count F.ADC_COINCIDE_COUNT 1 else s
    ((hottest, true, false), s.modSensor c fun r => { r with goodRun := false })

/-- The result word (Table 13-9). -/
def resultWord (fault stale suspect : Bool) (slice pass v : Nat) : Word :=
  BitVec.ofNat 32 (2 ^ 31 + 2 ^ 30 * b2n fault + 2 ^ 29 * b2n stale + 2 ^ 28 * b2n suspect + 2 ^ 26 * slice + 65536 * (pass % 256)
    + v % 65536)

/-- The limit window of an entry (R464). -/
def State.checkLimit (s : State) (c lim v : Nat) : State :=
  if lim = 0 ∨ 8 < lim then s else
  let hi := s.rd (F.ADC_LIM_HI (lim - 1))
  let lo := s.rd (F.ADC_LIM_LO (lim - 1))
  let out := if 16 ≤ c ∧ c ≤ 28 then decide (sext 16 v < sext 16 lo) || decide (sext 16 hi < sext 16 v)
    else decide (v < lo) || decide (hi < v)
  if out then (s.wr F.ADC_LIM_STAT_OUT (orBit (s.rd F.ADC_LIM_STAT_OUT) (lim - 1))).raise 248 else s

/-- A new result of a loop channel has arrived (R567, R576). -/
def State.loopFresh (s : State) (c : Nat) : State :=
  if 35 ≤ c ∧ c ≤ 38 then
    let k := (c - 35) % 2
    { s with loops := s.loops.set k { s.loops.getD k {} with fresh := true } }
  else s

/-- Convert an entry of a pass and write its result (R446, R452-R456, R463, R464). -/
def State.convertEntry (s : State) (x : Nat) (p : AdcPass) (raw raw2 : Nat) (tie : Bool) : State :=
  let e := (p.ents.getD p.idx 0).toNat
  let c := bits e 5 0
  let a := s.corrected x raw
  let b := a.2.corrected x raw2
  let r : (Nat × Bool × Bool) × State :=
    if 16 ≤ c ∧ c ≤ 28 then
      let t := tempReading p.sensors c a.1 b.1
      b.2.sensorReading c t.1 t.2 tie
    else
      let v := a.2.chanValue c (bits e 8 6) a.1
      ((v.1, false, false), v.2)
  let pass := r.2.rd (F.ADC_SL_STAT_PASSES p.list)
  let s := r.2.setWord (Reg.ADC_RES p.list p.idx) (resultWord r.1.2.1 false r.1.2.2 x pass r.1.1)
  let s := if c < 40 then s.setWord (Reg.ADC_CH c) (resultWord r.1.2.1 false r.1.2.2 x (p.list % 8) r.1.1) else s
  (s.checkLimit c (bits e 19 16) r.1.1).loopFresh c

/-- The results an aborted pass has written are STALE (R462). -/
def State.markStale (s : State) (p : AdcPass) : State :=
  (List.range p.idx).foldl (fun s j =>
    let c := bits (p.ents.getD j 0).toNat 5 0
    let s := s.wr (F.ADC_RES_STALE p.list j) 1
    if c < 40 ∧ bits (s.rd (F.ADC_CH_PASS c)) 2 0 = p.list then s.wr (F.ADC_CH_STALE c) 1 else s) s

/-- A pass goes past the entry it has converted (R462): a RESTART takes effect at this channel boundary. -/
def State.advancePass (s : State) (x : Nat) (p : AdcPass) : State :=
  if p.restart then
    let s := (s.markStale { p with idx := p.idx + 1 }).raise 245
    s.modSlc x fun c => { c with pass := some (s.newPass p.list) }
  else s.modSlc x fun c => { c with pass := some { p with idx := p.idx + 1, held := false } }

/-- ADC_ENTRY_DONE (R462, R463, R472): slice x completes the entry it converts; raw is the average, for a remote diode at 10 µA and raw2 at
100 µA. In a freeze the conversion in progress completes and the pass stays where it is. -/
def execAdcEntryDone (x : Fin 3) (raw raw2 : BitVec 16) (tie : Bool) (s : State) : Res :=
  .next (match (s.slc x).pass with
    | none => s
    | some p =>
      if !s.domOn domAREF || !s.slcOn x || p.held || p.len ≤ p.idx then s else
      let s := s.convertEntry x p raw.toNat raw2.toNat tie
      if s.frozen domAREF then s.modSlc x fun c => { c with pass := some { p with held := true } } else s.advancePass x p)

/-- A freeze is released: the passes whose conversion completed in it go on (R472). -/
def State.adcRelease (s : State) : State :=
  (List.range 3).foldl (fun s x => match (s.slc x).pass with
    | some p => if p.held then s.advancePass x p else s
    | none => s) s

/-- The channels the slices convert at this moment; a freeze holds them (R472). -/
def State.converting (s : State) : List Nat :=
  (List.range 3).filterMap fun x => (s.slc x).pass.bind fun p =>
    if s.slcOn x && decide (p.idx < p.len) then some (bits (p.ents.getD p.idx 0).toNat 5 0) else none

/-- Does TH_EXC carry the reference: is a thermistor entry converting (R453)? -/
def State.thExc (s : State) : Bool := s.converting.any fun c => decide (16 ≤ c) && decide (c < 24)

/-- Does a current flow through a remote diode pair (R455)? -/
def State.diodeDriven (s : State) (n : Nat) : Bool := s.converting.any (· == 24 + n)

/-- The outgoing slice of a swap reaches relief (R450). -/
def State.finishSwap (s : State) (x : Nat) : State :=
  ((s.startCal x).wr F.ADC_STAT_LAST_SWAP (4 * x + s.adc.incoming)).countWrap F.ADC_STAT_SWAPS 1 |>.raise 246

/-- A slice whose pass has ended is idle, or in relief when it was leaving. -/
def State.passOver (s : State) (x : Nat) : State :=
  if s.slcState x = 1 then (s.modSlc x fun c => { c with pass := none }).finishSwap x else s.slcIdleNow x

/-- ADC_PASS_DONE (R463, R460): the pass of slice x has completed its last entry. A write of ADC_SL_CFG during the pass takes effect here (R459). -/
def execAdcPassDone (x : Fin 3) (s : State) : Res :=
  .next (match (s.slc x).pass with
    | none => s
    | some p =>
      if !s.live domAREF || !s.slcOn x || p.list == 8 || decide (p.idx < p.len) then s else
      let k := p.list
      let s := ((s.clr (F.ADC_SL_STAT_RUNNING k)).countWrap (F.ADC_SL_STAT_PASSES k) 1).raise (236 + k)
      let s := if !s.on (F.ADC_SL_CFG_EN k) then s.setPending k false
        else if (F.ADC_SL_CFG_MODE k).has p.cfg || s.on (F.ADC_SL_CFG_MODE k) then s.setPending k true else s
      s.passOver x)

/-- A slice is older than another for a swap (R449): values from the baseline first, then the earlier calibration, then the letter. -/
def State.olderSlice (s : State) (x y : Nat) : Bool := decide ((s.slc x).age < (s.slc y).age)

/-- ADC_SWAP (R449, R450): a swap falls due: at once before ALL_CAL, else ROT_MS after the last one. -/
def execAdcSwap (s : State) : Res :=
  .next (if !s.live domAREF then s else
    match (List.range 3).find? (fun x => s.slcOn x && s.slcState x == 4) with
    | none => s
    | some inc =>
      let outgoing := (List.range 3).foldl (fun b x =>
        if !s.slcOn x || s.slcState x != 0 then b else
        match b with | none => some x | some y => if s.olderSlice x y then some x else some y) none
      match outgoing with
      | none => s.goLive inc
      | some out =>
        let s := (s.goLive inc).modAdc fun a => { a with incoming := inc }
        match (s.slc out).pass with
        | some _ => s.wr (F.ADC_SLICE_STATE out) 1
        | none => s.finishSwap out)

/-- OFFSET and GAIN of a relief calibration from the sums of 512 codes of VR_LO and VR_HI (R446): exact numerators over 256 and over the
span; none when the span is not positive. -/
def State.fitCal (s : State) (lo hi : Nat) : Option ((Int × Int) × State) :=
  if hi ≤ lo then none else
  let o := s.roundFree (9 * (lo : Int) - hi) 256
  let g := o.2.roundFree (1677721600000 - 1000000 * ((hi : Int) - lo)) (hi - lo)
  some ((o.1, g.1), g.2)

/-- Does a fit pass (R446, R447)? vz is the sum of 512 codes of VR_Z. -/
def calPasses (rec0 : List Nat) (off gain : Int) (vz : Nat) : Bool :=
  let w0 := natAt rec0 0
  let w1 := natAt rec0 1
  let tolG : Int := (orDefault (bits w1 31 16) 3000 : Nat)
  let tolO : Int := (orDefault (bits w1 15 0) 64 : Nat)
  let dz : Int := (vz : Int) - 32 * off
  decide (-32768 ≤ off) && decide (off ≤ 32767) && decide (-32768 ≤ gain) && decide (gain ≤ 32767)
    && decide (((off - sext 16 (bits w0 15 0)).natAbs : Int) ≤ tolO) && decide (((gain - sext 16 (bits w0 31 16)).natAbs : Int) ≤ tolG)
    && decide (dz.natAbs ≤ 1024)

/-- A calibration passes: the slice takes the new values and becomes ready, after a Survey that is due (R447, R465). -/
def State.calPassed (s : State) (x : Nat) (off gain : Int) : State :=
  let s := (s.setCorr x (wrapInt 16 gain) (wrapInt 16 off)).modSlc x fun c =>
    { c with age := s.adc.serial + 1, bad := false, passed := true }
  let s := s.modAdc fun a => { a with serial := a.serial + 1 }
  let s := s.wrB F.ADC_STAT_ALL_CAL ((List.range 3).all fun y => (s.slc y).passed)
  let s := s.wr (F.ADC_SLICE_STATE x) 4
  if s.goodSlices.length < 3 then s.adcRoles
  else if s.adc.survey.isSome && !s.surveyPass then
    ((s.clr F.ADC_STAT_NO_RELIEF).wr (F.ADC_SLICE_STATE x) 3).modAdc fun a => { a with surveyAt := s.cal.count }
  else s.clr F.ADC_STAT_NO_RELIEF

/-- A calibration fails: the slice is bad (R447). -/
def State.calFailed (s : State) (x : Nat) : State :=
  (((s.wr (F.ADC_SLICE_STATE x) 5).modSlc x fun c => { c with bad := true }).count (F.ADC_SLICE_FAILS x) 1).raise 250 |>.adcRoles

/-- RELIEF_CALIBRATION_DONE (R446, R447): the sums of 512 codes of VR_Z, VR_LO and VR_HI. -/
def execReliefCalibrationDone (x : Fin 3) (vz lo hi : Nat) (s : State) : Res :=
  .next (if !s.live domAREF || !s.slcOn x || s.slcState x != 2 then s else
    match s.fitCal lo hi with
    | none => s.calFailed x
    | some f => if calPasses (f.2.slc x).rec0 f.1.1 f.1.2 vz then f.2.calPassed x f.1.1 f.1.2 else f.2.calFailed x)

/-- BAD_SLICE_RETRY (R447): a ROT period has passed and a bad slice is calibrated again. -/
def execBadSliceRetry (x : Fin 3) (s : State) : Res :=
  .next (if s.live domAREF && s.slcOn x && s.slcState x == 5 then s.startCal x else s)

/-- The channels a Survey converts, with SUB (R465). -/
def surveyChannels : List (Nat × Nat) :=
  [(28, 0), (29, 0), (30, 0), (31, 0), (32, 0), (33, 0), (34, 0), (34, 1), (34, 2), (34, 3), (34, 4), (37, 0), (38, 0), (39, 0)]

/-- The VALUEs of a Survey's conversions on slice x. -/
def State.surveyValues (s : State) (x : Nat) : List (Nat × Nat) → List (BitVec 16) → List Nat × State
  | [], _ => ([], s)
  | (c, sub) :: r, raws =>
    let a := s.corrected x (raws.headD 0).toNat
    let v := if c = 28 then (tempValue (Config.dieTemp a.1), a.2) else a.2.chanValue c sub a.1
    let t := v.2.surveyValues x r raws.tail
    (v.1 :: t.1, t.2)

/-- Two halfwords as a word. -/
def halves (hi lo : Nat) : Nat := 65536 * (hi % 65536) + lo % 65536

/-- The value of a field of a domain that may be off, where it reads 0. -/
def State.ifOn (s : State) (d v : Nat) : Nat := if s.domOn d then v else 0

/-- Slice role of Survey word 13. -/
def State.role (s : State) (x : Nat) : Nat :=
  if !s.slcOn x then 3 else if (s.slc x).bad then 2 else if s.slcState x ≤ 1 then 0 else 1

/-- The Survey record's words 0 to 14 (Table 13-3). -/
def State.surveyWords (s : State) (cause : Nat) (v : List Nat) : List Nat :=
  let n (i : Nat) : Nat := natAt v i
  let partialRec := [domLAMPS, domLOOP, domKBD, domLAMPC, domHOST, domFAN].any fun d => !s.domOn d
  let tach := (List.range 8).foldl (fun t k => if s.on (F.FAN_RPM_TACH_SEEN k) then orBit t k else t) 0
  [65536 * (s.adc.surveySeq % 65536) + 256 * cause + b2n partialRec,
    s.adc.surveyAt % 2 ^ 32, s.adc.surveyAt / 2 ^ 32,
    halves (n 2) (n 3), halves (n 10) (n 1), halves (n 7) (n 6), halves (n 9) (n 8), halves (n 5) (n 4),
    halves (s.ifOn domLAMPS (n 13)) (n 0), halves (s.ifOn domLOOP (n 12)) (s.ifOn domLOOP (n 11)),
    halves (s.rd F.RSV_CAP_UF) (s.rd F.RSV_LOAD_MA),
    halves (s.ifOn domKBD (s.rd F.KBD_SETTLE_MAX_RISE)) (s.ifOn domLAMPC (s.rd F.LCH_RT_MAX_RT)),
    s.ifOn domHOST (bits (s.word Reg.HST_LINK).toNat 31 21),
    256 * s.ifOn domFAN tach + s.role 0 + 4 * s.role 1 + 16 * s.role 2,
    256 * bits (s.rd F.ADC_FAULT_LO_FAULT) 27 24 + bits (s.rd F.ADC_FAULT_LO_FAULT) 23 16]

/-- Write the Survey record whole (R465), with its CRC-32. -/
def State.writeSurvey (s : State) (cause : Nat) (v : List Nat) : State :=
  let s := s.modAdc fun a => { a with surveySeq := (a.surveySeq + 1) % 65536, survey := none }
  let ws := s.surveyWords cause v
  let all := ws ++ [crc32 (ws.flatMap (leBytes 4))]
  let s := (List.range 16).foldl (fun s i => s.setWord (Reg.ADC_SURVEY i) (BitVec.ofNat 32 (natAt all i))) s
  (s.clr F.ADC_STAT_SURVEYING).raise 249

/-- SURVEY_DONE (R465): the averages of the Survey's conversions, in the order of its channels. -/
def execSurveyDone (raws : List (BitVec 16)) (s : State) : Res :=
  .next (match s.adc.survey with
    | none => s
    | some cause =>
      if !s.live domAREF then s else
      match (List.range 3).find? (fun x => s.slcOn x && s.slcState x == 3) with
      | some x =>
        let v := s.surveyValues x surveyChannels raws
        (v.2.wr (F.ADC_SLICE_STATE x) 4).writeSurvey cause v.1
      | none =>
        match (List.range 3).find? (fun x => s.slcOn x && (match (s.slc x).pass with | some p => p.list == 8 | none => false)) with
        | some x =>
          let v := s.surveyValues x surveyChannels raws
          (v.2.passOver x).writeSurvey cause v.1
        | none => s)

/-- The reading of a channel that FAULT has just changed for, in ADC_CH. -/
def State.refreshChan (s : State) (c v : Nat) (fault : Bool) : State :=
  ((s.wr (F.ADC_CH_VALUE c) v).wrB (F.ADC_CH_FAULT c) fault).wr (F.ADC_CH_SUSPECT c) 0

/-- SENSOR_FAULT_SET (R456): a temperature channel has read implausible for FAULT_MS. -/
def execSensorFaultSet (c : Fin 12) (s : State) : Res :=
  .next (
    let ch := 16 + c.val
    if s.live domAREF && (s.sensor ch).badRun && !s.sensorFault ch then
      ((s.setSensorFault ch true).modSensor ch fun r => { r with badRun := false, goodRun := false }).refreshChan ch hottest true
    else s)

/-- SENSOR_FAULT_CLEAR (R456): it has read plausible for FAULT_MS. -/
def execSensorFaultClear (c : Fin 12) (s : State) : Res :=
  .next (
    let ch := 16 + c.val
    if s.live domAREF && (s.sensor ch).goodRun && s.sensorFault ch then
      ((s.setSensorFault ch false).modSensor ch fun r => { r with badRun := false, goodRun := false }).refreshChan ch
        (((s.sensor ch).last).getD 0) false
    else s)

/-- What a consumer sees of a temperature channel (R456, R457): VALUE and FAULT. -/
def State.tempSeen (s : State) (c : Nat) : Nat × Bool :=
  if !s.domOn domAREF then (hottest, true)
  else if !s.on (F.ADC_CH_VALID c) then (hottest, false)
  else (s.rd (F.ADC_CH_VALUE c), s.on (F.ADC_CH_FAULT c))

/-- A write of ADC_SL_CFG: an enabled continuous list is pending (R460). During a pass it takes effect from the next one (R459). -/
def State.slCfgWrite (s : State) (k : Nat) (w : Word) : State :=
  let s := s.accWrite (Reg.ADC_SL_CFG k) w
  if s.on (F.ADC_SL_STAT_RUNNING k) then s
  else if !s.on (F.ADC_SL_CFG_EN k) then s.setPending k false
  else if s.on (F.ADC_SL_CFG_MODE k) then s.setPending k true else s

/-- AREF starts after its power-up or reset (R470): roles, baseline values, the first Survey, continuous lists pending, and the hottest code in every
temperature channel (R457). -/
def State.adcStart (s : State) : State :=
  let s : State := { s with adc := { aref := s.record 0x0100 } }
  let s := (List.range 3).foldl (fun s x => if s.slcOn x then s.baseline x else s) s
  let s := if s.goodSlices.length = 3 then s.startCal 2 else s.adcRoles
  let s := (List.range 8).foldl (fun s k =>
    if s.on (F.ADC_SL_CFG_EN k) && s.on (F.ADC_SL_CFG_MODE k) then s.setPending k true else s) s
  let s := (List.range 13).foldl (fun s i => s.wr (F.ADC_CH_VALUE (16 + i)) hottest) s
  (s.surveyDue 0).level 247 false

/-- A slice is switched off or reset (R469): its pass is lost, its list is pending again, and the others take the roles. -/
def State.slcOff (s : State) (x : Nat) : State :=
  let s := match (s.slc x).pass with
    | some p => if p.list = 8 then s else (s.clr (F.ADC_SL_STAT_RUNNING p.list)).setPending p.list true
    | none => s
  let s := (s.setWord (Reg.ADC_SLICE x) 0).setWord (Reg.ADC_CORR x) 0
  (s.modSlc x fun c => { passed := c.passed }).adcRolesOf (s.goodSlices.filter (· != x))

/-- A slice starts while AREF is on (R445): beside two live ones it starts in relief. -/
def State.slcStart (s : State) (x : Nat) : State :=
  let s := (s.modSlc x fun c => { passed := c.passed }).baseline x
  let others := s.goodSlices.filter fun y => y != x && decide (s.slcState y ≤ 1)
  let s := if others.length = 2 then s.startCal x else s.goLive x
  s.wrB F.ADC_STAT_NO_RELIEF (decide (s.goodSlices.length < 3))

end Sys2Proof.Machine
end

