-- ==== Sys2Proof/Machine/Teller.lean ====
section
/-! DEFINITION. Tellers (chapter 10): windows in Teller RAM, rights, the request queues of the cores, answers, deadlines and fallback,
and what eSPI I/O, memory, OOB and the console do with them. -/

namespace Sys2Proof.Machine

/-- The tellers of the TELLERS till. -/
def State.tellers (s : State) : List TellerEntry := tellerEntries (s.tillBody 0x030)

/-- The teller of a number. -/
def State.tellerOf (s : State) (n : Nat) : Option TellerEntry := s.tellers.find? fun t => t.teller == n

/-- The one teller of a kind other than firmware and SCR. -/
def State.autoteller (s : State) (kind : Nat) : Option TellerEntry := s.tellers.find? fun t => t.kind == kind

/-- The address of an offset of a teller's window (R358). -/
def TellerEntry.at (t : TellerEntry) (off : Nat) : Nat := tellerRam + t.ramOff + off

/-- A byte of a teller's window. -/
def State.winByte (s : State) (t : TellerEntry) (off : Nat) : Nat := (memGet s.mem (t.at off)).toNat

/-- Write a byte of a teller's window. -/
def State.setWin (s : State) (t : TellerEntry) (off v : Nat) : State := s.store (t.at off) (leBytes 1 v)

/-- Does the target answer (R382): HOST runs and the link is live? -/
def State.linkLive (s : State) : Bool := s.live domHOST && s.on F.HST_STATUS_LIVE

/-- HST_STATUS.LIVE brought up to date: HOST on, t_READY reached and eSPI_RESET_N high (R382, R30, R43). -/
def State.updateLive (s : State) : State :=
  if !s.domOn domHOST then s else
  s.wrB F.HST_STATUS_LIVE (s.ready && s.seq.espiHigh) |>.wrB F.HST_STATUS_ESPI_RESET (!s.seq.espiHigh)

/-- A denied host access (R348). -/
def State.deny (s : State) (teller off : Nat) (write : Bool) : State :=
  (s.wr F.TLR_DENY_LOG_VALID 1 |>.wrB F.TLR_DENY_LOG_WRITE write |>.wr F.TLR_DENY_LOG_TELLER teller
    |>.wr F.TLR_DENY_LOG_OFFSET off |>.count F.TLR_COUNTS_DENY 1).raise 111

/-- A deadline passed (R362, R366). -/
def State.tardy (s : State) (teller : Nat) : State :=
  (s.wr F.TLR_TARDY_LOG_VALID 1 |>.wr F.TLR_TARDY_LOG_TELLER teller |>.count F.TLR_COUNTS_TARDY 1).raise 110

/-- Does a teller allow a host read (bit 0) or write (bit 1)? -/
def TellerEntry.allows (t : TellerEntry) (write : Bool) : Bool := bit t.rights (b2n write)

/-- The request queue of an owner, 1 for core A and 2 for core B. -/
def State.tlrQueue (s : State) (owner : Nat) : List TlrReq := if owner = 2 then s.hst.queueB else s.hst.queueA

/-- Replace the request queue of an owner. -/
def State.setTlrQueue (s : State) (owner : Nat) (q : List TlrReq) : State :=
  if owner = 2 then { s with hst := { s.hst with queueB := q } } else { s with hst := { s.hst with queueA := q } }

/-- SIZE of Table 10-17. -/
def sizeCode (bytes : Nat) : Nat := if bytes ≤ 1 then 0 else if bytes = 2 then 1 else 2

/-- The word TLR_REQ_x shows for a queue. -/
def reqWord (q : List TlrReq) : Word :=
  match q with
  | [] => 0
  | r :: _ => BitVec.ofNat 32 (2 ^ 31 + b2n r.write * 2 ^ 30 + b2n r.late * 2 ^ 29 + sizeCode r.bytes * 2 ^ 27
      + r.binding % 8 * 2 ^ 24 + r.teller % 128 * 2 ^ 16 + r.offset % 65536)

/-- The queues as TLR_REQ_x, TLR_REQ_DATA_x, HST_STATUS and HST_REQ_x show them. -/
def State.refreshQueues (s : State) : State :=
  let a := s.hst.queueA
  let b := s.hst.queueB
  let dat (q : List TlrReq) : Word := match q with | [] => 0 | r :: _ => BitVec.ofNat 32 r.data
  ((s.setWord Reg.TLR_REQ_A (reqWord a) |>.setWord Reg.TLR_REQ_B (reqWord b) |>.setWord Reg.TLR_REQ_DATA_A (dat a)
    |>.setWord Reg.TLR_REQ_DATA_B (dat b) |>.wr F.HST_STATUS_Q_A a.length |>.wr F.HST_STATUS_Q_B b.length).level 108
      (!a.isEmpty)).level 109 (!b.isEmpty)

/-- A request joins its owner's queue, or waits at its source while the queue is full (R360). -/
def State.enqueue (s : State) (r : TlrReq) : State :=
  if (s.tlrQueue r.owner).length < 4 ∧ !(s.hst.held.any fun h => h.owner == r.owner) then
    (s.setTlrQueue r.owner (s.tlrQueue r.owner ++ [r])).refreshQueues
  else { s with hst := { s.hst with held := s.hst.held ++ [r] } }

/-- Requests that wait at their source join a queue while it has room, in the order of their arrival (R360). -/
def State.fillQueue (s : State) (owner : Nat) : State :=
  let q := s.tlrQueue owner
  let mine := s.hst.held.filter fun h => h.owner == owner
  let others := s.hst.held.filter fun h => h.owner != owner
  let room := 4 - q.length
  ({ s with hst := { s.hst with held := mine.drop room ++ others } } : State).setTlrQueue owner (q ++ mine.take room) |>.refreshQueues

/-- The head request leaves a queue, and the next one that waited joins it. -/
def State.dequeue (s : State) (owner : Nat) : State := (s.setTlrQueue owner (s.tlrQueue owner).tail).fillQueue owner

/-- Does channel 0 report posted writes as free: no core's queue is full (R350)? -/
def State.postedFree (s : State) : Bool := decide (s.hst.queueA.length < 4) && decide (s.hst.queueB.length < 4)

/-- The device signals alert to the host (R351, R361). It ends with the host's next transaction, as the eSPI base specification has it (log 115). -/
def State.espiAlert (s : State) : State := { s with hst := { s.hst with alert := true } }

/-- The host has the bus: alert is no longer signalled. -/
def State.alertSeen (s : State) : State := { s with hst := { s.hst with alert := false } }

/-- Bytes a read of n takes in entries of 4, 2 and 1 bytes. -/
def chunks : Nat → Nat → List Nat
  | 0, _ => []
  | k + 1, n => if n = 0 then [] else if n ≥ 4 then 4 :: chunks k (n - 4) else if n ≥ 2 then 2 :: chunks k (n - 2) else [1]

/-- The entries of an access to a firmware teller at an offset. -/
def tlrEntries (t : TellerEntry) (write posted : Bool) (port off : Nat) (data : List Byte) (n : Nat) : List TlrReq :=
  let cs := chunks 64 n
  (List.range cs.length).map fun i =>
    let o := (cs.take i).sum
    let k := natAt cs i
    ⟨t.teller, t.owner, t.binding, write, posted, k, off + o, if write then ofLe (slice data o k) else 0, t.fallback, port, false, false⟩

/-- What two-wire port p keeps beside its registers. -/
def State.twp (s : State) (p : Nat) : TwPort := s.twb.ports.getD p {}

/-- The state with a port changed. -/
def State.modTw (s : State) (p : Nat) (f : TwPort → TwPort) : State :=
  { s with twb := { s.twb with ports := s.twb.ports.set p (f (s.twb.ports.getD p {})) } }

/-- The teller bound to a port and address (R74, R483): 0x08 is none while the notify receiver has it. -/
def State.twTeller (s : State) (p addr : Nat) : Option TellerEntry :=
  if addr = 8 ∧ s.on (F.TWB_CFG_HN_EN p) then none
  else s.tellers.find? fun t => t.binding == 3 && bits t.addr 2 0 == p && bits t.addr 14 8 == addr

/-- The offset a teller's next two-wire read continues from (R484). -/
def State.twOff (s : State) (t : TellerEntry) : Nat := match s.twb.offs.find? (fun o => o.1 == t.teller) with | some o => o.2 | none => 0

/-- Replace it. -/
def State.setTwOff (s : State) (t : TellerEntry) (o : Nat) : State :=
  { s with twb := { s.twb with offs := (t.teller, o % 256) :: s.twb.offs.filter (fun x => x.1 != t.teller) } }

/-- A target transaction has completed (R484): TWB_TGT and TWn_TARGET. all is its bytes from the first START on. -/
def State.targetDone (s : State) (p addr : Nat) (read sr : Bool) (all : List Byte) : State :=
  let s := ((s.wr (F.TWB_TGT_LAST_ADDR p) addr).wrB (F.TWB_TGT_READ p) read).wr (F.TWB_TGT_CRC p) (crc8 all.dropLast)
  (s.modTw p fun t => { t with pec := if sr then some all else none, tgt := none }).raise (254 + 3 * p)

/-- A transaction with a firmware teller past one byte: a read byte joins the bytes on the bus. -/
def TwTarget.past (g : TwTarget) (b : Byte) : TwTarget :=
  if g.read then { g with left := g.left - 1, off := g.off + 1, all := g.all ++ [b] } else { g with todo := g.todo.tail, off := g.off + 1 }

/-- The target's next byte (R363, R484): a request that holds SCL low; a byte the teller does not take reads 0xFF or is dropped. The transaction ends
after the last. sent is what it has put on the bus since the command. fuel is the number of bytes. -/
def State.twNext (s : State) (p : Nat) (g : TwTarget) : Nat → List Byte → State
  | 0, sent => (s.targetDone p g.addr g.read g.sr g.all).reply (.bytes 0 sent)
  | fuel + 1, sent =>
    let a := g.off % 256
    match s.twTeller p g.addr with
    | some t =>
      if t.allows (!g.read) && decide (a < t.span) then
        let s := (s.setTwOff t g.off).modTw p fun x => { x with tgt := some g }
        (((tlrEntries t (!g.read) false p a (g.todo.take 1) 1).foldl State.enqueue s)).reply (.bytes 0 sent)
      else (s.setTwOff t (g.off + 1)).twNext p (g.past 0xFF) fuel (if g.read then sent ++ [0xFF] else sent)
    | none => s.twNext p (g.past 0xFF) fuel (if g.read then sent ++ [0xFF] else sent)

/-- The bytes of a transaction still to come. -/
def TwTarget.rest (g : TwTarget) : Nat := if g.read then g.left else g.todo.length

/-- A port's request is answered: SCL is released, and the transaction goes on with the byte (R361). -/
def State.twAnswered (s : State) (p : Nat) (b : Byte) : State :=
  match (s.twp p).tgt with
  | none => s
  | some g =>
    let s := match s.twTeller p g.addr with | some t => s.setTwOff t (g.off + 1) | none => s
    s.twNext p (g.past b) (g.rest - 1) (if g.read then [b] else [])

/-- The number of no port: a request whose transaction is forgotten. -/
abbrev noPort : Nat := 8

/-- A port forgets the transaction its target is in; a request of it stays with its owner (R486). -/
def State.twForget (s : State) (p : Nat) : State :=
  let f (r : TlrReq) : TlrReq := if r.binding = 3 ∧ r.port = p then { r with port := noPort } else r
  let s : State := { s with hst := { s.hst with queueA := s.hst.queueA.map f, queueB := s.hst.queueB.map f, held := s.hst.held.map f } }
  s.modTw p fun t => { t with tgt := none, pec := none }

/-- Completion codes of an eSPI response as this model reports them. -/
abbrev espiOk : Nat := 0
/-- Unsuccessful completion (R347). -/
abbrev espiUnsuccessful : Nat := 1
/-- DEFER (R350). -/
abbrev espiDefer : Nat := 2
/-- Non-fatal error (R350). -/
abbrev espiError : Nat := 3
/-- Response to a CRC error (Table 10-13). -/
abbrev espiCrc : Nat := 4

/-- The host side of a request is completed with some bytes: the deferred eSPI completion is posted once every entry of it has been
answered, with alert, and a two-wire port is released with its byte (R361, R362). -/
def State.completeHost (s : State) (r : TlrReq) (b : List Byte) : State :=
  if r.binding = 3 then s.twAnswered r.port (b.headD 0xFF)
  else if r.posted then s
  else match s.hst.defer with
    | none => s
    | some (left, got) =>
      let got := if r.write then got else got ++ b
      if left ≤ 1 then
        (({ s with hst := { s.hst with defer := none } } : State).clr F.HST_STATUS_DEFERRED).espiAlert.reply
          (.bytes espiOk (got ++ List.replicate s.hst.deferPad 0xFF))
      else { s with hst := { s.hst with defer := some (left - 1, got) } }

/-- A request's deadline passes (R362): FALLBACK to the host, LATE on the entry. -/
def State.fallBack (s : State) (r : TlrReq) : State := (s.completeHost r (List.replicate r.bytes (BitVec.ofNat 8 r.fallback))).tardy r.teller

/-- The entry after its deadline. -/
def lateReq (r : TlrReq) : TlrReq := { r with late := true, done := true }

/-- Can this request's deadline still pass? -/
def TlrReq.waits (r : TlrReq) : Bool := !r.done && !r.posted

/-- Entry k of an owner's queue passes its deadline. -/
def State.queuedDeadline (s : State) (owner k : Nat) : State :=
  match (s.tlrQueue owner)[k]? with
  | none => s
  | some r => if !r.waits then s else
    ((s.setTlrQueue owner ((s.tlrQueue owner).set k (lateReq r))).fallBack r).refreshQueues

/-- Request k that waits for a full queue passes its deadline. -/
def State.heldDeadline (s : State) (k : Nat) : State :=
  match s.hst.held[k]? with
  | none => s
  | some r => if !r.waits then s else
    ({ s with hst := { s.hst with held := s.hst.held.set k (lateReq r) } } : State).fallBack r

/-- A write of TLR_RSP_x by its owning core completes and removes the head request (R361); anything else sets STRAY. tie says that
the write lands on the edge on which the deadline ends, and is taken (R377). -/
def State.tlrRspWrite (s : State) (who : Agent) (c : Core) (w : Word) (tie : Bool) : State :=
  let owner := c.num + 1
  match s.tlrQueue owner with
  | [] => s.setOn F.TLR_STATUS_STRAY
  | r :: _ =>
    if !who.isCore c then s.setOn F.TLR_STATUS_STRAY
    else if !r.waits then s.dequeue owner
    else
      let s := if tie then s.count F.HST_COINCIDE_COUNT 1 else s
      (s.dequeue owner).completeHost r (leBytes r.bytes w.toNat)

/-- TELLER_RESPONSE (R361). -/
def execTellerResponse (who : Agent) (c : Core) (w : Word) (tie : Bool) (s : State) : Res :=
  .next (s.access who domHOST (match c with | .a => Reg.TLR_RSP_A | .b => Reg.TLR_RSP_B) w false fun s => s.tlrRspWrite who c w tie)

/-- A non-posted request to a firmware teller is deferred (R350); a read's last pad bytes lie outside the window and read 0xFF (R347). -/
def State.deferTo (s : State) (t : TellerEntry) (write : Bool) (off : Nat) (data : List Byte) (n pad : Nat) : State :=
  let rs := tlrEntries t write false 0 off data n
  let s := (rs.foldl State.enqueue s).setOn F.HST_STATUS_DEFERRED
  ({ s with hst := { s.hst with defer := some (rs.length, []), deferPad := pad } } : State).reply (.bytes espiDefer [])

/-- The two-wire requests that hold SCL, in an owner's queue or waiting for it, are released with FALLBACK. -/
def State.releasePort (s : State) (p : Nat) : State :=
  let mine (r : TlrReq) : Bool := r.binding == 3 && r.port == p && r.waits
  let at1 := s.hst.queueA.findIdx? mine
  let at2 := s.hst.queueB.findIdx? mine
  let at3 := s.hst.held.findIdx? mine
  match at1, at2, at3 with
  | some k, _, _ => s.queuedDeadline 1 k
  | none, some k, _ => s.queuedDeadline 2 k
  | none, none, some k => s.heldDeadline k
  | none, none, none => s

/-- A TELLERS switch releases every two-wire request with FALLBACK (R379): a port has one at a time. -/
def State.releaseTwoWire (s : State) : State := (List.range 6).foldl State.releasePort s

/-- An eSPI reset discards the eSPI requests that are queued or deferred; others continue, and those that waited join the queues (R380). -/
def State.dropEspi (s : State) : State :=
  let keep (q : List TlrReq) : List TlrReq := q.filter fun r => r.binding != 0 && r.binding != 1
  let h := { s.hst with queueA := keep s.hst.queueA, queueB := keep s.hst.queueB, held := keep s.hst.held, defer := none }
  ((({ s with hst := h } : State).clr F.HST_STATUS_DEFERRED).fillQueue 1).fillQueue 2

/-- Bytes of an SCR window or of RAM behind a teller, 0xFF beyond SPAN (R356, R375). -/
def State.scrRead (s : State) (t : TellerEntry) (off n : Nat) : List Byte :=
  (List.range n).map fun i => if off + i < t.span then memGet s.mem (t.at (off + i)) else 0xFF

/-- Write bytes of an SCR window; bytes beyond SPAN are dropped. -/
def State.scrWrite (s : State) (t : TellerEntry) (off : Nat) (data : List Byte) : State :=
  s.store (t.at off) (data.take (t.span - off))

/-- The KBC or ECI byte firmware holds passes its deadline (R366): IBF clears by the given action, LATE is set. -/
def State.fwLate (s : State) (kind : Nat) (late pending : Fld) (act : State → State) : State :=
  if !s.on pending then s else
  let n := match s.autoteller kind with | some t => t.teller | none => 0
  ((act s).setOn late).tardy n

/-- The receive and transmit areas and HST_OOB_STAT (R355, R357). -/
def State.refreshOob (s : State) : State :=
  let n := s.hst.oobRx.length
  s.wr F.HST_OOB_STAT_STATE (n + 4 * b2n (!s.hst.oobTx.isEmpty) + 8 * b2n (decide (n < 2)))

/-- An SCR teller answers an OOB packet (R356). -/
def State.oobScr (s : State) (t : TellerEntry) (pkt : List Byte) : State :=
  let cmd := u8At pkt 1
  let n := u8At pkt 2
  let off := cmd % 128
  if cmd < 128 then
    (if t.allows true then s.scrWrite t off (slice pkt 4 n) else s.deny t.teller off true)
  else if n ≠ 1 then s
  else
    let len := u8At pkt 4
    if len = 0 ∨ 64 < len then s else
    let ok := t.allows false
    let data := if ok then s.scrRead t off len else List.replicate len 0xFF
    let up := leBytes 1 (u8At pkt 3) ++ leBytes 1 cmd ++ leBytes 1 len ++ leBytes 1 (bits t.addr 7 0) ++ data
    let s := if ok then s else s.deny t.teller off false
    ({ s with hst := { s.hst with oobTx := s.hst.oobTx ++ [(none, up)] } } : State).refreshOob

/-- A CRC error on the link (Table 10-13). -/
def State.espiBad (s : State) : State := ((s.setOn F.HST_ERR_CRC).raise 124).reply (.bytes espiCrc [])

/-- PUT_OOB (R343, R348, R355, R356): bad says that the packet's CRC is wrong while CRC checking is on. A packet has at most 64 data bytes. While both
receive buffers are in use the host sends none. -/
def execPutOob (pkt : List Byte) (bad : Bool) (s : State) : Res :=
  .next (
    let s := s.alertSeen
    let pkt := pkt.take 68
    if !s.linkLive then s.reply .none
    else if bad && s.on F.HST_LINK_CRC_EN then s.espiBad
    else if s.hst.oobRx.length = 2 then s.reply .none
    else
      let s := s.reply (.bytes espiOk [])
      match s.tellers.find? (fun t => t.binding == 2 && bits t.addr 7 0 == u8At pkt 0) with
      | none => s.setOn F.HST_ERR_UNCLAIMED
      | some t =>
        if t.kind = 5 then s.oobScr t pkt
        else if !t.allows true then s.deny t.teller 0 true
        else ({ s with hst := { s.hst with oobRx := s.hst.oobRx ++ [pkt] } } : State).refreshOob)

/-- GET_OOB (R356, R357): the host fetches the first upstream packet, and a firmware teller's transmit VALID clears. -/
def execGetOob (s : State) : Res :=
  .next (
    let s := s.alertSeen
    if !s.linkLive then s.reply .none else match s.hst.oobTx with
    | [] => s.reply (.bytes espiOk [])
    | (src, pkt) :: rest =>
      let s := ({ s with hst := { s.hst with oobTx := rest } } : State).refreshOob
      let s := match src.bind s.tellerOf with
        | some t => s.store (t.at 80) (leBytes 4 (clrBit (memWord s.mem (t.at 80)) 8))
        | none => s
      s.reply (.bytes espiOk pkt))

/-- OOB_RX_DELIVER (R357): the oldest buffered packet moves into its teller's receive area while VALID is clear there. -/
def execOobRxDeliver (s : State) : Res :=
  .next (if !s.live domHOST then s else match s.hst.oobRx with
    | [] => s
    | pkt :: rest =>
      match s.tellers.find? (fun t => t.binding == 2 && t.kind == 0 && bits t.addr 7 0 == u8At pkt 0) with
      | none => ({ s with hst := { s.hst with oobRx := rest } } : State).refreshOob
      | some t =>
        if bit (memWord s.mem (t.at 0)) 8 then s else
        let s := s.store (t.at 0) (leBytes 4 (256 + pkt.length % 256) ++ pkt)
        (({ s with hst := { s.hst with oobRx := rest } } : State).refreshOob).raise 116)

/-- The firmware OOB teller a HST_OOB_CTL write names. -/
def State.oobTeller (s : State) (w : Word) : Option TellerEntry :=
  s.tellers.find? fun t => t.binding == 2 && t.kind == 0 && t.teller == F.HST_OOB_CTL_TELLER.of w

/-- SEND of HST_OOB_CTL (R357): the transmit area goes out as an upstream packet. -/
def State.oobSend (s : State) (w : Word) : State :=
  match s.oobTeller w with
  | none => s
  | some t =>
    let len := memWord s.mem (t.at 80)
    if !bit len 8 then s else
    ({ s with hst := { s.hst with
      oobTx := s.hst.oobTx ++ [(some t.teller, s.load (t.at 84) (min (bits len 7 0) 72))] } } : State).refreshOob

/-- RELEASE of HST_OOB_CTL (R357): receive VALID clears. -/
def State.oobRelease (s : State) (w : Word) : State :=
  match s.oobTeller w with
  | none => s
  | some t => s.store (t.at 0) (leBytes 4 (clrBit (memWord s.mem (t.at 0)) 8))

/-- A write of HST_OOB_CTL. -/
def State.hstOobCtlWrite (s : State) (w : Word) : State :=
  let s := if F.HST_OOB_CTL_RELEASE.has w then s.oobRelease w else s
  if F.HST_OOB_CTL_SEND.has w then s.oobSend w else s

/-- A HST_OOB_CTL write with the given bits for a teller. -/
def oobCtl (teller : BitVec 7) (b : Nat) : Word := BitVec.ofNat 32 (teller.toNat * 65536 + b)

/-- OOB_SEND (R357). -/
def execOobSend (who : Agent) (teller : BitVec 7) (s : State) : Res :=
  .next (s.access who domHOST Reg.HST_OOB_CTL (oobCtl teller 2) false fun s => s.hstOobCtlWrite (oobCtl teller 2))

/-- OOB_RELEASE (R357). -/
def execOobRelease (who : Agent) (teller : BitVec 7) (s : State) : Res :=
  .next (s.access who domHOST Reg.HST_OOB_CTL (oobCtl teller 1) false fun s => s.hstOobCtlWrite (oobCtl teller 1))

/-- The firmware teller bound to the console. -/
def State.consoleTeller (s : State) : Option TellerEntry := s.tellers.find? fun t => t.binding == 4

/-- CONSOLE_RX (R363): a byte enters the console ring; a full ring drops it. Its start bit is the CONS wake source (Table 04-6). CONS_RXD needs a
ball (R658). -/
def execConsoleRx (b : Byte) (s : State) : Res :=
  .next (if !s.pinned .consRxd then s else
    let s := s.wakeSource 2
    if !s.live domHOST then s else match s.consoleTeller with
    | none => s
    | some t =>
      let n := t.ramSize - 4
      let wr := memHalf s.mem (t.at 0) % n
      let rd := memHalf s.mem (t.at 2)
      let next := (wr + 1) % n
      if next = rd then s.setOn F.HST_CONS_STAT_OVF
      else ((s.store (t.at (4 + wr)) [b]).store (t.at 0) (leBytes 2 next)).raise 126)

/-- A write of HST_CONS_TX (R363, R376). -/
def State.consTxWrite (s : State) (w : Word) : State :=
  if 16 ≤ s.hst.consTx.length then s.setOn F.HST_CONS_STAT_FULL
  else ({ s with hst := { s.hst with consTx := s.hst.consTx ++ [BitVec.ofNat 8 (F.HST_CONS_TX_BYTE.of w)] } } : State).wr
    F.HST_CONS_STAT_TXQ (s.hst.consTx.length + 1)

/-- CONSOLE_TX (R363, R376). -/
def execConsoleTx (who : Agent) (w : Word) (s : State) : Res :=
  .next (s.access who domHOST Reg.HST_CONS_TX w false fun s => s.consTxWrite w)

/-- CONSOLE_BYTE_SENT (R363): the first byte of the transmit FIFO has gone out. -/
def execConsoleByteSent (s : State) : Res :=
  .next (if !s.live domHOST then s else match s.hst.consTx with
    | [] => s
    | b :: r => (({ s with hst := { s.hst with consTx := r } } : State).wr F.HST_CONS_STAT_TXQ r.length).reply (.bytes 0 [b]))

end Sys2Proof.Machine
end

