-- ==== Sys2Proof/Machine/Kbc.lean ====
section
/-! DEFINITION. The KBC autoteller (R364-R368): the legacy keyboard-controller pair, its commands and the keyboard-device commands,
its output buffer, its key-byte FIFO and its interrupt wires. -/

namespace Sys2Proof.Machine

/-- The KBC teller. -/
def State.kbcTeller (s : State) : Option TellerEntry := s.autoteller 1

/-- A byte of the KBC window (Table 10-5), 0 without a KBC teller. -/
def State.kbcWin (s : State) (off : Nat) : Nat := match s.kbcTeller with | some t => s.winByte t off | none => 0

/-- Write a byte of the KBC window. -/
def State.setKbcWin (s : State) (off v : Nat) : State := match s.kbcTeller with | some t => s.setWin t off v | none => s

/-- The command byte, controller RAM byte 0. -/
def State.cmdByte (s : State) : Nat := s.kbcWin 0

/-- One bit of the KBC status byte (Table 10-6). -/
def State.kbcBit (s : State) (i : Nat) : Bool := bit (s.rd F.HST_KBC_STAT_STATUS) i

/-- Set one bit of the KBC status byte. -/
def State.setKbcBit (s : State) (i : Nat) (v : Bool) : State :=
  s.wr F.HST_KBC_STAT_STATUS (setBits (s.rd F.HST_KBC_STAT_STATUS) i i (b2n v))

/-- The KBC status byte as it reads: SYS copies command byte bit 2. -/
def State.kbcStatus (s : State) : Nat := setBits (s.rd F.HST_KBC_STAT_STATUS) 2 2 (bits s.cmdByte 2 2)

/-- The two indexes of the key-byte FIFO agree where its count is 0 (R364). -/
def State.kbcFifoStart (s : State) : State := if s.kbcTeller.isSome then s.setKbcWin 0x31 (s.kbcWin 0x30) else s

/-- Change the KBC's own state. -/
def State.modKbc (s : State) (f : Kbc → Kbc) : State := { s with hst := { s.hst with kbc := f s.hst.kbc } }

/-- IRQ1 and IRQ12 follow the output buffer and the command byte (R368). -/
def State.kbcIrq (s : State) : State :=
  let i1 := s.kbcBit 0 && !s.kbcBit 5 && bit s.cmdByte 0
  let i12 := s.kbcBit 0 && s.kbcBit 5 && bit s.cmdByte 1
  ((s.wr F.HST_KBC_STAT_IRQ (b2n i1 + 2 * b2n i12)).hostWire 8 i1).hostWire 9 i12

/-- A store of a core that meets the command byte in Teller RAM: SYS and the interrupt wires follow (R368). -/
def State.kbcStored (s : State) (a n : Nat) : State :=
  match s.kbcTeller with
  | some t => if a ≤ t.at 0 ∧ t.at 0 < a + n ∧ s.live domHOST then (s.setKbcBit 2 (bit s.cmdByte 2)).kbcIrq else s
  | none => s

/-- Write the command byte; SYS and the interrupt wires follow. -/
def State.setCmdByte (s : State) (v : Nat) : State :=
  let s := s.setKbcWin 0 v
  (s.setKbcBit 2 (bit v 2)).kbcIrq

/-- Set or clear a bit of the command byte. -/
def State.cmdBit (s : State) (i : Nat) (v : Bool) : State := s.setCmdByte (setBits s.cmdByte i i (b2n v))

/-- A write of controller RAM. -/
def State.kbcRam (s : State) (i v : Nat) : State := if i = 0 then s.setCmdByte v else s.setKbcWin i v

/-- Empty the key-byte FIFO. -/
def State.kbcFifoClear (s : State) : State := (s.setKbcWin 0x31 (s.kbcWin 0x30)).wr F.HST_KBC_STAT_FIFO 0

/-- Put a key byte into the FIFO, if it has a place (R364, R399). -/
def State.kbcFifoPush (s : State) (b : Nat) : State :=
  let n := s.rd F.HST_KBC_STAT_FIFO
  if 16 ≤ n then s else
  let wr := s.kbcWin 0x30 % 16
  ((s.setKbcWin (0x20 + wr) b).setKbcWin 0x30 ((wr + 1) % 16)).wr F.HST_KBC_STAT_FIFO (n + 1)

/-- The conventional set-2 to set-1 table of keyboard controllers, first half. -/
def xlatLow : List Nat :=
  [0xFF, 0x43, 0x41, 0x3F, 0x3D, 0x3B, 0x3C, 0x58, 0x64, 0x44, 0x42, 0x40, 0x3E, 0x0F, 0x29, 0x59,
   0x65, 0x38, 0x2A, 0x70, 0x1D, 0x10, 0x02, 0x5A, 0x66, 0x71, 0x2C, 0x1F, 0x1E, 0x11, 0x03, 0x5B,
   0x67, 0x2E, 0x2D, 0x20, 0x12, 0x05, 0x04, 0x5C, 0x68, 0x39, 0x2F, 0x21, 0x14, 0x13, 0x06, 0x5D,
   0x69, 0x31, 0x30, 0x23, 0x22, 0x15, 0x07, 0x5E, 0x6A, 0x72, 0x32, 0x24, 0x16, 0x08, 0x09, 0x5F]

/-- The second half, up to 0x84. -/
def xlatHigh : List Nat :=
  [0x6B, 0x33, 0x25, 0x17, 0x18, 0x0B, 0x0A, 0x60, 0x6C, 0x34, 0x35, 0x26, 0x27, 0x19, 0x0C, 0x61,
   0x6D, 0x73, 0x28, 0x74, 0x1A, 0x0D, 0x62, 0x6E, 0x3A, 0x36, 0x1C, 0x1B, 0x75, 0x2B, 0x63, 0x76,
   0x55, 0x56, 0x77, 0x78, 0x79, 0x7A, 0x0E, 0x7B, 0x7C, 0x4F, 0x7D, 0x4B, 0x47, 0x7E, 0x7F, 0x6F,
   0x52, 0x53, 0x50, 0x4C, 0x4D, 0x48, 0x01, 0x45, 0x57, 0x4E, 0x51, 0x4A, 0x37, 0x49, 0x46, 0x54,
   0x80, 0x81, 0x82, 0x41, 0x54]

/-- One byte translated from set 2 to set 1 (R368). -/
def xlat (b : Nat) : Nat := if b < 64 then natAt xlatLow b else if b < 0x85 then natAt xlatHigh (b - 64) else b

/-- XLAT is in force. -/
def State.xlatOn (s : State) : Bool := bit s.cmdByte 6

/-- Load the output buffer. -/
def State.kbcLoad (s : State) (b : Nat) (aux : Bool) : State :=
  ((s.wr F.HST_KBC_STAT_OBUF b).setKbcBit 0 true |>.setKbcBit 5 aux).kbcIrq

/-- Load a keyboard byte: a 0xF0 prefix under XLAT is kept back and folded into the byte that follows (R368). -/
def State.kbcLoadKey (s : State) (b : Nat) : State :=
  let s := s.modKbc fun k => { k with lastSent := b }
  if !s.xlatOn then s.kbcLoad b false
  else if b = 0xF0 then s.modKbc fun k => { k with fold := true }
  else if s.hst.kbc.fold then (s.modKbc fun k => { k with fold := false }).kbcLoad (xlat b % 128 + 128) false
  else s.kbcLoad (xlat b) false

/-- Are key bytes loaded: command byte bit 4 and 0x36 bit 0 both 0 (R368)? -/
def State.keysOpen (s : State) : Bool := !bit s.cmdByte 4 && !bit (s.kbcWin 0x36) 0

/-- Take the first key byte of the FIFO into the buffer. -/
def State.kbcTakeKey (s : State) : State :=
  let rd := s.kbcWin 0x31 % 16
  let b := s.kbcWin (0x20 + rd)
  ((s.setKbcWin 0x31 ((rd + 1) % 16)).wr F.HST_KBC_STAT_FIFO (s.rd F.HST_KBC_STAT_FIFO - 1)).kbcLoadKey b

/-- Load the next byte by precedence (R368). -/
def State.kbcNext (s : State) : State :=
  let k := s.hst.kbc
  match k.ctl, k.dev, k.put with
  | (b, kind) :: r, _, _ =>
    let s := s.modKbc fun k => { k with ctl := r }
    if kind = 2 then s.kbcLoadKey b else s.kbcLoad b (kind == 1)
  | [], b :: r, _ => (s.modKbc fun k => { k with dev := r }).kbcLoadKey b
  | [], [], (b, aux) :: r =>
    let s := s.modKbc fun k => { k with put := r }
    if aux then s.kbcLoad b true else s.kbcLoadKey b
  | [], [], [] =>
    if s.rd F.HST_KBC_STAT_FIFO = 0 then s
    else if bit (s.kbcWin 0x36) 0 then s.kbcFifoClear
    else if s.keysOpen then s.kbcTakeKey else s

/-- KBC_OUTPUT_LOAD (R368): with OBF = 0 the next byte is loaded; a folded prefix is followed by its byte. -/
def execKbcOutputLoad (s : State) : Res :=
  .next (if !s.live domHOST || s.kbcTeller.isNone || s.kbcBit 0 then s else
    let t := s.kbcNext
    if t.kbcBit 0 || !t.hst.kbc.fold then t else t.kbcNext)

/-- A host read of the data port (R368): the buffer, OBF cleared and the interrupt released; the last byte again with OBF = 0. -/
def State.kbcDataRead (s : State) : Nat × State := (s.rd F.HST_KBC_STAT_OBUF, (s.setKbcBit 0 false).kbcIrq)

/-- A host write to the KBC (R365). -/
def State.kbcWrite (s : State) (cmd : Bool) (b : Nat) : State :=
  ((s.modKbc fun k => { k with inByte := b }).setKbcBit 1 true).setKbcBit 3 cmd

/-- A byte goes to firmware through HST_KBC_CMD (R366). -/
def State.kbcToFw (s : State) (b prev : Nat) (dat aux : Bool) : State :=
  let s := s.setOn F.HST_KBC_CMD_PENDING |>.clr F.HST_KBC_CMD_LATE |>.wrB F.HST_KBC_CMD_AUX aux |>.wrB F.HST_KBC_CMD_DATA dat
    |>.wr F.HST_KBC_CMD_PREV prev |>.wr F.HST_KBC_CMD_BYTE b
  (s.modKbc fun k => { k with fw := true }).raise 112

/-- IBF clears. -/
def State.kbcIbfClear (s : State) : State := (s.modKbc fun k => { k with fw := false }).setKbcBit 1 false

/-- Queue controller-command responses. -/
def State.kbcResp (s : State) (l : List (Nat × Nat)) : State := s.modKbc fun k => { k with ctl := k.ctl ++ l }

/-- Queue keyboard-device responses. -/
def State.kbdResp (s : State) (l : List Nat) : State := s.modKbc fun k => { k with dev := k.dev ++ l }

/-- A controller command waits for its data byte. -/
def State.kbcWant (s : State) (c : Nat) : State := s.modKbc fun k => { k with param := some c }

/-- RCIN# pulses. -/
def State.rcin (s : State) : State := s.pulseWire 2

/-- A controller command that the device carries out (Table 10-7); none for a byte that goes to firmware. -/
def State.kbcCommand (s : State) (c : Nat) : Option State :=
  if 0x20 ≤ c ∧ c < 0x40 then some (s.kbcResp [(s.kbcWin (c - 0x20), 0)])
  else if 0x60 ≤ c ∧ c < 0x80 then some (s.kbcWant c)
  else if c = 0xA7 then some (s.cmdBit 5 true)
  else if c = 0xA8 then some (s.cmdBit 5 false)
  else if c = 0xA9 ∨ c = 0xAB then some (s.kbcResp [(0x00, 0)])
  else if c = 0xAA then some (s.kbcResp [(0x55, 0)])
  else if c = 0xAD then some (s.cmdBit 4 true)
  else if c = 0xAE then some (s.cmdBit 4 false)
  else if c = 0xC0 then some (s.kbcResp [(s.kbcWin 0x32, 0)])
  else if c = 0xD0 then some (s.kbcResp [(s.kbcWin 0x33, 0)])
  else if 0xD1 ≤ c ∧ c ≤ 0xD4 then some (s.kbcWant c)
  else if 0xF0 ≤ c then some (if bit c 0 then s else s.rcin)
  else none

/-- A data byte that a controller command waits for (Table 10-7); none for one that goes to firmware. -/
def State.kbcParam (s : State) (c b : Nat) : Option State :=
  if 0x60 ≤ c ∧ c < 0x80 then some (s.kbcRam (c - 0x60) b)
  else if c = 0xD1 then some (let s := s.setKbcWin 0x33 b; if bit b 0 then s else s.rcin)
  else if c = 0xD2 then some (s.kbcResp [(b, 2)])
  else if c = 0xD3 then some (s.kbcResp [(b, 1)])
  else none

/-- KBD_HOSTCFG.LED as KBC or firmware sets it (R401). -/
def State.setLed (s : State) (v : Nat) : State := if s.live domKBD then s.wr F.KBD_HOSTCFG_LED v else s

/-- KBD_HOSTCFG.TYPEMATIC as KBC or firmware sets it (R401). -/
def State.setTypematic (s : State) (v : Nat) : State := if s.live domKBD then s.wr F.KBD_HOSTCFG_TYPEMATIC v else s

/-- The byte after keyboard-device command 0xED, 0xF3 or 0xF0 (Table 10-8). -/
def State.kbdParamByte (s : State) (c b : Nat) : State :=
  let s := s.modKbc fun k => { k with kbdParam := none }
  if c = 0xED then ((s.kbdResp [0xFA]).setKbcWin 0x34 b).setLed b
  else if c = 0xF3 then ((s.kbdResp [0xFA]).setKbcWin 0x35 b).setTypematic b
  else s.kbdResp (if b = 0 then [0xFA, 0x02] else if b = 2 then [0xFA] else [0xFE])

/-- LED and typematic bytes to their KBD defaults (R401). -/
def State.kbdDefaults (s : State) (led : Nat) : State :=
  let tm := s.resetOf F.KBD_HOSTCFG_TYPEMATIC
  (((s.setKbcWin 0x34 led).setKbcWin 0x35 tm).setLed led).setTypematic tm

/-- A keyboard-device command (Table 10-8). It clears command byte bit 4 (R367). -/
def State.kbdCommand (s : State) (b : Nat) : State :=
  let s := s.cmdBit 4 false
  if b = 0xED ∨ b = 0xF3 ∨ b = 0xF0 then (s.kbdResp [0xFA]).modKbc fun k => { k with kbdParam := some b }
  else if b = 0xEE then s.kbdResp [0xEE]
  else if b = 0xF2 then s.kbdResp [0xFA, 0xAB, 0x83]
  else if b = 0xF4 ∨ b = 0xF5 then
    ((s.kbdResp [0xFA]).setKbcWin 0x36 (setBits (s.kbcWin 0x36) 0 0 (b2n (b == 0xF5)))).kbcFifoClear
  else if b = 0xF6 then (s.kbdResp [0xFA]).kbdDefaults (s.resetOf F.KBD_HOSTCFG_LED)
  else if 0xF7 ≤ b ∧ b ≤ 0xFD then s.kbdResp [0xFA]
  else if b = 0xFE then s.kbdResp [s.hst.kbc.lastSent]
  else if b = 0xFF then
    let s := ((s.kbdResp [0xFA]).kbcFifoClear.setKbcWin 0x34 0).setKbcWin 0x36 0
    ((s.setLed 0).setTypematic (s.resetOf F.KBD_HOSTCFG_TYPEMATIC)).modKbc fun k => { k with resetDue := true }
  else s.kbdResp [0xFE]

/-- A data-port byte: a parameter of a controller command, of a keyboard-device command, or a keyboard-device command (R366, R367). -/
def State.kbcData (s : State) (b : Nat) : State :=
  match s.hst.kbc.param with
  | some c =>
    let s := s.modKbc fun k => { k with param := none }
    match s.kbcParam c b with
    | some t => t.kbcIbfClear
    | none => s.kbcToFw b c true (c == 0xD4)
  | none =>
    match s.hst.kbc.kbdParam with
    | some c => (s.kbdParamByte c b).kbcIbfClear
    | none => (s.kbdCommand b).kbcIbfClear

/-- KBC_CONSUME (R365, R366): the device takes the written byte. A controller command leaves a keyboard-device command's parameter waiting (R367). -/
def execKbcConsume (s : State) : Res :=
  .next (if !s.live domHOST || s.kbcTeller.isNone || !s.kbcBit 1 || s.hst.kbc.fw then s else
    let b := s.hst.kbc.inByte
    if s.kbcBit 3 then
      let s := s.modKbc fun k => { k with param := none }
      match s.kbcCommand b with
      | some t => t.kbcIbfClear
      | none => (s.kbcToFw b 0 false false).kbcWant b
    else s.kbcData b)

/-- KBD_RESET_COMPLETE (R367): 0xAA follows 1 ms after a keyboard reset. -/
def execKbdResetComplete (s : State) : Res :=
  .next (if s.live domHOST && s.hst.kbc.resetDue then (s.kbdResp [0xAA]).modKbc fun k => { k with resetDue := false } else s)

/-- A write of HST_KBC_PUT (R368, R376). -/
def State.kbcPutWrite (s : State) (w : Word) : State :=
  if 4 ≤ s.hst.kbc.put.length then s.setOn F.HST_KBC_STAT_PUT_FULL
  else s.modKbc fun k => { k with put := k.put ++ [(F.HST_KBC_PUT_BYTE.of w, F.HST_KBC_PUT_AUX.has w)] }

/-- KBC_PUT (R368, R376). -/
def execKbcPut (who : Agent) (w : Word) (s : State) : Res :=
  .next (s.access who domHOST Reg.HST_KBC_PUT w false fun s => s.kbcPutWrite w)

/-- A write of HST_KBC_CMD: PENDING = 1 releases IBF (R366). -/
def State.kbcCmdWrite (s : State) (w : Word) : State :=
  if !F.HST_KBC_CMD_PENDING.has w then s else
  let s := s.clr F.HST_KBC_CMD_PENDING
  if s.hst.kbc.fw then s.kbcIbfClear else s

end Sys2Proof.Machine
end

