-- ==== Sys2Proof/Machine/Eci.lean ====
section
/-! DEFINITION. The ECI autoteller (R369-R371): the ACPI embedded-controller pair, its commands, its SCI# pulses and its query queue;
and what KBC and ECI share towards firmware (R366). -/

namespace Sys2Proof.Machine

/-- The ECI teller. -/
def State.eciTeller (s : State) : Option TellerEntry := s.autoteller 2

/-- Change the ECI's own state. -/
def State.modEci (s : State) (f : Eci → Eci) : State := { s with hst := { s.hst with eci := f s.hst.eci } }

/-- The ECI status byte (R369). -/
def State.eciStatus (s : State) : Nat :=
  let e := s.hst.eci
  b2n e.obf + 2 * b2n e.ibf + 8 * b2n e.cmdFlag + 16 * b2n e.burst + 32 * b2n (!e.query.isEmpty)

/-- SCI# pulses. -/
def State.sci (s : State) : State := s.pulseWire 0

/-- SCI# pulses unless BURST suppresses it (R370). -/
def State.sciUnlessBurst (s : State) : State := if s.hst.eci.burst then s else s.sci

/-- A byte to the output buffer; SCI# pulses when OBF becomes 1 (R370). -/
def State.eciLoad (s : State) (b : Nat) : State :=
  let was := s.hst.eci.obf
  let s := s.modEci fun e => { e with outByte := b % 256, obf := true, burstRead := false, queryRead := false }
  if was then s else s.sciUnlessBurst

/-- IBF becomes 0 (R370). -/
def State.eciIbfClear (s : State) : State :=
  let was := s.hst.eci.ibf
  let s := s.modEci fun e => { e with ibf := false, fw := false }
  if was then s.sciUnlessBurst else s

/-- A host write to the ECI (R369). -/
def State.eciWrite (s : State) (cmd : Bool) (b : Nat) : State :=
  s.modEci fun e => { e with inByte := b, ibf := true, cmdFlag := cmd }

/-- A host read of the ECI data port (R369-R371). -/
def State.eciDataRead (s : State) : Nat × State :=
  let e := s.hst.eci
  let t := s.modEci fun e => { e with obf := false, burst := e.burst || (e.obf && e.burstRead), burstRead := false, queryRead := false }
  (e.outByte, if e.obf && e.queryRead && !e.query.isEmpty then t.sci else t)

/-- HST_ECI_STAT.QDEPTH brought up to date. -/
def State.refreshQuery (s : State) : State := s.wr F.HST_ECI_STAT_QDEPTH s.hst.eci.query.length

/-- Push a query value (R371): not twice, lost when full; SCI# pulses when SCI_EVT becomes 1. -/
def State.eciPush (s : State) (v : Nat) : State :=
  let q := s.hst.eci.query
  if v = 0 ∨ v ∈ q then s
  else if 16 ≤ q.length then s.setOn F.HST_ECI_STAT_QLOST
  else
    let s := (s.modEci fun e => { e with query := q ++ [v] }).refreshQuery
    if q.isEmpty then s.sci else s

/-- A byte goes to firmware through HST_ECI_CMD (Table 10-9, R366). -/
def State.eciToFw (s : State) (b prev : Nat) (dat : Bool) : State :=
  let s := s.setOn F.HST_ECI_CMD_PENDING |>.clr F.HST_ECI_CMD_LATE |>.wrB F.HST_ECI_CMD_DATA dat
    |>.wr F.HST_ECI_CMD_PREV prev |>.wr F.HST_ECI_CMD_BYTE b
  (s.modEci fun e => { e with fw := true }).raise 112

/-- A byte of the EC space, or of its write mask from 0x100. -/
def State.ecByte (s : State) (a : Nat) : Nat := match s.eciTeller with | some t => s.winByte t a | none => 0

/-- WR_EC (Table 10-9): written when the mask allows it, otherwise denied (R348). -/
def State.ecWrite (s : State) (a d : Nat) : State :=
  match s.eciTeller with
  | none => s
  | some t =>
    if bit (s.ecByte (0x100 + a / 8)) (a % 8) then ((s.setWin t a d).wr F.HST_ECI_STAT_LAST_WR a).raise 113
    else s.deny t.teller a true

/-- QR_EC (R371). -/
def State.eciQuery (s : State) : State :=
  match s.hst.eci.query with
  | [] => s.eciLoad 0
  | v :: r => (((s.modEci fun e => { e with query := r }).refreshQuery).eciLoad v).modEci fun e => { e with queryRead := true }

/-- A command byte (Table 10-9); a command that still collects bytes ends (R369). -/
def State.eciCommand (s : State) (c : Nat) : State :=
  let s := s.modEci fun e => { e with cmd := none, args := [] }
  if c = 0x80 ∨ c = 0x81 then (s.modEci fun e => { e with cmd := some c }).eciIbfClear
  else if c = 0x82 then (s.eciIbfClear.eciLoad 0x90).modEci fun e => { e with burstRead := true }
  else if c = 0x83 then (s.modEci fun e => { e with burst := false }).eciIbfClear
  else if c = 0x84 then s.eciIbfClear.eciQuery
  else (s.eciToFw c 0 false).modEci fun e => { e with cmd := some c }

/-- A data byte (Table 10-9, R370). -/
def State.eciData (s : State) (b : Nat) : State :=
  match s.hst.eci.cmd, s.hst.eci.args with
  | none, _ => (s.setOn F.HST_ECI_STAT_STRAY).eciIbfClear
  | some c, args =>
    if c = 0x80 then (s.modEci fun e => { e with cmd := none }).eciIbfClear.eciLoad (s.ecByte b)
    else if c = 0x81 then
      match args with
      | [] => (s.modEci fun e => { e with args := [b] }).eciIbfClear
      | a :: _ => ((s.modEci fun e => { e with cmd := none, args := [] }).ecWrite a b).eciIbfClear
    else (s.modEci fun e => { e with cmd := none }).eciToFw b c true

/-- ECI_CONSUME (R369): ECI takes the written byte. -/
def execEciConsume (s : State) : Res :=
  .next (if !s.live domHOST || s.eciTeller.isNone || !s.hst.eci.ibf || s.hst.eci.fw then s
    else if s.hst.eci.cmdFlag then s.eciCommand s.hst.eci.inByte else s.eciData s.hst.eci.inByte)

/-- A write of HST_ECI_QUERY (R371). -/
def State.eciQueryWrite (s : State) (w : Word) : State := s.eciPush (F.HST_ECI_QUERY_VALUE.of w)

/-- ECI_QUERY_PUSH (R371). -/
def execEciQueryPush (who : Agent) (w : Word) (s : State) : Res :=
  .next (s.access who domHOST Reg.HST_ECI_QUERY w false fun s => s.eciQueryWrite w)

/-- A write of HST_ECI_PUT (R369, R376). -/
def State.eciPutWrite (s : State) (w : Word) : State :=
  if s.hst.eci.obf then s.setOn F.HST_ECI_STAT_PUT_FULL else s.eciLoad (F.HST_ECI_PUT_BYTE.of w)

/-- ECI_PUT (R369, R376). -/
def execEciPut (who : Agent) (w : Word) (s : State) : Res :=
  .next (s.access who domHOST Reg.HST_ECI_PUT w false fun s => s.eciPutWrite w)

/-- A write of HST_ECI_CMD: PENDING = 1 releases IBF (R366). -/
def State.eciCmdWrite (s : State) (w : Word) : State :=
  if !F.HST_ECI_CMD_PENDING.has w then s else
  let s := s.clr F.HST_ECI_CMD_PENDING
  if s.hst.eci.fw then s.eciIbfClear else s

/-- KBC_FIRMWARE_RELEASE (R366, R377): a write of HST_KBC_CMD, or of HST_ECI_CMD where eci is set. tie says that it lands on the edge
on which the deadline ends. -/
def execKbcFirmwareRelease (who : Agent) (eci : Bool) (w : Word) (tie : Bool) (s : State) : Res :=
  .next (if eci then s.access who domHOST Reg.HST_ECI_CMD w false fun s =>
      (if tie && s.hst.eci.fw && F.HST_ECI_CMD_PENDING.has w then s.count F.HST_COINCIDE_COUNT 1 else s).eciCmdWrite w
    else s.access who domHOST Reg.HST_KBC_CMD w false fun s =>
      (if tie && s.hst.kbc.fw && F.HST_KBC_CMD_PENDING.has w then s.count F.HST_COINCIDE_COUNT 1 else s).kbcCmdWrite w)

/-- TELLER_DEADLINE (R362, R366): a DEADLINE passes. -/
def execTellerDeadline (d : DeadlineOf) (s : State) : Res :=
  .next (if !s.live domHOST then s else match d with
    | .queued c k => s.queuedDeadline (c.num + 1) k
    | .held k => s.heldDeadline k
    | .kbc => if s.hst.kbc.fw then s.fwLate 1 F.HST_KBC_CMD_LATE F.HST_KBC_CMD_PENDING State.kbcIbfClear else s
    | .eci => if s.hst.eci.fw then s.fwLate 2 F.HST_ECI_CMD_LATE F.HST_ECI_CMD_PENDING State.eciIbfClear else s)

end Sys2Proof.Machine
end

