-- ==== Sys2Proof/Machine/Nvx.lean ====
section
/-! DEFINITION. The NVX autoteller (R373, R374): host-class Vault records through an index port and a data port; and PLTRST# (R379). -/

namespace Sys2Proof.Machine

/-- The NVX teller. -/
def State.nvxTeller (s : State) : Option TellerEntry := s.autoteller 4

/-- Change the NVX's own state. -/
def State.modNvx (s : State) (f : Nvx → Nvx) : State := { s with hst := { s.hst with nvx := f s.hst.nvx } }

/-- The value listed for a key, 0 for none. -/
def assoc (l : List (Nat × Nat)) (k : Nat) : Nat := match l.find? fun p => p.1 == k with | some p => p.2 | none => 0

/-- The record SEL names. -/
def State.nvxRecord (s : State) : Nat := 0x0300 + s.hst.nvx.sel

/-- Is the record of SEL in the hardware pending set? -/
def State.nvxPending (s : State) : Bool := s.vlt.pend.any fun r => bits r.1 15 0 == s.nvxRecord

/-- May the host write the record of SEL (the bitmap of the window)? -/
def State.nvxWritable (s : State) : Bool :=
  match s.nvxTeller with
  | some t => bit (s.winByte t (s.hst.nvx.sel / 8)) (s.hst.nvx.sel % 8)
  | none => false

/-- RESULT reads WAITING while the commit of a staged record is refused and retried (R374). -/
def State.nvxResult (s : State) : Nat :=
  let r := assoc s.hst.nvx.results s.hst.nvx.sel
  if s.nvxPending && s.vlt.hwWaiting && r == 0 then 2 else r

/-- RESULT of a record, by its SEL. -/
def State.putResult (s : State) (sel v : Nat) : State :=
  s.modNvx fun n => { n with results := (sel, v) :: n.results.filter fun p => p.1 != sel }

/-- HST_NVX_STAT brought up to date. -/
def State.refreshNvx (s : State) : State :=
  s.wr F.HST_NVX_STAT_NVX (s.nvxResult + 8 * b2n s.nvxPending + 16 * b2n s.hst.nvx.stale) |>.wr F.HST_NVX_STAT_SEL s.hst.nvx.sel

/-- A load of staging begins. -/
def State.nvxLoad (s : State) : State := (s.modNvx fun n => { n with busy := true }).refreshNvx

/-- The staging record of a record: header word and 252 data bytes. -/
def stagingBytes (id : Nat) (d : List Nat) : List Byte :=
  let data := d.flatMap (leBytes 4)
  leBytes 4 (id + 0x40000 + d.length * 2 ^ 24) ++ data ++ List.replicate (252 - data.length) 0

/-- NVX_LOAD_DONE (R373, R240): staging takes the active record or its default. Whether the load newly meets an
uncorrectable error in the mirror is a free value. -/
def execNvxLoadDone (s : State) : Res :=
  .next (if !s.live domHOST || !s.hst.nvx.busy then s else match s.nvxTeller with
    | none => s
    | some t =>
      let id := s.nvxRecord
      let q := s.freeBelow 2
      let s := if q.1 = 1 && s.hasRecord id then q.2.mirrorError id else q.2
      let d := s.record id
      let present := s.hasRecord id
      let dflt := !present && (s.recordDefault id).isSome
      ((s.store (t.at 0x20) (stagingBytes id d)).modNvx fun n => { n with
        busy := false, len := d.length, newLen := d.length, present := present, dflt := dflt, stale := false }).refreshNvx)

/-- STAGE (R374). -/
def State.nvxStage (s : State) : State :=
  let n := s.hst.nvx
  match s.nvxTeller with
  | none => s
  | some t =>
    if !s.nvxWritable then (s.putResult n.sel 4).deny t.teller s.nvxRecord true
    else if n.newLen = 0 ∨ 63 < n.newLen then s.putResult n.sel 5
    else if !s.pendFits s.nvxRecord n.newLen then s.putResult n.sel 3
    else
      let d := leWords n.newLen (s.load (t.at 0x24) (4 * n.newLen))
      let s := s.pendRecord (s.nvxRecord + 0x40000 + n.newLen * 2 ^ 24) d
      ((s.putResult n.sel 0).raise 115).hwCommit

/-- CANCEL (R374): the record leaves the pending set when no commit carries it. -/
def State.nvxCancel (s : State) : State :=
  let carried := match s.vlt.commit with
    | some c => c.carried.any fun r => bits r.1 15 0 == s.nvxRecord
    | none => false
  if carried then s else
  s.unpend s.nvxRecord

/-- What a commit means to NVX (R374): VCODE of every record it carried, RESULT OK for those once it reaches OK, and STALE for the record of SEL. -/
def State.nvxAfterCommit (s : State) (carried : List (Nat × List Nat)) (code : Nat) : State :=
  if !s.domOn domHOST then s else
  let s := s.noteCode carried code
  if code ≠ 0 then s.refreshNvx else
  let ids := (carried.map fun r => bits r.1 15 0).filter fun i => decide (0x300 ≤ i) && decide (i ≤ 0x3FF)
  let s := ids.foldl (fun s i => s.putResult (i - 0x300) 1) s
  (s.modNvx fun n => { n with stale := n.stale || ids.contains s.nvxRecord }).refreshNvx

/-- A write of the NVX data port (Table 10-10). -/
def State.nvxWrite (s : State) (v : Nat) : State :=
  match s.hst.nvx.index with
  | 0x00 => (s.modNvx fun n => { n with sel := v }).nvxLoad
  | 0x04 => (if v = 1 then s.nvxStage else if v = 2 then s.nvxLoad else if v = 3 then s.nvxCancel else s).refreshNvx
  | 0x05 => s.modNvx fun n => { n with ptr := v % 252 }
  | 0x06 => match s.nvxTeller with
    | some t => (s.setWin t (0x24 + s.hst.nvx.ptr) v).modNvx fun n => { n with ptr := (n.ptr + 1) % 252 }
    | none => s
  | 0x07 => s.modNvx fun n => { n with newLen := v }
  | _ => s

/-- STATUS of Table 10-10. -/
def State.nvxStatus (s : State) : Nat :=
  let n := s.hst.nvx
  b2n n.present + 2 * b2n n.dflt + 4 * b2n s.nvxWritable + 8 * b2n s.nvxPending + 16 * b2n n.stale + 32 * b2n n.busy

/-- A read of the NVX data port (Table 10-10). -/
def State.nvxRead (s : State) : Nat × State :=
  let n := s.hst.nvx
  match n.index with
  | 0x00 => (n.sel, s)
  | 0x01 => (n.len, s)
  | 0x02 => (s.nvxStatus, s)
  | 0x03 => (s.nvxResult, s)
  | 0x05 => (n.ptr, s)
  | 0x06 =>
    let v := if n.busy then 0xFF else match s.nvxTeller with | some t => s.winByte t (0x24 + n.ptr) | none => 0
    (v, s.modNvx fun n => { n with ptr := (n.ptr + 1) % 252 })
  | 0x07 => (n.newLen, s)
  | 0x08 => (s.rd F.VLT_SERIAL_SERIAL % 256, s.modNvx fun n => { n with serial := s.rd F.VLT_SERIAL_SERIAL })
  | 0x09 => (bits n.serial 15 8, s)
  | 0x0A => (bits n.serial 23 16, s)
  | 0x0B => (bits n.serial 31 24, s)
  | 0x0C => (assoc n.vcodes n.sel, s)
  | _ => (0, s)

/-- PLTRST# asserted empties the KBC and ECI buffers and flags, BURST, the query queue, the pending controller bytes and the NVX
staging; Teller RAM, the POST ring and the request queues stay (R379). -/
def State.pltrst (s : State) : State :=
  let s := s.modKbc fun _ => {}
  let s := ((s.setKbcBit 0 false).setKbcBit 1 false).kbcIrq
  let s := s.clr F.HST_KBC_CMD_PENDING |>.clr F.HST_ECI_CMD_PENDING
  let s := (s.modEci fun e => { e with
    obf := false, ibf := false, burst := false, cmd := none, args := [], query := [], fw := false, burstRead := false,
    queryRead := false }).refreshQuery
  let s := match s.nvxTeller with | some t => s.store (t.at 0x20) (List.replicate 256 0) | none => s
  (s.modNvx fun n => { n with len := 0, newLen := 0, present := false, dflt := false }).refreshNvx

end Sys2Proof.Machine
end

