-- ==== Sys2Proof/Machine/TwoWire.lean ====
section
/-! DEFINITION. The two-wire ports (chapter 14): controller transactions with PEC and retries, bus state and recovery, the target with its
tellers, alerts and the Alert Response Address, Host Notify, and the sensor slots. -/

namespace Sys2Proof.Machine

/-- ADDR of an XFER word. -/
def xferAddr (x : Word) : Nat := bits x.toNat 22 16
/-- PROTO of an XFER word. -/
def xferProto (x : Word) : Nat := bits x.toNat 27 24
/-- PEC of an XFER word; it does not apply to Quick Command or ARA (R479). -/
def xferPec (x : Word) : Bool := bit x.toNat 28 && !(xferProto x == 0 || xferProto x == 1 || xferProto x == 13)
/-- WLEN of an XFER word. -/
def xferWlen (x : Word) : Nat := bits x.toNat 7 0
/-- RLEN of an XFER word. -/
def xferRlen (x : Word) : Nat := bits x.toNat 15 8

/-- The bytes written after the address (Table 14-2). -/
def xferData (x : Word) (tx : List Byte) : List Byte :=
  match xferProto x with
  | 2 => tx.take 1
  | 4 => tx.take 2
  | 5 => tx.take 3
  | 6 => tx.take 1
  | 7 => tx.take 1
  | 8 => tx.take 3
  | 9 => tx.take (2 + u8At tx 1)
  | 10 => tx.take 1
  | 11 => tx.take (2 + u8At tx 1)
  | 12 => tx.take (xferWlen x)
  | _ => []

/-- Does the protocol read? -/
def xferReads (x : Word) : Bool :=
  match xferProto x with
  | 1 => true | 3 => true | 6 => true | 7 => true | 8 => true | 10 => true | 11 => true | 13 => true
  | 12 => xferRlen x != 0
  | _ => false

/-- Does the protocol write, if only its address byte? -/
def xferWrites (x : Word) : Bool :=
  match xferProto x with
  | 1 => false | 3 => false | 13 => false
  | 12 => xferWlen x != 0 || xferRlen x == 0
  | _ => true

/-- The address a transaction is for: ARA reads 0x0C (Table 14-2). -/
def xferTarget (x : Word) : Nat := if xferProto x = 13 then 0x0C else xferAddr x

/-- Number of data bytes read, the count byte of a block among them (Table 14-2). -/
def xferReadLen (x : Word) (rx : List Byte) : Nat :=
  match xferProto x with
  | 3 => 1 | 6 => 1 | 7 => 2 | 8 => 2 | 13 => 1
  | 12 => xferRlen x
  | 10 => 1 + u8At rx 0
  | 11 => 1 + u8At rx 0
  | _ => 0

/-- A read block count of 0 or above 32 (R478). -/
def badCount (x : Word) (rx : List Byte) : Bool :=
  (xferProto x == 10 || xferProto x == 11) && (u8At rx 0 == 0 || decide (32 < u8At rx 0))

/-- An address byte. -/
def addrByte (a : Nat) (read : Bool) : Byte := BitVec.ofNat 8 (2 * a + b2n read)

/-- The first n bytes of a list; a released line reads 0xFF. -/
def takePad (n : Nat) (b : List Byte) : List Byte := (List.range n).map fun i => b.getD i 0xFF

/-- The bytes the controller writes in bus order: address and data, then the PEC of a protocol that ends in a write (R479). -/
def xferWritten (x : Word) (tx : List Byte) : List Byte :=
  if !xferWrites x then [] else
  let b := addrByte (xferTarget x) false :: xferData x tx
  if xferPec x && !xferReads x then b ++ [BitVec.ofNat 8 (crc8 b)] else b

/-- Code, bytes transferred and bytes read of a transaction that met the bus in some way (R478-R480, R495, Table 14-3). -/
def xferEnd (x : Word) (tx : List Byte) (e : TwEnd) : Nat × Nat × List Byte :=
  let w := xferWritten x tx
  let dn := (xferData x tx).length
  match e with
  | .nack k =>
    if k = 0 then (1, 0, [])
    else if k < w.length then (2, k - 1, [])
    else (1, dn, [])
  | .lost k => (3, k - 1, [])
  | .cut k rx => (9, k, rx)
  | .stuck => (7, 0, [])
  | .done rx =>
    if !xferReads x then (0, dn, [])
    else if badCount x rx then (6, dn + 1, rx.take 1)
    else
      let n := xferReadLen x rx
      let data := takePad n rx
      let all := w ++ addrByte (xferTarget x) true :: data
      let ok := !xferPec x || (rx.getD n 0xFF).toNat == crc8 all
      (if ok then 0 else 5, dn + n, data)

/-- The bytes the controller puts on the bus before the first it reads: those it writes, and the address byte of a read. -/
def xferSent (x : Word) (tx : List Byte) : List Byte :=
  xferWritten x tx ++ (if xferReads x then [addrByte (xferTarget x) true] else [])

/-- A transaction with a length out of range, a bad block count to send or a reserved PROTO (R478). -/
def xferBad (x : Word) (tx : List Byte) : Bool :=
  decide (36 < xferWlen x) || decide (36 < xferRlen x) || decide (14 ≤ xferProto x)
    || ((xferProto x == 9 || xferProto x == 11) && (u8At tx 1 == 0 || decide (32 < u8At tx 1)))

/-- The transmit buffer. -/
def State.txBuf (s : State) (p : Nat) : List Byte :=
  (List.range 9).flatMap fun w => leBytes 4 (s.word (Reg.TWB_TX p w)).toNat

/-- Read data placed in the receive buffer, which holds 36 bytes. -/
def State.setRx (s : State) (p : Nat) (b : List Byte) : State :=
  (List.range (min 36 b.length)).foldl (fun s i =>
    let r := Reg.TWB_RX p (i / 4)
    s.setWord r (BitVec.ofNat 32 (setBits (s.word r).toNat (8 * (i % 4) + 7) (8 * (i % 4)) (u8At b i)))) s

/-- The firmware transaction of a port ends (R482). A count of bytes INDEX cannot hold is not stated: a free value. -/
def State.fwEnd (s : State) (p code idx : Nat) : State :=
  let r := if idx < 64 then (idx, s) else s.freeBelow 64
  let s := r.2.modTw p fun t => { t with wait := false, retry := false, gap := false, clearDue := false, abort := false }
  ((((s.clr (F.TWB_STAT_BUSY p)).setOn (F.TWB_STAT_DONE p)).wr (F.TWB_STAT_RESULT p) code).wr (F.TWB_STAT_INDEX p) r.1).raise
    (252 + 3 * p)

/-- A write of GO (R477, R478, Table 14-3). -/
def State.twGo (s : State) (p : Nat) : State :=
  if s.on (F.TWB_STAT_BUSY p) then s.setOn (F.TWB_ERR_REFUSED p) else
  let x := s.word (Reg.TWB_XFER p)
  let tx := s.txBuf p
  let s := s.setOn (F.TWB_STAT_BUSY p) |>.wr (F.TWB_STAT_TRIES p) 0
  if !s.on (F.TWB_CFG_EN p) then s.fwEnd p 0xA 0
  else if xferBad x tx then s.fwEnd p 0xB 0
  else s.modTw p fun t => { t with wait := true, xfer := x, tx := tx, retry := false, gap := false, abort := false }

/-- A write of ABORT (R495): a waiting transaction ends at once, a running one at its next byte boundary. -/
def State.twAbort (s : State) (p : Nat) : State :=
  if !s.on (F.TWB_STAT_BUSY p) then s
  else if (s.twp p).wait || (s.twp p).retry || (s.twp p).clearDue then s.fwEnd p 9 0
  else s.modTw p fun t => { t with abort := true }

/-- A write of BUS_CLEAR (R496): ignored while BUSY. It waits for a poll or an automatic ARA that runs. -/
def State.twClear (s : State) (p : Nat) : State :=
  if s.on (F.TWB_STAT_BUSY p) then s
  else if !s.on (F.TWB_CFG_EN p) then s.fwEnd p 0xA 0
  else
    let s := (s.setOn (F.TWB_STAT_BUSY p)).wr (F.TWB_STAT_TRIES p) 0
    s.modTw p fun t => if t.run.isSome then { t with clearDue := true } else { t with run := some .clear }

/-- A write of TWB_CMD. -/
def State.twCmdWrite (s : State) (p : Nat) (w : Word) : State :=
  let s := if (F.TWB_CMD_ABORT p).has w then s.twAbort p else s
  let s := if (F.TWB_CMD_BUS_CLEAR p).has w then s.twClear p else s
  if (F.TWB_CMD_GO p).has w then s.twGo p else s

/-- TWB_GO (R477). -/
def execTwbGo (who : Agent) (p : Fin 6) (s : State) : Res :=
  .next (s.access who domTWB (Reg.TWB_CMD p) 1 false fun s => s.twCmdWrite p 1)

/-- ABORT (R495). -/
def execAbort (who : Agent) (p : Fin 6) (s : State) : Res :=
  .next (s.access who domTWB (Reg.TWB_CMD p) 2 false fun s => s.twCmdWrite p 2)

/-- BUS_CLEAR (R496). Its end is reported as a transaction's. -/
def execBusClear (who : Agent) (p : Fin 6) (s : State) : Res :=
  .next (s.access who domTWB (Reg.TWB_CMD p) 4 false fun s => s.twCmdWrite p 4)

/-- Bus state: busy until it counts as free (R476). -/
def State.busBusy (s : State) (p : Nat) (v : Bool) : State := s.wrB (F.TWB_STAT_BUS_BUSY p) v

/-- Does PINS give a port both its lines (R474)? Without them it sees both as 0 (R658). -/
def State.twPinned (s : State) (p : Nat) : Bool := s.pinned (.twScl p) && s.pinned (.twSda p)

/-- Is a port enabled on lines it has? -/
def State.twOn (s : State) (p : Nat) : Bool := s.live domTWB && s.on (F.TWB_CFG_EN p) && s.twPinned p

/-- SCL and SDA as they are sampled (R476). -/
def State.sampleBus (s : State) (p : Nat) (scl sda : Bool) : State :=
  (s.wrB (F.TWB_STAT_SCL p) (scl && s.twPinned p)).wrB (F.TWB_STAT_SDA p) (sda && s.twPinned p)

/-- The XFER word of a slot's poll, by its TWB_SNS_CFG (Table 14-4). -/
def pollXfer (k : Nat) (cfg : Word) : Word :=
  let f := (F.TWB_SNS_CFG_FMT k).of cfg
  let proto := if f = 0 then 12 else if f = 2 then 6 else 7
  BitVec.ofNat 32 (2 ^ 28 * (F.TWB_SNS_CFG_PEC k).of cfg + 2 ^ 24 * proto + 65536 * (F.TWB_SNS_CFG_ADDR k).of cfg + 256 * 2 + 1)

/-- The CMD byte a slot's poll writes. -/
def pollTx (k : Nat) (cfg : Word) : List Byte := [BitVec.ofNat 8 ((F.TWB_SNS_CFG_CMD k).of cfg)]

/-- The XFER word of an ARA (R489). -/
abbrev araXfer : Word := 0x0D000000

/-- What the controller puts on the bus first for a job. -/
def TwPort.sends (t : TwPort) : TwJob → List Byte
  | .fw => xferSent t.xfer t.tx
  | .poll k cfg => xferSent (pollXfer k cfg) (pollTx k cfg)
  | .ara => xferSent araXfer []
  | .clear => []

/-- The controller issues START for a job. The answer is what it sends. -/
def State.twRun (s : State) (p : Nat) (job : TwJob) : State :=
  (((s.modTw p fun t => { t with run := some job }).busBusy p true).sampleBus p true false).reply (.bytes 0 ((s.twp p).sends job))

/-- The polls that wait and whose slot still polls on this port (R491). -/
def State.duePolls (s : State) (p : Nat) : List Nat :=
  (s.twp p).polls.filter fun k => s.on (F.TWB_SNS_CFG_EN k) && s.rd (F.TWB_SNS_CFG_PORT k) == p

/-- Another attempt starts (R480). -/
def State.twAgain (s : State) (p : Nat) : State :=
  ((s.modTw p fun t => { t with retry := false, gap := false }).countWrap (F.TWB_STAT_TRIES p) 1).twRun p .fw

/-- The controller starts what waits first: the firmware transaction or its next attempt, then the oldest poll (R477, R480). -/
def State.twStart (s : State) (p : Nat) : State :=
  let t := s.twp p
  if t.wait then (s.modTw p fun t => { t with wait := false }).twRun p .fw
  else if t.retry then (if t.gap then s else s.twAgain p)
  else match s.duePolls p with
    | [] => s
    | k :: r => ((s.modTw p fun t => { t with polls := r }).setOn (F.TWB_STAT_POLLING p)).twRun p (.poll k (s.word (Reg.TWB_SNS_CFG k)))

/-- TWB_TRANSACTION_START (R477): the controller is idle and the bus is free. -/
def execTwbTransactionStart (p : Fin 6) (s : State) : Res :=
  .next (if !s.twOn p || (s.twp p).run.isSome || s.on (F.TWB_STAT_BUS_BUSY p) then s else s.twStart p)

/-- VALUE of a polled sensor (Table 14-4). -/
def slotValue (fmt : Nat) (b : List Byte) : Nat :=
  match fmt with
  | 0 => tempValue (sext 16 (256 * u8At b 0 + u8At b 1) / 16)
  | 1 => tempValue ((2 * (16 * (u16At b 0 : Int) - 43704) + 10) / 20)
  | 2 => tempValue (sext 8 (u8At b 0) * 16)
  | _ => tempValue (sext 16 (u16At b 0) / 16)

/-- FAULT_N of a slot. -/
def State.faultN (s : State) (k : Nat) : Nat := if s.rd (F.TWB_SNS_CFG_FAULT_N k) = 0 then 3 else s.rd (F.TWB_SNS_CFG_FAULT_N k)

/-- A slot's runs and last good VALUE replaced. -/
def State.setSlot (s : State) (k fails goods last : Nat) : State :=
  { s with twb := { s.twb with
      fails := s.twb.fails.set k fails, goods := s.twb.goods.set k goods, lastVal := s.twb.lastVal.set k last } }

/-- A slot's poll has ended (R492). -/
def State.slotEnd (s : State) (k : Nat) (good : Bool) (v : Nat) : State :=
  let fails := natAt s.twb.fails k
  let goods := natAt s.twb.goods k
  let s := s.setOn (F.TWB_SNS_VALID k)
  if good then
    if s.on (F.TWB_SNS_FAULT k) && decide (goods + 1 < s.faultN k) then
      ((s.setSlot k 0 (goods + 1) v).wr (F.TWB_SNS_VALUE k) v).setOn (F.TWB_SNS_SUSPECT k)
    else (((s.setSlot k 0 (goods + 1) v).wr (F.TWB_SNS_VALUE k) v).clr (F.TWB_SNS_FAULT k)).clr (F.TWB_SNS_SUSPECT k)
  else
    let s := (s.setSlot k (fails + 1) 0 (natAt s.twb.lastVal k)).setOn (F.TWB_SNS_SUSPECT k)
    if s.faultN k ≤ fails + 1 || s.on (F.TWB_SNS_FAULT k) then
      (s.setOn (F.TWB_SNS_FAULT k)).wr (F.TWB_SNS_VALUE k) hottest
    else s

/-- The firmware transaction's attempt has ended: it ends, or waits for a retry (R480). -/
def State.attemptEnd (s : State) (p : Nat) (r : Nat × Nat × List Byte) : State :=
  let x := (s.twp p).xfer
  let again := (r.1 == 3 || r.1 == 1) && decide (s.rd (F.TWB_STAT_TRIES p) < bits x.toNat 31 29) && !(s.twp p).abort
  let s := s.setRx p r.2.2
  if again then s.modTw p fun t => { t with retry := true, gap := r.1 == 1 } else s.fwEnd p r.1 r.2.1

/-- The controller is idle again: a bus clear that waited runs (R496). -/
def State.twIdle (s : State) (p : Nat) : State :=
  s.modTw p fun t => if t.clearDue then { t with clearDue := false, run := some .clear } else t

/-- An automatic ARA has ended (R489): an answered byte is queued. -/
def State.araEnd (s : State) (p : Nat) (r : Nat × Nat × List Byte) : State :=
  match r.1, r.2.2 with
  | 0, b :: _ =>
    if 4 ≤ (s.twp p).ara.length then s.setOn (F.TWB_ERR_ARA_FULL p) else s.modTw p fun t => { t with ara := t.ara ++ [b] }
  | _, _ => s

/-- What the end of a job means beside the bus. -/
def State.jobEnd (s : State) (p : Nat) (e : TwEnd) : TwJob → State
  | .fw => s.attemptEnd p (xferEnd (s.twp p).xfer (s.twp p).tx e)
  | .clear => s.fwEnd p (match e with | .done _ => 0 | .cut _ _ => 9 | _ => 7) 0
  | .ara => s.araEnd p (xferEnd araXfer [] e)
  | .poll k cfg =>
    let r := xferEnd (pollXfer k cfg) (pollTx k cfg) e
    (s.clr (F.TWB_STAT_POLLING p)).slotEnd k (r.1 == 0) (slotValue ((F.TWB_SNS_CFG_FMT k).of cfg) r.2.2)

/-- The bus after a transaction (R476, R480, R496): free after the STOP, the winner's after a lost arbitration, and still busy with SDA low. -/
def State.busAfter (s : State) (p : Nat) : TwEnd → State
  | .lost _ => (s.busBusy p true).count (F.TWB_COUNTS_ARB_LOST p) 1
  | .stuck => (s.busBusy p true).sampleBus p true false
  | _ => (s.busBusy p false).sampleBus p true true

/-- TWB_TRANSACTION_END (R478-R480, R482, R489, R492, R495, R496). A cut needs an ABORT that waits for its boundary. -/
def execTwbTransactionEnd (p : Fin 6) (e : TwEnd) (s : State) : Res :=
  .next (
    let t := s.twp p
    let isCut := match e with | .cut _ _ => true | _ => false
    if !s.live domTWB || (isCut && !t.abort) then s else
    match t.run with
    | none => s
    | some job => (((s.modTw p fun t => { t with run := none }).busAfter p e).jobEnd p e job).twIdle p)

/-- TWB_RETRY (R480): the bus is free after a lost arbitration, or 1 ms has passed after a NACK of the address; on a busy bus the attempt then waits for
it. -/
def execTwbRetry (p : Fin 6) (s : State) : Res :=
  .next (if !s.twOn p || !(s.twp p).retry || (s.twp p).run.isSome then s
    else if s.on (F.TWB_STAT_BUS_BUSY p) then s.modTw p fun t => { t with gap := false }
    else s.twAgain p)

/-- Does the clock-low timeout run (R481, R486)? -/
def State.clockLowOn (s : State) (p : Nat) : Bool := !s.on (F.TWB_CFG_MODE p) || s.rd (F.TWB_CFG_TOUT p) != 0

/-- TWB_CLOCK_LOW_TIMEOUT (R481, R494): SCL has been low for TOUT during the controller's transaction; tie is a rise of SCL sampled on the
edge on which the count ends, and is taken. -/
def execTwbClockLowTimeout (p : Fin 6) (cut : TwCut) (tie : Bool) (s : State) : Res :=
  .next (if !s.live domTWB || !s.clockLowOn p then s else
    match (s.twp p).run with
    | none => s
    | some job =>
      if tie then s.count F.TWB_COINCIDE_COUNT 1 else
      let s := ((s.modTw p fun t => { t with run := none }).busBusy p false).sampleBus p true true
      (match job with
      | .poll k _ => (s.clr (F.TWB_STAT_POLLING p)).slotEnd k false 0
      | .fw => (s.setRx p cut.rx).fwEnd p 4 cut.idx
      | .clear => s.fwEnd p 4 0
      | .ara => s).twIdle p)

/-- TWB_TARGET_TIMEOUT (R486, R494): SCL has been low for TOUT during a transaction addressed to the port. -/
def execTwbTargetTimeout (p : Fin 6) (tie : Bool) (s : State) : Res :=
  .next (if !s.live domTWB || !s.on (F.TWB_CFG_EN p) || !s.clockLowOn p then s
    else if tie then s.count F.TWB_COINCIDE_COUNT 1
    else ((s.twForget p).setOn (F.TWB_ERR_TGT_TIMEOUT p)).count (F.TWB_COUNTS_TIMEOUTS p) 1)

/-- Does the port drive TWn_ALERT_N low (R474, R488)? -/
def State.drivesAlert (s : State) (p : Nat) : Bool := s.on (F.TWB_CFG_EN p) && s.on (F.TWB_TGT_ALERT p)

/-- Does another device hold the alert line low, as far as the port can see (R487)? -/
def State.alertSeenLow (s : State) (p : Nat) : Bool := (s.twp p).line == some false && !s.drivesAlert p

/-- TWn_ALERT and ALERT_LINE: the line low while the port does not drive it (R487). -/
def State.refreshAlert (s : State) (p : Nat) : State :=
  (s.wrB (F.TWB_STAT_ALERT_LINE p) ((s.twp p).line == some true && !s.drivesAlert p)).level (253 + 3 * p) (s.alertSeenLow p)

/-- The alert line as it is sampled; a port without a ball for it samples none (log 116). -/
def State.sampleAlert (s : State) (p : Nat) (low : Bool) : State :=
  if s.pinned (.twAlert p) then (s.modTw p fun t => { t with line := some (!low) }).refreshAlert p else s

/-- The alert lines of all ports as they are sampled, in low those that are low. -/
def State.sampleAlerts (s : State) (low : BitVec 6) : State :=
  if s.live domTWB then (List.range 6).foldl (fun s p => s.sampleAlert p (low.getLsbD p)) s else s

/-- The lines as they are sampled. -/
def State.twLines (s : State) (p : Nat) (scl sda alertLow : Bool) : State := (s.sampleBus p scl sda).sampleAlert p alertLow

/-- TWB_STUCK_TIMEOUT (R496): a line has stayed low for 35 ms while a transaction waits. freed says that a bus clear brings SDA high. -/
def execTwbStuckTimeout (p : Fin 6) (scl sda freed : Bool) (s : State) : Res :=
  .next (
    let t := s.twp p
    let scl := scl && s.twPinned p
    if !s.live domTWB || !s.on (F.TWB_CFG_EN p) || t.run.isSome || (scl && sda) || !(t.wait || t.retry || !(s.duePolls p).isEmpty) then s else
    let s := s.sampleBus p scl sda
    if scl && s.on (F.TWB_CFG_AUTO_CLEAR p) && freed then
      let s := (s.sampleBus p true true).busBusy p false
      if t.retry then s.twAgain p else s.twStart p
    else
      let code := if scl then 7 else 8
      if t.wait || t.retry then s.fwEnd p code 0
      else match s.duePolls p with
        | [] => s
        | k :: r => (s.modTw p fun t => { t with polls := r }).slotEnd k false 0)

/-- TWB_BUS_FREE (R476): both lines have been high for 50 µs. -/
def execTwbBusFree (p : Fin 6) (alertLow : Bool) (s : State) : Res :=
  .next (if !s.live domTWB || !s.twPinned p || (s.twp p).run.isSome then s else
    let s := s.twLines p true true alertLow
    if s.on (F.TWB_CFG_EN p) then s.busBusy p false else s)

/-- TWB_START_CONDITION (R476, R494): another controller's START; tie is one sampled on the last edge of the free count. -/
def execTwbStartCondition (p : Fin 6) (alertLow tie : Bool) (s : State) : Res :=
  .next (if !s.live domTWB || !s.twPinned p then s else
    let s := s.twLines p true false alertLow
    if !s.on (F.TWB_CFG_EN p) then s else
    let s := if tie && s.on (F.TWB_STAT_BUS_BUSY p) then s.count F.TWB_COINCIDE_COUNT 1 else s
    s.busBusy p true)

/-- TWB_STOP_CONDITION (R476): another controller's STOP. -/
def execTwbStopCondition (p : Fin 6) (alertLow : Bool) (s : State) : Res :=
  .next (if !s.live domTWB || !s.twPinned p || (s.twp p).run.isSome then s else
    let s := s.twLines p true true alertLow
    if s.on (F.TWB_CFG_EN p) then (s.modTw p fun t => { t with pec := none }).busBusy p false else s)

/-- A teller bound to 0x08 beside the notify receiver (R483). -/
def State.twConflict (s : State) (p : Nat) : State :=
  if s.on (F.TWB_CFG_HN_EN p) && s.tellers.any (fun t => t.binding == 3 && bits t.addr 2 0 == p && bits t.addr 14 8 == 8) then
    s.setOn (F.TWB_ERR_ADDR_CONFLICT p) else s

/-- TRLEN as it acts (Table 14-7). -/
def State.trlen (s : State) (p : Nat) : Nat :=
  let n := s.rd (F.TWB_CFG_TRLEN p)
  if n = 0 then 2 else min 32 n

/-- A transaction with a firmware teller (R363, R484): the written bytes after the offset, or n bytes read, are requests one at a time. The answer is
what the port sends before the first. -/
def State.targetFirmware (s : State) (p : Nat) (t : TellerEntry) (read : Bool) (wrote : List Byte) (n : Nat) (sr : Bool) (all : List Byte) : State :=
  let off := if read then s.twOff t else match wrote with | [] => s.twOff t | o :: _ => o.toNat
  let s := s.setTwOff t off
  let count := if read then n else wrote.length - 1
  let s := if !t.allows (!read) && count != 0 then s.deny t.teller off (!read) else s
  s.twNext p ⟨t.addr / 256 % 128, read, wrote.tail, n, off, all, sr⟩ count []

/-- A write to an SCR teller (R484, R485): the offset, then data; under TPEC it is applied at the STOP if its last byte is the PEC. -/
def State.targetWrite (s : State) (p : Nat) (t : TellerEntry) (b : List Byte) (sr : Bool) (all : List Byte) : State :=
  match b with
  | [] => s
  | o :: data =>
    let off := o.toNat
    (
      let tpec := s.on (F.TWB_CFG_TPEC p)
      let good := !tpec || (sr && data.isEmpty) || (!sr && (all.getLast?.map BitVec.toNat) == some (crc8 all.dropLast))
      if !good then s.setOn (F.TWB_ERR_TGT_PEC p) else
      let data := if tpec && !sr then data.dropLast else data
      let s := s.setTwOff t (off + data.length)
      if data.isEmpty then s
      else if t.allows true then
        (List.range data.length).foldl (fun s i =>
          let a := (off + i) % 256
          if a < t.span then s.setWin t a (u8At data i) else s) s
      else s.deny t.teller off true)

/-- A read of n bytes from an SCR teller (R484, R485): the bytes it sends. -/
def State.targetRead (s : State) (p : Nat) (t : TellerEntry) (n : Nat) (before : List Byte) : List Byte × State :=
  let off := s.twOff t
  (
    let tpec := s.on (F.TWB_CFG_TPEC p)
    let m := if tpec then min n (s.trlen p) else n
    let one (i : Nat) : Byte :=
      let a := (off + i) % 256
      if a < t.span && t.allows false then memGet s.mem (t.at a) else 0xFF
    let data := (List.range (if tpec then s.trlen p else n)).map one
    let sent := if tpec then takePad n (data ++ [BitVec.ofNat 8 (crc8 (before ++ data))]) else data
    let s := s.setTwOff t (off + m)
    (sent, if t.allows false || n == 0 then s else s.deny t.teller off false))

/-- An ARA read of the port's own alert (R488): it is won, or a lower address wins. -/
def State.targetAra (s : State) (p : Nat) (won : Bool) : State :=
  if won then
    let b := addrByte (s.rd (F.TWB_CFG_ALERT_ADDR p)) false
    (((s.clr (F.TWB_TGT_ALERT p)).setOn (F.TWB_TGT_ARA_WON p)).refreshAlert p).targetDone p 0x0C true false [addrByte 0x0C true, b]
      |>.reply (.bytes 0 [b])
  else s.count (F.TWB_COUNTS_ARA_LOST p) 1

/-- A write to the notify receiver at 0x08, with the bytes after the address (R490). -/
def State.hostNotify (s : State) (p : Nat) (b : List Byte) : State :=
  let s := s.twConflict p
  if s.on (F.TWB_HN_VALID p) then s.count (F.TWB_COUNTS_HN_NACKS p) 1 else
  let tpec := s.on (F.TWB_CFG_TPEC p)
  let all := addrByte 8 false :: b
  let ok := if tpec then b.length == 4 && (u8At b 3 == crc8 all.dropLast) else b.length == 3
  if !ok then s.setOn (F.TWB_ERR_HN_BAD p) else
  let s := ((s.setOn (F.TWB_HN_VALID p)).wr (F.TWB_HN_ADDR p) (u8At b 0 / 2)).wr (F.TWB_HN_DATA p) (u16At b 1)
  s.targetDone p 8 false false all

/-- A read of n bytes from the notify receiver (R483, R490): it acknowledges its address while VALID is clear and drives no data, so the line reads
0xFF (log 116). -/
def State.notifyRead (s : State) (p n : Nat) (sr : Bool) : State :=
  if s.on (F.TWB_HN_VALID p) then s.count (F.TWB_COUNTS_HN_NACKS p) 1
  else (s.targetDone p 8 true sr (addrByte 8 true :: List.replicate n 0xFF)).reply (.bytes 0 (List.replicate n 0xFF))

/-- TWB_TARGET_TRANSACTION (R483-R485, R488): another controller's transaction, or its part up to a repeated START (sr): the bytes it wrote
after the address, or the number it read. won says that the port's answer to an ARA read wins. With HOST off no teller answers; while SCL is held for
a request there is no other. -/
def execTwbTargetTransaction (p : Fin 6) (addr : BitVec 7) (read : Bool) (wrote : List Byte) (n : Nat) (sr won : Bool) (s : State) : Res :=
  .next (
    let a := addr.toNat
    if !s.twOn p || (s.twp p).tgt.isSome then s
    else if a = 0x0C ∧ read ∧ s.on (F.TWB_TGT_ALERT p) then s.targetAra p won
    else if a = 8 ∧ s.on (F.TWB_CFG_HN_EN p) then (if read then s.notifyRead p n sr else s.hostNotify p wrote)
    else match s.twTeller p a with
    | none => s
    | some t =>
      if !s.domOn domHOST then s else
      let before := ((s.twp p).pec).getD [] ++ [addrByte a read]
      if t.kind = 0 then s.targetFirmware p t read wrote n sr (if read then before else before ++ wrote)
      else if read then
        let r := s.targetRead p t n before
        (r.2.targetDone p a true sr (before ++ r.1)).reply (.bytes 0 r.1)
      else (s.targetWrite p t wrote sr (before ++ wrote)).targetDone p a false sr (before ++ wrote))

/-- HOST_NOTIFY (R490): a write to 0x08, with the bytes after the address. -/
def execHostNotify (p : Fin 6) (b : List Byte) (s : State) : Res :=
  .next (if !s.twOn p || (s.twp p).tgt.isSome || !s.on (F.TWB_CFG_HN_EN p) then s else s.hostNotify p b)

/-- A write of TWB_TGT: ALERT drives or releases the line (R488). -/
def State.twTgtWrite (s : State) (p : Nat) (w : Word) : State := (s.accWrite (Reg.TWB_TGT p) w).refreshAlert p

/-- TWB_ALERT_WRITE (R488). -/
def execTwbAlertWrite (who : Agent) (p : Fin 6) (w : Word) (s : State) : Res :=
  .next (s.access who domTWB (Reg.TWB_TGT p) w false fun s => s.twTgtWrite p w)

/-- AUTO_ARA (R489): with TWn_ALERT active, its line sampled, and no firmware transaction waiting, an automatic ARA transaction starts. Its
end is a TWB_TRANSACTION_END, or a timeout. -/
def execAutoAra (p : Fin 6) (alertLow : Bool) (s : State) : Res :=
  .next (if !s.live domTWB then s else
    let s := s.sampleAlert p alertLow
    let t := s.twp p
    if !s.twOn p || !s.on (F.TWB_CFG_AUTO_ARA p) || t.wait || t.retry || t.run.isSome || s.on (F.TWB_STAT_BUS_BUSY p) || !s.alertSeenLow p then s
    else s.twRun p .ara)

/-- What TWB_ARA_n shows (Table 14-8). -/
def State.araWord (s : State) (p : Nat) : Word :=
  match (s.twp p).ara with
  | [] => 0
  | b :: r => BitVec.ofNat 32 (2 ^ 31 + 2 ^ 24 * (r.length + 1) + b.toNat)

/-- A read of TWB_ARA_n removes the entry (R489); an Audit-chain read does not (R12). -/
def State.araRead (s : State) (who : Agent) (p : Nat) : Word × State :=
  (s.araWord p, match who with | .jtag => s | .core _ _ => s.modTw p fun t => { t with ara := t.ara.tail })

/-- TWB_ARA_READ (R489). -/
def execTwbAraRead (who : Agent) (p : Fin 6) (s : State) : Res :=
  .next (if !s.domOn domTWB then s.busErr busDomainOff
    else if s.frozen domTWB then s.reply (.word (s.araWord p))
    else let r := s.araRead who p; r.2.reply (.word r.1))

/-- SENSOR_SLOT_POLL (R491): the slot's PERIOD has passed; a poll that still waits merges. -/
def execSensorSlotPoll (k : Fin 8) (s : State) : Res :=
  .next (
    let p := s.rd (F.TWB_SNS_CFG_PORT k)
    if !s.live domTWB || !s.on (F.TWB_SNS_CFG_EN k) || decide (6 ≤ p) || !s.on (F.TWB_CFG_EN p) || (s.twp p).polls.contains k.val then s
    else s.modTw p fun t => { t with polls := t.polls ++ [k.val] })

/-- What a consumer sees of a sensor slot (R492): VALUE and FAULT. -/
def State.slotSeen (s : State) (k : Nat) : Nat × Bool :=
  if !s.domOn domTWB then (hottest, true)
  else if !s.on (F.TWB_SNS_VALID k) then (hottest, false)
  else (s.rd (F.TWB_SNS_VALUE k), s.on (F.TWB_SNS_FAULT k))

/-- A port is disabled and releases its lines (R474): a firmware transaction ends with DISABLED, a poll that runs fails, and those that wait do not
run (log 116). -/
def State.twDisable (s : State) (p : Nat) : State :=
  let s := match (s.twp p).run with
    | some (.poll k _) => (s.clr (F.TWB_STAT_POLLING p)).slotEnd k false 0
    | _ => s
  let s := if s.on (F.TWB_STAT_BUSY p) then s.fwEnd p 0xA 0 else s
  ((s.twForget p).modTw p fun t => { t with run := none, polls := [] }).busBusy p false

/-- A write of TWB_CFG: a port that is enabled counts its bus as free only after 50 µs (R476). -/
def State.twCfgWrite (s : State) (p : Nat) (w : Word) : State :=
  let was := s.on (F.TWB_CFG_EN p)
  let s := (s.accWrite (Reg.TWB_CFG p) w).twConflict p
  let now := s.on (F.TWB_CFG_EN p)
  (if now && !was then s.busBusy p true else if was && !now then s.twDisable p else s).refreshAlert p

/-- A TELLERS switch: every port judges its addresses again (R483). -/
def State.tellersSwitched (s : State) : State :=
  if s.domOn domTWB then (List.range 6).foldl State.twConflict s else s

/-- TWB loses its transactions: lines are released at once, and a request of a target transaction stays with its owner (R486, R498). -/
def State.twbStop (s : State) : State :=
  let s := (List.range 6).foldl State.twForget s
  { s with twb := {} }

/-- HOST loses its requests: no port holds SCL for one (log 116). -/
def State.twReleaseAll (s : State) : State := (List.range 6).foldl (fun s p => s.modTw p fun t => { t with tgt := none }) s

/-- TWB starts after its power-up or reset (R498): lines released and not sampled, enabled ports wait for a free bus. -/
def State.twbStart (s : State) : State :=
  (List.range 6).foldl (fun s p => (s.busBusy p (s.on (F.TWB_CFG_EN p))).twConflict p) s.twbStop

end Sys2Proof.Machine
end

