-- ==== Sys2Proof/Machine/Cooling.lean ====
section
/-! DEFINITION. Fans and pumps (chapter 15): the modes and their duty, tachometers, kick, stall and pumps, the AO fan safety loop, FAN_LEARN
and the ageing indicator. -/

namespace Sys2Proof.Machine

/-- The state with the fans' own part changed. -/
def State.modFan (s : State) (f : Cooling → Cooling) : State := { s with fan := f s.fan }

/-- What channel n keeps beside its registers. -/
def State.fch (s : State) (n : Nat) : FanChan := s.fan.chans.getD n {}

/-- The state with a channel changed. -/
def State.modFch (s : State) (n : Nat) (f : FanChan → FanChan) : State :=
  s.modFan fun c => { c with chans := c.chans.set n (f (c.chans.getD n {})) }

/-- FANSAFE word i (R73); the bare Ledger's safety duty is 100 % on every channel, with the longest heartbeat time (Table 01-4). -/
def State.fanSafeWord (s : State) (i : Nat) : Nat :=
  match s.till 0x028 with
  | some t => u32At t.body (4 * i)
  | none => if i = 0 then 100 + 256 * 0xFF + 65536 * 50 + 2 ^ 24 * 100 else 0

/-- SAFE_DUTY in 0.1 %. -/
def State.safeDuty (s : State) : Nat := min 1000 (10 * bits (s.fanSafeWord 0) 7 0)

/-- FREEZE_DUTY in 0.1 %. -/
def State.freezeDuty (s : State) : Nat := min 1000 (10 * bits (s.fanSafeWord 0) 31 24)

/-- MIN_DUTY; a duty ends at 1,000 (R502, log 115). -/
def State.minDuty (s : State) (n : Nat) : Nat := min 1000 (s.rd (F.FAN_LIMIT_MIN_DUTY n))

/-- MAX_DUTY, which for a pump is never below MIN_DUTY (R510). -/
def State.maxDuty (s : State) (n : Nat) : Nat :=
  let hi := min 1000 (s.rd (F.FAN_LIMIT_MAX_DUTY n))
  if s.on (F.FAN_CFG_PUMP n) then max (s.minDuty n) hi else hi

/-- CH_MASK has channel n. -/
def State.fanMasked (s : State) (n : Nat) : Bool := bit (bits (s.fanSafeWord 0) 15 8) n

/-- Is the island that generates a channel's PWM frozen (R527)? -/
def State.pwmFrozen (s : State) (n : Nat) : Bool := if s.on (F.FAN_STAT_SAFE n) then s.frozen 0 else s.frozen domFAN

/-- The duty in force, by the order of R511. -/
def State.fanDuty (s : State) (n : Nat) : Nat :=
  if s.pwmFrozen n then s.freezeDuty
  else if s.on (F.FAN_STAT_SAFE n) then s.safeDuty
  else if s.on (F.FAN_STAT_LEARNING n) then s.fan.learnDuty
  else if s.on (F.FAN_STAT_STALLED n) then 1000
  else if s.on (F.FAN_STAT_PUMP_LOW n) then s.maxDuty n
  else if s.on (F.FAN_STAT_KICK n) then 1000
  else (s.fch n).duty

/-- Does a channel's kick start: its drive goes from 0 to a duty, and neither the safety loop, a learn nor a freeze controls it (R508)? -/
def State.kicks (s : State) (n : Nat) : Bool :=
  s.rd (F.FAN_STAT_DUTY n) == 0 && s.fanDuty n != 0 && s.rd (F.FAN_CFG_KICK n) != 0
    && !s.on (F.FAN_STAT_SAFE n) && !s.on (F.FAN_STAT_LEARNING n) && !s.pwmFrozen n

/-- Bring FAN_STAT_n.DUTY up to date, through a kick where one starts. -/
def State.refreshFan (s : State) (n : Nat) : State :=
  if !s.domOn domFAN then s else
  let s := if s.kicks n then s.setOn (F.FAN_STAT_KICK n) else s
  s.wr (F.FAN_STAT_DUTY n) (s.fanDuty n)

/-- Bring every channel up to date. -/
def State.refreshFans (s : State) : State := (List.range 8).foldl (fun s n => s.refreshFan n) s

/-- What one source code reads (R507): VALUE, FAULT, SUSPECT and whether the code is bad. -/
def State.fanSource (s : State) (c : Nat) : Int × Bool × Bool × Bool :=
  if 16 ≤ c ∧ c ≤ 28 then
    let v := s.tempSeen c
    (sext 16 v.1, v.2, s.domOn domAREF && s.on (F.ADC_CH_SUSPECT c), false)
  else if 0x40 ≤ c ∧ c ≤ 0x47 then
    let v := s.slotSeen (c - 0x40)
    (sext 16 v.1, v.2, s.domOn domTWB && s.on (F.TWB_SNS_SUSPECT (c - 0x40)), false)
  else (2400, true, false, true)

/-- The named sources of a channel. -/
def State.fanSources (s : State) (n : Nat) : List Nat :=
  ((List.range 4).map fun k => bits (s.word (Reg.FAN_SRC n)).toNat (8 * k + 7) (8 * k)).filter (· != 0xFF)

/-- The hottest of some readings, the first of equal ones. -/
def hottestOf : List (Int × Bool × Bool × Bool) → Option (Int × Bool × Bool × Bool)
  | [] => none
  | r :: rest => match hottestOf rest with
    | none => some r
    | some q => if r.1 < q.1 then some q else some r

/-- FAN_TEMP of a channel brought up to date (R507). -/
def State.fanTemp (s : State) (n : Nat) : State :=
  let rs := (s.fanSources n).map s.fanSource
  match hottestOf rs with
  | none => s
  | some r =>
    let was := s.on (F.FAN_TEMP_FAULT n)
    let s := ((s.wr (F.FAN_TEMP_VALUE n) (wrapInt 16 r.1)).wrB (F.FAN_TEMP_FAULT n) r.2.1).wrB (F.FAN_TEMP_SUSPECT n) r.2.2.1
    let s := if rs.any fun x => x.2.2.2 then s.setOn (F.FAN_STAT_CFG_ERR n) else s
    s.raiseIf (r.2.1 && !was) 282

/-- MIN_DUTY and MAX_DUTY hold a duty (R504): MAX_DUTY wins (R510 for a pump), and a channel that may stop uses 0 below MIN_DUTY. -/
def State.holdDuty (s : State) (n : Nat) (d : Int) : Nat :=
  let lo := s.minDuty n
  let hi := s.maxDuty n
  if s.on (F.FAN_CFG_STOP_OK n) && !s.on (F.FAN_CFG_PUMP n) && decide (d < lo) then 0
  else (min (hi : Int) (max (lo : Int) d)).toNat

/-- The points of a channel's table: temperature and duty. -/
def State.fanTable (s : State) (n : Nat) : List (Int × Nat) :=
  (List.range 8).map fun i => (sext 16 (s.rd (F.FAN_TBL_T n i)), s.rd (F.FAN_TBL_DUTY n i))

/-- The points rise strictly in T. -/
def tableRises : List (Int × Nat) → Bool
  | a :: b :: r => decide (a.1 < b.1) && tableRises (b :: r)
  | _ => true

/-- Duty of a rising table at a temperature (R506); the spec states no rounding between two points. -/
def State.tableDuty (s : State) (t : Int) : List (Int × Nat) → Int × State
  | [] => (0, s)
  | [a] => (a.2, s)
  | a :: b :: r =>
    if t ≤ a.1 then (a.2, s)
    else if t < b.1 then
      s.roundFree ((a.2 : Int) * (b.1 - a.1) + (t - a.1) * ((b.2 : Int) - a.2)) (b.1 - a.1).toNat
    else s.tableDuty t (b :: r)

/-- T_eff follows T (R506). -/
def follow (teff : Option Int) (t hyst : Int) : Int :=
  match teff with
  | none => t
  | some e => if e < t then t else if t + hyst < e then t + hyst else e

/-- One period of the PI modes (R505): the duty, and I. keep holds the integrator while the safety loop has the channel (R514). -/
def State.piStep (s : State) (n : Nat) (e : Int) (keep : Bool) : Int × Int :=
  let sh := s.rd (F.FAN_PI_SHIFT n)
  let p := (s.rd (F.FAN_PI_KP n) * e) / (2 ^ sh : Nat)
  let k := (s.rd (F.FAN_PI_KI n) * e) / (2 ^ sh : Nat)
  let i0 := (s.fch n).integ
  let i1 := if keep then i0 else i0 + k
  let d := p + i1
  let lo : Int := (s.minDuty n : Nat)
  let hi : Int := (s.maxDuty n : Nat)
  if (hi < d ∧ 0 < k) ∨ (d < lo ∧ k < 0) then (d, i0) else (d, i1)

/-- The duty a mode computes (R504-R506), before it is held. -/
def State.modeDuty (s : State) (n mode : Nat) : Int × State :=
  let t : Int := sext 16 (s.rd (F.FAN_TEMP_VALUE n))
  let none_ := (s.fanSources n).isEmpty
  let keep := s.on (F.FAN_STAT_SAFE n)
  let top : Int := (s.maxDuty n : Nat)
  match mode with
  | 0 => (if s.on (F.FAN_CFG_PUMP n) then (s.minDuty n : Nat) else 0, s)
  | 2 =>
    if none_ then (top, s)
    else if !tableRises (s.fanTable n) then (top, s.setOn (F.FAN_STAT_CFG_ERR n))
    else
      let e := follow (s.fch n).teff t (s.rd (F.FAN_PI_HYST n))
      (s.modFch n fun c => { c with teff := some e }).tableDuty e (s.fanTable n)
  | 3 =>
    let r := s.piStep n ((s.rd (F.FAN_SET_TARGET n) : Int) - s.rd (F.FAN_RPM_RPM n)) keep
    (r.1, s.modFch n fun c => { c with integ := r.2 })
  | 4 =>
    if none_ then (top, s) else
    let r := s.piStep n (t - sext 16 (s.rd (F.FAN_SET_TARGET n))) keep
    (r.1, s.modFch n fun c => { c with integ := r.2 })
  | _ => ((s.rd (F.FAN_SET_TARGET n) : Nat), s)

/-- FAN_LOOP_PERIOD (R504-R508): the channel's loop period has passed. -/
def execFanLoopPeriod (n : Fin 8) (s : State) : Res :=
  .next (if !s.live domFAN then s else
    let mode := s.rd (F.FAN_CFG_MODE n)
    let s := s.fanTemp n
    let s := if (mode == 3 || mode == 4) && (s.fch n).mode != some mode then
      s.modFch n fun c => { c with integ := (s.rd (F.FAN_STAT_DUTY n) : Nat) } else s
    let s := s.modFch n fun c => { c with mode := some mode }
    let r := s.modeDuty n mode
    let d := r.2.holdDuty n r.1
    (r.2.modFch n fun c => { c with duty := d }).refreshFan n)

/-- RPM from the last edge intervals (R503). -/
def rpmOf (gaps : List Nat) (ppr : Nat) : Option Nat :=
  if gaps.length < ppr then none else
  let t := (gaps.take ppr).sum
  some (if t = 0 then 65535 else min 65535 (60000000 / t))

/-- FAN_TACH_EDGE (R503, R524): a filtered edge, dt µs after the counted edge before it. rel says that the output has been released for 2 ms,
and phase that a driven-low phase lies between the edges; both matter with FREQ_LOW = 1. tie is an edge on which a count ends. -/
def execFanTachEdge (n : Fin 8) (dt : Nat) (rel phase tie : Bool) (s : State) : Res :=
  .next (
    let low := s.on (F.FAN_CFG_FREQ_LOW n)
    if !s.live domFAN || !s.on (F.FAN_CFG_TACH_EN n) || (low && !rel) then s else
    let c := s.fch n
    let gaps := if !c.edgeSeen || (low && phase) then [] else (dt :: c.gaps).take 4
    let s := s.modFch n fun c => { c with edgeSeen := true, gaps := gaps }
    let s := if tie then s.count F.FAN_COINCIDE_COUNT 1 else s
    let s := s.setOn (F.FAN_RPM_TACH_SEEN n)
    match rpmOf gaps (s.rd (F.FAN_CFG_PPR n) + 1) with
    | some r => s.wr (F.FAN_RPM_RPM n) r
    | none => s)

/-- FAN_TACH_LAPSE (R503): 2 s without a counted edge. -/
def execFanTachLapse (n : Fin 8) (s : State) : Res :=
  .next (if s.live domFAN then s.clr (F.FAN_RPM_TACH_SEEN n) else s)

/-- FAN_KICK_END (R508): the end of a kick starts none. -/
def execFanKickEnd (n : Fin 8) (s : State) : Res :=
  .next (if s.live domFAN && s.on (F.FAN_STAT_KICK n) then
    let s := s.clr (F.FAN_STAT_KICK n)
    s.wr (F.FAN_STAT_DUTY n) (s.fanDuty n) else s)

/-- The learn ends with a code (R520): the channel returns to its mode with I preset to the learn duty. -/
def State.learnEnd (s : State) (code : Nat) : State :=
  let n := s.rd F.FAN_LEARN_STAT_CH
  let d := s.fan.learnDuty
  let s := (s.modFch n fun c => { c with integ := (d : Int) }).clr (F.FAN_STAT_LEARNING n)
  (((s.clr F.FAN_LEARN_STAT_BUSY).setOn F.FAN_LEARN_STAT_DONE).wr F.FAN_LEARN_STAT_CODE code).raise 281 |>.refreshFan n

/-- FAN_STALL (R509): no counted edge for STALL × 100 ms at a duty above 0. -/
def execFanStall (n : Fin 8) (s : State) : Res :=
  .next (if !s.live domFAN || !s.on (F.FAN_CFG_TACH_EN n) || s.rd (F.FAN_STAT_DUTY n) == 0 || s.on (F.FAN_STAT_KICK n)
      || s.on (F.FAN_STAT_STALLED n) then s else
    let s := ((s.setOn (F.FAN_STAT_STALLED n)).setOn (F.FAN_STAT_STALL n)).raise (270 + n)
    (if s.on (F.FAN_STAT_LEARNING n) then s.learnEnd 2 else s).refreshFan n)

/-- FAN_STALL_CLEAR (R509): edges have been counted for 1 s without a break. -/
def execFanStallClear (n : Fin 8) (s : State) : Res :=
  .next (if s.live domFAN && s.on (F.FAN_STAT_STALLED n) && s.on (F.FAN_RPM_TACH_SEEN n)
    then (s.clr (F.FAN_STAT_STALLED n)).refreshFan n else s)

/-- FAN_PUMP_LOW (R510): RPM has stayed below PUMP_RPM for the stall time. -/
def execFanPumpLow (n : Fin 8) (s : State) : Res :=
  .next (if !s.live domFAN || !s.on (F.FAN_CFG_PUMP n) || !s.on (F.FAN_CFG_TACH_EN n) || s.on (F.FAN_STAT_PUMP_LOW n)
      || s.rd (F.FAN_STAT_DUTY n) == 0 || decide (s.rd (F.FAN_SET_PUMP_RPM n) ≤ s.rd (F.FAN_RPM_RPM n)) then s
    else ((s.setOn (F.FAN_STAT_PUMP_LOW n)).raise 283).refreshFan n)

/-- FAN_PUMP_RECOVER (R510): RPM has been at or above PUMP_RPM for 1 s. -/
def execFanPumpRecover (n : Fin 8) (s : State) : Res :=
  .next (if s.live domFAN && s.on (F.FAN_STAT_PUMP_LOW n) && decide (s.rd (F.FAN_SET_PUMP_RPM n) ≤ s.rd (F.FAN_RPM_RPM n))
    then (s.clr (F.FAN_STAT_PUMP_LOW n)).refreshFan n else s)

/-- The watched sources that have FAULT set, as LAST_SRC names them (Table 15-2). -/
def State.faultedSources (s : State) : List Nat :=
  ((List.range 40).filter fun c => bit (s.fanSafeWord 1 + 2 ^ 32 * bits (s.fanSafeWord 2) 7 0) c && decide (16 ≤ c) && decide (c ≤ 28)
      && (s.tempSeen c).2)
    ++ ((List.range 8).filter fun k => bit (s.rd F.FAN_SAFE_CFG_SLOT_MASK) k && (s.slotSeen k).2).map (0x40 + ·)

/-- Has the audit found the FANSAFE section diverged? -/
def State.fanDiverged (s : State) : Bool :=
  match s.till 0x028 with
  | some t => bit (s.rd F.TIL_DIV_LO_DIV + 2 ^ 32 * s.rd F.TIL_DIV_HI_DIV) t.index
  | none => false

/-- The causes that hold (Table 15-2). -/
def State.safeCauses (s : State) : Nat :=
  b2n (!s.fan.loaded) + 2 * b2n (s.fan.late && s.on F.FAN_SAFE_STAT_ARMED) + 4 * b2n (!s.faultedSources.isEmpty) + 8 * b2n s.fanDiverged + 16 * b2n s.fan.forced

/-- The safety loop takes its channels (R514). -/
def State.safeTake (s : State) : State :=
  let s := (s.setOn F.FAN_SAFE_STAT_ACTIVE).level 278 true
  if !s.domOn domFAN then s else
  let s := if s.on F.FAN_LEARN_STAT_BUSY && s.fanMasked (s.rd F.FAN_LEARN_STAT_CH) then s.learnEnd 3 else s
  (List.range 8).foldl (fun s n => (s.wrB (F.FAN_STAT_SAFE n) (s.fanMasked n)).refreshFan n) s

/-- The safety loop releases its channels, each with I preset to the duty in force (R517). -/
def State.safeRelease (s : State) : State :=
  let s := (s.clr F.FAN_SAFE_STAT_ACTIVE).level 278 false
  if !s.domOn domFAN then s else
  (List.range 8).foldl (fun s n =>
    if !s.on (F.FAN_STAT_SAFE n) then s else
    let d := s.rd (F.FAN_STAT_DUTY n)
    ((s.modFch n fun c => { c with integ := (d : Int) }).clr (F.FAN_STAT_SAFE n)).refreshFan n) s

/-- FAN_SAFETY_PERIOD (R512, R517): a safety period boundary in run. -/
def execFanSafetyPeriod (s : State) : Res :=
  .next (if !s.live 0 || !s.fan.watched || s.pwr.phase == .stopped then s else
    let was := s.rd F.FAN_SAFE_STAT_CAUSE
    let now := s.safeCauses
    let s := s.wr F.FAN_SAFE_STAT_CAUSE now
    let s := if bit now 2 && !bit was 2 then s.wr F.FAN_SAFE_STAT_LAST_SRC (s.faultedSources.headD 0) else s
    if now != 0 then s.safeTake else if s.on F.FAN_SAFE_STAT_ACTIVE then s.safeRelease else s)

/-- A write of FAN_SAFE_HB by a core (R513). tie is one that lands on the edge on which the count ends (R524). -/
def State.heartbeat (s : State) (who : Agent) (w : Word) (tie : Bool) : State :=
  if F.FAN_SAFE_HB_KEY.of w != 0xB5 || who.coreOf.isNone then s else
  let s := if tie && s.on F.FAN_SAFE_STAT_ARMED && !s.fan.late then s.count F.FAN_COINCIDE_COUNT 1 else s
  (s.setOn F.FAN_SAFE_STAT_ARMED).modFan fun c => { c with late := false }

/-- FAN_HEARTBEAT (R513). -/
def execFanHeartbeat (who : Agent) (key : BitVec 8) (tie : Bool) (s : State) : Res :=
  let w : Word := BitVec.ofNat 32 (key.toNat * 2 ^ 24)
  .next (s.access who 0 Reg.FAN_SAFE_HB w false fun s => s.heartbeat who w tie)

/-- FAN_HEARTBEAT_TIMEOUT (R512): HB_TIMEOUT × 100 ms have passed without one. -/
def execFanHeartbeatTimeout (s : State) : Res :=
  .next (if s.live 0 && s.on F.FAN_SAFE_STAT_ARMED && s.pwr.phase != .stopped then s.modFan fun c => { c with late := true } else s)

/-- A write of FAN_SAFE_CMD (Table 15-2, R525): UNFORCE wins. -/
def State.safeCmdWrite (s : State) (w : Word) : State :=
  if F.FAN_SAFE_CMD_KEY.of w != 0x5F then s
  else if F.FAN_SAFE_CMD_UNFORCE.has w then s.modFan fun c => { c with forced := false }
  else if F.FAN_SAFE_CMD_FORCE.has w then s.modFan fun c => { c with forced := true } else s

/-- FORCE (R512). -/
def execForce (who : Agent) (key : BitVec 8) (s : State) : Res :=
  let w : Word := BitVec.ofNat 32 (key.toNat * 2 ^ 24 + 1)
  .next (s.access who 0 Reg.FAN_SAFE_CMD w true fun s => s.safeCmdWrite w)

/-- UNFORCE (R512). -/
def execUnforce (who : Agent) (key : BitVec 8) (s : State) : Res :=
  let w : Word := BitVec.ofNat 32 (key.toNat * 2 ^ 24 + 2)
  .next (s.access who 0 Reg.FAN_SAFE_CMD w true fun s => s.safeCmdWrite w)

/-- Duty of learn point i (R519): LO + round(i × (1,000 - LO) / 7). -/
def State.learnPoint (s : State) (i : Nat) : Nat :=
  let lo : Int := (min 1000 (s.rd F.FAN_LEARN_CFG_LO) : Nat)
  (lo + (2 * (i * (1000 - lo)) + 7) / 14).toNat

/-- A learn is asked for (R519). -/
def State.learnGo (s : State) (ch : Nat) : State :=
  let busy := s.on F.FAN_LEARN_STAT_BUSY
  if busy || !s.on (F.FAN_CFG_TACH_EN ch) || s.on (F.FAN_STAT_SAFE ch) || s.on (F.FAN_STAT_STALLED ch) then
    let s := if busy then s else s.wr F.FAN_LEARN_STAT_CH ch
    ((s.setOn F.FAN_LEARN_STAT_DONE).wr F.FAN_LEARN_STAT_CODE 1).raise 281
  else
    let s := ((s.setOn F.FAN_LEARN_STAT_BUSY).wr F.FAN_LEARN_STAT_CH ch).wr F.FAN_LEARN_STAT_POINT 0
    let s := s.modFan fun c => { c with learn := [], learnDuty := s.learnPoint 0 }
    (s.setOn (F.FAN_STAT_LEARNING ch)).refreshFan ch

/-- A write of FAN_LEARN (R519, R520). -/
def State.learnWrite (s : State) (w : Word) : State :=
  if F.FAN_LEARN_KEY.of w != 0xA7 then s else
  let s := if F.FAN_LEARN_ABORT.has w && s.on F.FAN_LEARN_STAT_BUSY then s.learnEnd 4 else s
  if F.FAN_LEARN_GO.has w then s.learnGo (F.FAN_LEARN_CH.of w) else s

/-- FAN_LEARN (R519). -/
def execFanLearn (who : Agent) (key : BitVec 8) (ch : Fin 8) (s : State) : Res :=
  let w : Word := BitVec.ofNat 32 (key.toNat * 2 ^ 24 + ch.val * 256 + 1)
  .next (s.access who domFAN Reg.FAN_LEARN w true fun s => s.learnWrite w)

/-- FAN_LEARN_ABORT (R520). -/
def execFanLearnAbort (who : Agent) (key : BitVec 8) (s : State) : Res :=
  let w : Word := BitVec.ofNat 32 (key.toNat * 2 ^ 24 + 2)
  .next (s.access who domFAN Reg.FAN_LEARN w true fun s => s.learnWrite w)

/-- RPM values that rise strictly. -/
def rises : List Nat → Bool
  | a :: b :: r => decide (a < b) && rises (b :: r)
  | _ => true

/-- The last point is in: the baseline goes to the pending set, with a commit of its own (R520). -/
def State.learnFinish (s : State) (n : Nat) (rpms : List Nat) : State :=
  let rec0 := 0x0200 + n
  let d := (s.cal.count / 2 ^ 24) % 2 ^ 32 :: (List.range 8).map fun i => 65536 * natAt rpms i + s.learnPoint i
  if !rises rpms then s.learnEnd 5
  else if !s.pendFits rec0 9 then s.learnEnd 6
  else (s.learnEnd 0).pendRecord (rec0 + 0x30000 + 9 * 2 ^ 24) d |>.hwCommit

/-- FAN_LEARN_POINT (R519): SETTLE and the 2 s average have passed; rpm is the average. -/
def execFanLearnPoint (rpm : BitVec 16) (s : State) : Res :=
  .next (if !s.live domFAN || !s.on F.FAN_LEARN_STAT_BUSY then s else
    let n := s.rd F.FAN_LEARN_STAT_CH
    let rpms := s.fan.learn ++ [rpm.toNat]
    if rpms.length < 8 then
      let s := s.modFan fun c => { c with learn := rpms, learnDuty := s.learnPoint rpms.length }
      (s.wr F.FAN_LEARN_STAT_POINT rpms.length).refreshFan n
    else s.learnFinish n rpms)

/-- The points of a baseline: RPM and duty (R518). -/
def basePoints (b : List Nat) : List (Nat × Nat) :=
  (List.range 8).map fun i => (bits (natAt b (i + 1)) 31 16, bits (natAt b (i + 1)) 15 0)

/-- Is a baseline usable (R518)? -/
def baseUsable (b : List Nat) : Bool := rises ((basePoints b).map (·.1))

/-- The two points that bracket a speed. -/
def bracket (r : Nat) : List (Nat × Nat) → Option ((Nat × Nat) × (Nat × Nat))
  | a :: b :: t => if a.1 ≤ r ∧ r ≤ b.1 then some (a, b) else bracket r (b :: t)
  | _ => none

/-- D / B as a fraction (R521): B is interpolated between the two points. A B that is not positive states no ratio: a free value. -/
def State.ageRatio (s : State) (d r : Nat) (p : (Nat × Nat) × (Nat × Nat)) : (Nat × Nat) × State :=
  let den : Int := (p.2.1 : Int) - p.1.1
  let b : Int := (p.1.2 : Int) * den + ((r : Int) - p.1.1) * ((p.2.2 : Int) - p.1.2)
  if 0 < b then ((d * den.toNat, b.toNat), s)
  else
    let q := s.freeBelow 65536
    ((q.1, 1000), q.2)

/-- Do the conditions of an ageing sample hold (R521)? -/
def State.ageOk (s : State) (n : Nat) : Bool :=
  let m := s.rd (F.FAN_CFG_MODE n)
  let r := s.rd (F.FAN_RPM_RPM n)
  decide (1 ≤ m) && decide (m ≤ 4) && !s.on (F.FAN_STAT_KICK n) && !s.on (F.FAN_STAT_STALLED n) && !s.on (F.FAN_STAT_PUMP_LOW n)
    && !s.on (F.FAN_STAT_LEARNING n) && !s.on (F.FAN_STAT_SAFE n) && s.on (F.FAN_RPM_TACH_SEEN n) && s.on (F.FAN_CFG_TACH_EN n)
    && (match (s.fch n).lastRpm with
      | some p => decide (100 * (r - p) ≤ 2 * p) && decide (100 * (p - r) ≤ 2 * p)
      | none => false)

/-- FAN_AGEING_SAMPLE (R521): once per second. tie is a sample due on the edge on which its window closes (R524). -/
def execFanAgeingSample (n : Fin 8) (tie : Bool) (s : State) : Res :=
  .next (if !s.live domFAN then s else
    let r := s.rd (F.FAN_RPM_RPM n)
    let c := s.fch n
    let s' := s.modFch n fun c => { c with lastRpm := some r }
    if !baseUsable c.base || !s.ageOk n then s' else
    match bracket r (basePoints c.base) with
    | none => s'
    | some p =>
      let q := s'.ageRatio (s.rd (F.FAN_STAT_DUTY n)) r p
      let num := c.sumNum * q.1.2 + q.1.1 * c.sumDen
      let den := c.sumDen * q.1.2
      let g := Nat.gcd num den
      let s' := q.2.modFch n fun c => { c with samples := c.samples + 1, sumNum := num / g, sumDen := den / g }
      if tie then s'.count F.FAN_COINCIDE_COUNT 1 else s')

/-- A threshold bit of the ageing indicator (R522). -/
def State.ageBit (s : State) (n : Nat) (f : Nat → Fld) (thr ev : Nat) : State :=
  let r := s.rd (F.FAN_AGE_RATIO n)
  if s.on (f n) then (if r + 20 < thr then s.clr (f n) else s)
  else if thr < r then (s.setOn (f n)).raise ev else s

/-- A channel's next ageing window begins with the baseline of the record (R518). -/
def State.newWindow (s : State) (n : Nat) : State :=
  let b := s.record (0x0200 + n)
  (s.modFch n fun c => { c with base := b, samples := 0, sumNum := 0, sumDen := 1 }).wrB (F.FAN_AGE_NO_BASE n) (!baseUsable b)

/-- FAN_AGEING_WINDOW (R522): a 600 s window ends. A ratio the field cannot hold is not stated: a free value. -/
def execFanAgeingWindow (n : Fin 8) (s : State) : Res :=
  .next (if !s.live domFAN then s else
    let c := s.fch n
    let s :=
      if !baseUsable c.base then s
      else if c.samples < 300 then s.setOn (F.FAN_AGE_SPARSE n)
      else
        let d := c.sumDen * c.samples
        let ratio := (2000 * c.sumNum + d) / (2 * d)
        let r := if ratio < 65536 then (ratio, s) else s.freeBelow 65536
        let s := (r.2.wr (F.FAN_AGE_RATIO n) r.1).clr (F.FAN_AGE_SPARSE n)
        (s.ageBit n F.FAN_AGE_WARN (s.rd F.FAN_AGE_CFG_WARN) 279).ageBit n F.FAN_AGE_ALARM (s.rd F.FAN_AGE_CFG_ALARM) 280
    s.newWindow n)

/-- A write of FAN_CFG: with TACH_EN = 0 the channel measures nothing and RPM reads 0 (R503). -/
def State.fanCfgWrite (s : State) (n : Nat) (w : Word) : State :=
  let s := s.accWrite (Reg.FAN_CFG n) w
  if s.on (F.FAN_CFG_TACH_EN n) then s
  else (s.setWord (Reg.FAN_RPM n) 0).modFch n fun c => { c with edgeSeen := false, gaps := [] }

/-- FAN has loaded its tills after its power-up or reset: channels begin, the safety loop still holding its own. Another channel keeps the 100 % of
its pull-up (R29, R33) until its mode gives a duty at the first loop period; the spec names no instant for that (DESIGN CHOICE, log 115). -/
def State.fanStart (s : State) : State :=
  let s := s.modFan fun c => { c with chans := List.replicate 8 {}, learn := [], learnDuty := 0, loaded := true }
  (List.range 8).foldl (fun s n =>
    let s := (s.newWindow n).wrB (F.FAN_STAT_SAFE n) (s.on F.FAN_SAFE_STAT_ACTIVE && s.fanMasked n)
    s.wr (F.FAN_STAT_DUTY n) (s.fanDuty n)) s

/-- Does the AO fan safety loop drive a channel's pad (R514)? It does so with FAN off too, but not in stop nor while VCORE is low (R516). -/
def State.aoDrivesFan (s : State) (n : Nat) : Bool :=
  s.fan.watched && s.on F.FAN_SAFE_STAT_ACTIVE && s.fanMasked n && s.pwr.phase != .stopped && !s.fl.vcoreLow

/-- A learn ends with ABORTED at an LDR, an SWR of FAN or stop entry (Table 15-4), and its window is discarded. -/
def State.fanAbort (s : State) : State :=
  if s.domOn domFAN && s.on F.FAN_LEARN_STAT_BUSY then s.learnEnd 4 else s

/-- The safety loop is live at step 9 of first light (R513): ARM_AT_START arms the watch. -/
def State.safeStart (s : State) : State :=
  let s := s.modFan fun c => { c with watched := true, late := false }
  if s.on F.FAN_SAFE_CFG_ARM_AT_START then s.setOn F.FAN_SAFE_STAT_ARMED else s

/-- FAN's tills are not loaded any more: at a BOR, and until the next start (Table 15-2). -/
def State.fanUnload (s : State) : State := s.modFan fun c => { c with loaded := false }

end Sys2Proof.Machine
end

