-- ==== Sys2Proof/Machine/Seq.lean ====
section
/-! DEFINITION. The Platform Power Sequencer (chapter 05): the graph, rails and steps, power-good, faults and drops, the RUN latch and
the power-restore policy, PFAIL_N, and the rail monitors. A Sequencer cycle counts 10 µs and does whatever falls due in it. -/

namespace Sys2Proof.Machine

/-- A rail record (Table 02-5), with PG_TIMEOUT in Sequencer cycles. -/
structure RailRec where
  num : Nat
  src : Nat
  resp : Nat
  enLow : Bool
  disch : Bool
  rise : Nat
  tmo : Nat
  deriving DecidableEq, Repr

/-- A step record (Table 02-5). -/
structure StepRec where
  num : Nat
  act : Nat
  pred1 : Nat
  pred2 : Nat
  cond : Nat
  delay : Nat
  deriving DecidableEq, Repr

/-- A monitor record (Table 02-5). -/
structure MonRec where
  num : Nat
  filter : Nat
  lo : Nat
  hi : Nat
  enable : Bool
  deriving DecidableEq, Repr

/-- The rail records of a SEQGRAPH body. -/
def railRecs (b : List Byte) : List RailRec :=
  (List.range (seqCounts b).1).map fun i =>
    let o := 4 + 8 * i
    let fl := u8At b (o + 2)
    ⟨u8At b o, u8At b (o + 1), bits fl 2 0, bit fl 3, bit fl 4, u16At b (o + 4), 10 * u16At b (o + 6)⟩

/-- The step records of a SEQGRAPH body. -/
def stepRecs (b : List Byte) : List StepRec :=
  (List.range (seqCounts b).2.1).map fun i =>
    let o := 4 + 8 * ((seqCounts b).1 + i)
    ⟨u8At b o, u8At b (o + 1), u8At b (o + 2), u8At b (o + 3), u8At b (o + 4), u16At b (o + 6)⟩

/-- The monitor records of a SEQGRAPH body. -/
def monRecs (b : List Byte) : List MonRec :=
  (List.range (seqCounts b).2.2).map fun i =>
    let o := 4 + 8 * ((seqCounts b).1 + (seqCounts b).2.1 + i)
    ⟨u8At b o, u8At b (o + 1), u16At b (o + 2), u16At b (o + 4), bit (u8At b (o + 6)) 0⟩

/-- Is the step's action rail on, rail off or set wire, and on what number? -/
def StepRec.kind (r : StepRec) : Nat := bits r.act 7 6
/-- The rail or wire number of the action. -/
def StepRec.target (r : StepRec) : Nat := if r.kind = 2 then bits r.act 4 0 else bits r.act 5 0

/-- The graph's rail records in force. -/
def State.railRecs (s : State) : List RailRec := Machine.railRecs (s.tillBody 0x010)
/-- The graph's step records in force. -/
def State.stepRecs (s : State) : List StepRec := Machine.stepRecs (s.tillBody 0x010)
/-- The graph's monitor records in force. -/
def State.monRecs (s : State) : List MonRec := Machine.monRecs (s.tillBody 0x010)
/-- The record of a rail. -/
def State.railRec (s : State) (r : Nat) : Option RailRec := s.railRecs.find? fun x => x.num == r
/-- The record of a step. -/
def State.stepRec (s : State) (n : Nat) : Option StepRec := s.stepRecs.find? fun x => x.num == n

/-- What is kept of a step. -/
def State.step' (s : State) (n : Nat) : StepRun := (s.seq.steps.find? fun x => x.num == n).getD { num := n }
/-- Change what is kept of a step. -/
def State.modStep (s : State) (n : Nat) (f : StepRun → StepRun) : State :=
  { s with seq := { s.seq with steps := s.seq.steps.map fun x => if x.num = n then f x else x } }
/-- What is kept of a rail. -/
def State.rail' (s : State) (r : Nat) : RailRun := s.seq.rails.getD r {}
/-- Change what is kept of a rail. -/
def State.modRail (s : State) (r : Nat) (f : RailRun → RailRun) : State :=
  { s with seq := { s.seq with rails := s.seq.rails.modify r f } }

/-- A 64-bit step mask shown in two registers. -/
def State.mask64 (s : State) (lo hi : Fld) : Nat := s.rd lo + s.rd hi <<< 32
/-- Done steps. -/
def State.doneMask (s : State) : Nat := s.mask64 F.SEQ_DONE_LO_DONE F.SEQ_DONE_HI_DONE
/-- Active steps. -/
def State.activeMask (s : State) : Nat := s.mask64 F.SEQ_ACTIVE_LO_ACTIVE F.SEQ_ACTIVE_HI_ACTIVE
/-- Faulted steps. -/
def State.faultedMask (s : State) : Nat := s.mask64 F.SEQ_FAULTED_LO_FAULTED F.SEQ_FAULTED_HI_FAULTED

/-- One bit of a step mask in its two registers. -/
def State.wrStep (s : State) (lo hi : Fld) (n : Nat) (v : Bool) : State :=
  if n < 32 then s.wr lo (setBits (s.rd lo) n n (b2n v)) else s.wr hi (setBits (s.rd hi) (n - 32) (n - 32) (b2n v))

/-- The four step states: 0 idle, 1 active, 2 done, 3 faulted. -/
def State.stepState (s : State) (n : Nat) : Nat :=
  if bit s.activeMask n then 1 else if bit s.doneMask n then 2 else if bit s.faultedMask n then 3 else 0

/-- Put a step into a state. -/
def State.setStepState (s : State) (n st : Nat) : State :=
  s.wrStep F.SEQ_ACTIVE_LO_ACTIVE F.SEQ_ACTIVE_HI_ACTIVE n (st == 1)
    |>.wrStep F.SEQ_DONE_LO_DONE F.SEQ_DONE_HI_DONE n (st == 2)
    |>.wrStep F.SEQ_FAULTED_LO_FAULTED F.SEQ_FAULTED_HI_FAULTED n (st == 3)

/-- A step returns to idle: its queued request and its RETRY use end (R197, Table 05-3). -/
def State.idleStep (s : State) (n : Nat) : State :=
  (s.setStepState n 0).modStep n fun x => { x with phase := .rest, cnt := 0, queued := false, retried := false }

/-- Is a rail's enable asserted? -/
def State.railOn (s : State) (r : Nat) : Bool := bit (s.rd F.SEQ_RAIL_EN_EN) r

/-- Is a rail's power-good source valid (R180)? none for PG_SRC 0xFF. A pin source needs its function on a ball (R658). -/
def State.pgValid (s : State) (r : RailRec) : Option Bool :=
  if r.src = 0xFF then none
  else if bit r.src 7 then some (bit s.seq.pgPins (bits r.src 4 0) && s.pinned (.seqPg (bits r.src 4 0)))
  else some (s.on (F.SEQ_MON_IN_WIN (bits r.src 3 0)))

/-- Is rail-on held back: LOCKOUT (R189) or PFAIL_HOLD (R194)? -/
def State.onHeld (s : State) : Bool := s.on F.SEQ_STATUS_LOCKOUT || s.on F.SEQ_STATUS_PFAIL_HOLD

/-- The fixed conditions as SEQ_COND_FIX shows them (Table 05-2, R195). -/
def State.fixedConds (s : State) : Nat :=
  let w (i : Nat) : Bool := bit s.seq.host i
  let pf := s.on F.SEQ_STATUS_PFAIL_PIN
  let run := s.on F.SEQ_STATUS_RUN
  let l : List Bool := [!w 2, w 2, !w 1, w 1, !w 0, w 0, !w 3, w 3, w 4, !w 4, s.seq.espiHigh, !s.seq.espiHigh,
      pf, !pf, run, !run] ++ (List.range 16).map fun m => s.on (F.SEQ_MON_IN_WIN m)
  (List.range 32).foldl (fun a i => if l.getD i false then orBit a i else a) 0

/-- Word k of the routed conditions (R183): a latch, or a level route that is active. -/
def State.routedWord (s : State) (k : Nat) : Nat :=
  (List.range 32).foldl (fun a i => if bit s.seq.latch (32 * k + i) || s.routeHolds 4 (32 * k + i) then orBit a i else a) 0

/-- SEQ_COND_k and SEQ_COND_FIX brought up to date. -/
def State.refreshConds (s : State) : State :=
  s.wr F.SEQ_COND_FIX_COND s.fixedConds |>.wr (F.SEQ_COND_COND 0) (s.routedWord 0) |>.wr (F.SEQ_COND_COND 1) (s.routedWord 1)
    |>.wr (F.SEQ_COND_COND 2) (s.routedWord 2) |>.wr (F.SEQ_COND_COND 3) (s.routedWord 3)

/-- Is a COND true (R183)? 0xFF always is. -/
def State.condTrue (s : State) (c : Nat) : Bool :=
  if c = 0xFF then true
  else if c < 128 then bit (s.rd (F.SEQ_COND_COND (c / 32))) (c % 32)
  else bit (s.rd F.SEQ_COND_FIX_COND) (c - 128)

/-- Are both PRED steps of a record done? -/
def State.predsDone (s : State) (r : StepRec) : Bool :=
  (r.pred1 == 0xFF || bit s.doneMask r.pred1) && (r.pred2 == 0xFF || bit s.doneMask r.pred2)

/-- The rail-on step of a rail in a given state, if there is one. -/
def State.onStepIn (s : State) (rail st : Nat) : Option StepRec :=
  s.stepRecs.find? fun r => r.kind == 0 && r.target == rail && s.stepState r.num == st

/-- The active rail-off step of a rail. -/
def State.offStepActive (s : State) (rail : Nat) : Bool :=
  s.stepRecs.any fun r => r.kind == 1 && r.target == rail && s.stepState r.num == 1

/-- Set or clear the RUN latch and its event level. -/
def State.putRun (s : State) (v : Bool) : State := (s.wrB F.SEQ_STATUS_RUN v).level 87 v

/-- A commanded value of the RUN latch: under LAST_STATE each change is committed as LAST (R192). -/
def State.commandRun (s : State) (v : Bool) : State :=
  if s.on F.SEQ_STATUS_RUN == v then s
  else let s := s.putRun v; if s.rd F.SEQ_POLICY_POLICY = 2 then s.commitLast v else s

/-- An active rail-on step whose action has not started goes idle when LOCKOUT or PFAIL_HOLD is set (R189). -/
def State.holdBack (s : State) : State :=
  s.stepRecs.foldl (fun s r =>
    let p := (s.step' r.num).phase
    if r.kind = 0 ∧ s.stepState r.num = 1 ∧ (p = .delay ∨ p = .waitOff ∨ p = .retry) then s.idleStep r.num else s) s

/-- Set LOCKOUT (R187 response 3). -/
def State.setLockout (s : State) : State := ((s.setOn F.SEQ_STATUS_LOCKOUT).level 86 true).holdBack

/-- Clear LOCKOUT (R189). -/
def State.clearLockout (s : State) : State := (s.clr F.SEQ_STATUS_LOCKOUT).level 86 false

/-- The RUN commands that meet in one AO cycle (R205): CLEAR_LOCK first, then RUN_CLR before RUN_SET before RUN_TOGGLE. -/
def State.runCommands (s : State) (set clr toggle unlock : Bool) : State :=
  let s := if unlock then s.clearLockout else s
  if clr then s.commandRun false
  else if s.on F.SEQ_STATUS_LOCKOUT then s
  else if set then s.commandRun true
  else if toggle then s.commandRun (!s.on F.SEQ_STATUS_RUN)
  else s

/-- Assert a rail's enable: SEQ_DIS is released first (R188). -/
def State.railEnable (s : State) (r : Nat) : State :=
  (s.wr F.SEQ_RAIL_EN_EN (orBit (s.rd F.SEQ_RAIL_EN_EN) r)).modRail r fun x =>
    { x with cnt := 0, settled := false, accepted := false, dis := false, recheck := false, retry := false, judge := false }

/-- Deassert a rail's enable, with SEQ_DIS under the discharge rule of R188. -/
def State.railDisable (s : State) (r : Nat) : State :=
  let disch := match s.railRec r with | some x => x.disch | none => false
  (s.wr F.SEQ_RAIL_EN_EN (clrBit (s.rd F.SEQ_RAIL_EN_EN) r) |>.wr F.SEQ_RAIL_PG_PG (clrBit (s.rd F.SEQ_RAIL_PG_PG) r)).modRail r
    fun x => { x with settled := false, accepted := false, dis := disch, disCnt := 0, recheck := false, judge := false, retry := false }

/-- The order of a completion (R182): the moment it comes in, and within one the step number. -/
def State.orderOf (s : State) (n : Nat) : Nat := 64 * s.seq.serial + n

/-- A moment later than those before it. -/
def State.laterOn (s : State) : State := { s with seq := { s.seq with serial := s.seq.serial + 1 } }

/-- A step's action completes: the step is done, and a queued request runs it again (R179, R197). -/
def State.completeStep (s : State) (n : Nat) : State :=
  let q := (s.step' n).queued
  let s := (s.setStepState n 2).modStep n fun x => { x with phase := .rest, cnt := 0, queued := false, order := s.orderOf n }
  { s with seq := { s.seq with armed := if q then orBit s.seq.armed n else s.seq.armed } }

/-- A rail-on step completes on its rail. -/
def State.completeOn (s : State) (n rail : Nat) (accepted : Bool) : State :=
  (s.completeStep n).modRail rail fun x => { x with settled := true, order := s.orderOf n, accepted := accepted }

/-- Name rails to a drop that is under way (R188, R204). -/
def State.addDrop (s : State) (m : Nat) : State := { s with seq := { s.seq with drop := s.seq.drop ||| m } }

/-- The steps that depend on those of a mask, directly or through others, as a mask that holds the roots too. -/
def dependants (rs : List StepRec) (roots : Nat) : Nat :=
  (List.range rs.length).foldl (fun m _ => rs.foldl (fun m r =>
    if (r.pred1 != 0xFF && bit m r.pred1) || (r.pred2 != 0xFF && bit m r.pred2) then orBit m r.num else m) m) roots

/-- The rails enabled by done rail-on steps that depend on a step. -/
def State.dependantRails (s : State) (n : Nat) : Nat :=
  let m := dependants s.stepRecs (orBit 0 n)
  s.stepRecs.foldl (fun a r =>
    if r.num ≠ n ∧ bit m r.num ∧ r.kind = 0 ∧ s.stepState r.num = 2 ∧ s.railOn r.target then orBit a r.target else a) 0

/-- Write SEQ_FAULT_LOG (Table 05-12). -/
def State.seqLog (s : State) (step rail kind resp : Nat) : State :=
  s.wr F.SEQ_FAULT_LOG_STEP step |>.wr F.SEQ_FAULT_LOG_RAIL rail |>.wr F.SEQ_FAULT_LOG_KIND kind
    |>.wr F.SEQ_FAULT_LOG_RESP resp |>.wr F.SEQ_FAULT_LOG_TIME s.seq.cyc

/-- KIND of PG_LATE. -/
abbrev pgLateKind : Nat := 1
/-- KIND of PG_LOST. -/
abbrev pgLostKind : Nat := 2
/-- KIND of PG_STUCK. -/
abbrev pgStuckKind : Nat := 3

/-- LOG (Table 05-3): a PG_LATE step becomes done, a PG_STUCK step asserts its enable and becomes done. The rail counts as not
settled (R188). -/
def State.faultLog (s : State) (step : Option Nat) (rail kind : Nat) : State :=
  let s := if kind = pgStuckKind then s.railEnable rail else s
  match step with
  | none => s
  | some n => if kind = pgLostKind ∨ s.stepState n = 2 then s else s.completeStep n

/-- RETRY (Table 05-3): the enable is deasserted for 10 ms. -/
def State.faultRetry (s : State) (step : Option Nat) (rail : Nat) : State :=
  let s := s.railDisable rail
  match step with
  | some n => (s.setStepState n 1).modStep n fun x => { x with phase := .retry, cnt := 0, retried := true }
  | none => s.modRail rail fun x => { x with retry := true, retryCnt := 0, retried := true }

/-- The faulting step becomes faulted. -/
def State.faultStep (s : State) (step : Option Nat) : State :=
  match step with
  | some n => (s.setStepState n 3).modStep n fun x => { x with phase := .rest, cnt := 0, queued := false }
  | none => s

/-- DROP_DEPENDANTS (Table 05-3). -/
def State.faultDrop (s : State) (step : Option Nat) (rail : Nat) : State :=
  let deps := match step with | some n => clrBit (s.dependantRails n) rail | none => 0
  ((s.railDisable rail).faultStep step).addDrop deps

/-- DROP_ALL (Table 05-3). -/
def State.faultDropAll (s : State) (step : Option Nat) : State :=
  (((s.addDrop (s.rd F.SEQ_RAIL_EN_EN)).putRun false).faultStep step).setLockout

/-- A rail fault (R187): logged, raised, put into the Daybook (R206), and answered by the rail's FAULT_RESP. With no step running it
acts on the rail's done rail-on step. A second fault takes response 2 in place of RETRY. -/
def State.railFault (s : State) (step : Option Nat) (rail kind : Nat) : State :=
  match s.railRec rail with
  | none => s
  | some rc =>
    let step := match step with | some n => some n | none => (s.onStepIn rail 2).map (·.num)
    let again := match step with | some n => (s.step' n).retried | none => (s.rail' rail).retried
    let resp := if rc.resp == 1 && again then 2 else rc.resp
    let s := s.seqLog (step.getD 0) rail kind resp
    let s := (s.daybook 0x02 (s.word Reg.SEQ_FAULT_LOG).toNat (s.rd F.SEQ_RAIL_EN_EN) 0).raise 80 |>.wakeSource 5
    if resp = 0 then s.faultLog step rail kind
    else if resp = 1 then s.faultRetry step rail
    else if resp = 2 then s.faultDrop step rail
    else s.faultDropAll step

/-- A rail-on action starts (Table 05-1, R181). -/
def State.startOn (s : State) (r : StepRec) : State :=
  let rail := r.target
  if s.offStepActive rail then s.modStep r.num fun x => { x with phase := .waitOff }
  else if s.railOn rail then s.modStep r.num fun x => { x with phase := .waitOn, cnt := 0 }
  else if ((s.railRec rail).bind s.pgValid).getD false then s.modStep r.num fun x => { x with phase := .waitInvalid, cnt := 0 }
  else (s.railEnable rail).modStep r.num fun x => { x with phase := .waitPg, cnt := 0 }

/-- A rail-off action starts: an active rail-on step of the rail ends without fault (R181). -/
def State.startOff (s : State) (r : StepRec) : State :=
  let rail := r.target
  let s := s.stepRecs.foldl (fun s x =>
    if x.kind = 0 ∧ x.target = rail ∧ s.stepState x.num = 1 then s.idleStep x.num else s) s
  if s.railOn rail then (s.railDisable rail).modStep r.num fun x => { x with phase := .waitFall, cnt := 0 }
  else s.completeStep r.num

/-- The action of an active step starts (R177, R179). -/
def State.startAction (s : State) (r : StepRec) : State :=
  if r.kind = 0 then (if s.onHeld then s.idleStep r.num else s.startOn r)
  else if r.kind = 1 then s.startOff r
  else s.completeStep r.num

/-- A rail-on step waits for power-good to go away; at the end of PG_TIMEOUT it is PG_STUCK. One that goes in that very cycle is taken (R202, R327). -/
def State.judgeInvalid (s : State) (r : StepRec) (x : RailRec) (due : Bool) : State :=
  if s.pgValid x ≠ some true then ((if due then s.count F.SEQ_COINCIDE_COUNT 1 else s).railEnable r.target).modStep r.num fun y => { y with phase := .waitPg, cnt := 0 }
  else if due then s.railFault (some r.num) r.target pgStuckKind else s

/-- A rail-on step waits for power-good (R180, R202): accepted from RISE_MIN on, PG_LATE at PG_TIMEOUT. -/
def State.judgeOn (s : State) (r : StepRec) (x : RailRec) (fromRise due : Bool) : State :=
  match s.pgValid x with
  | none => if fromRise then s.completeOn r.num r.target false else s
  | some true =>
    if fromRise then (if due then s.count F.SEQ_COINCIDE_COUNT 1 else s).completeOn r.num r.target true else s
  | some false => if due then s.railFault (some r.num) r.target pgLateKind else s

/-- A rail-off step waits for its rail to fall (Table 05-1, R202); at PG_TIMEOUT it completes with SEQ_FALL_LATE. -/
def State.judgeFall (s : State) (r : StepRec) (x : RailRec) (due : Bool) : State :=
  if s.pgValid x ≠ some true then (if due ∧ x.src ≠ 0xFF then s.count F.SEQ_COINCIDE_COUNT 1 else s).completeStep r.num
  else if due then ((s.seqLog r.num r.target 4 0).raise 81).completeStep r.num else s

/-- What an active step does in a cycle, once its phase is known. due forces the end of the count it waits on. -/
def State.advance (s : State) (r : StepRec) (due : Bool) : State :=
  let st := s.step' r.num
  match s.railRec r.target with
  | none => s
  | some x =>
    match st.phase with
    | .waitInvalid => s.judgeInvalid r x (due || decide (x.tmo ≤ st.cnt))
    | .waitPg =>
      let c := (s.rail' r.target).cnt
      s.judgeOn r x (due || decide (x.rise ≤ c)) (due || decide (x.tmo ≤ c))
    | .waitOn => s.judgeOn r x true (due || decide (x.tmo ≤ st.cnt))
    | .waitFall => s.judgeFall r x (due || decide (x.tmo ≤ st.cnt))
    | _ => s

/-- An active step in DELAY or waiting for a rail-off step (R177, R181). due forces the end of DELAY. -/
def State.advanceDelay (s : State) (r : StepRec) (due : Bool) : State :=
  let st := s.step' r.num
  match st.phase with
  | .delay => if due || decide (r.delay ≤ st.cnt) then s.startAction r else s
  | .waitOff => if s.offStepActive r.target then s else s.startAction r
  | _ => s

/-- RETRY's 10 ms end: the step restarts from DELAY (Table 05-3). -/
def State.restartStep (s : State) (n : Nat) : State := s.modStep n fun x => { x with phase := .delay, cnt := 0 }

/-- One active step through one cycle. -/
def State.runStep (s : State) (r : StepRec) : State :=
  if s.stepState r.num ≠ 1 then s else
  let s := if (s.step' r.num).phase = .retry ∧ 1000 ≤ (s.step' r.num).cnt then s.restartStep r.num else s
  let s := s.advanceDelay r false
  let s := if s.stepState r.num = 1 then s.advance r false else s
  -- a step that has enabled its rail and waits from RISE_MIN 0 is judged in the same cycle
  if s.stepState r.num = 1 ∧ (s.step' r.num).phase = .waitPg ∧ (s.rail' r.target).cnt = 0 then s.advance r false else s

/-- A rail enabled again after RETRY without a step is judged as for a rail-on action (Table 05-3). -/
def State.judgeRail (s : State) (x : RailRec) (due : Bool) : State :=
  let c := (s.rail' x.num).cnt
  if !(s.rail' x.num).judge then s
  else match s.pgValid x with
    | some false => if due || decide (x.tmo ≤ c) then
        (s.modRail x.num fun y => { y with judge := false }).railFault none x.num pgLateKind else s
    | v => if due || decide (x.rise ≤ c) then
        (if v == some true && (due || decide (x.tmo ≤ c)) then s.count F.SEQ_COINCIDE_COUNT 1 else s).modRail x.num fun y => { y with judge := false, accepted := v == some true } else s

/-- RETRY without a step: after 10 ms the enable is asserted again, unless rail-on is held back (Table 05-3, R189). -/
def State.restartRail (s : State) (r : Nat) : State :=
  if s.onHeld then s.modRail r fun x => { x with retry := false }
  else (s.railEnable r).modRail r fun x => { x with judge := true }

/-- The check of R198 on a rail kept over a change of graph. -/
def State.recheckRail (s : State) (x : RailRec) : State :=
  let r := s.rail' x.num
  if r.recheck ∧ x.tmo ≤ r.recheckCnt then
    let s := s.modRail x.num fun y => { y with recheck := false }
    match s.pgValid x with
    | some false => s.railFault none x.num pgLateKind
    | v => s.modRail x.num fun y => { y with accepted := v == some true }
  else s

/-- PG_LOST (R187): accepted power-good becomes invalid while the rail-on step is done. -/
def State.judgeLost (s : State) (x : RailRec) : State :=
  if (s.rail' x.num).accepted ∧ s.pgValid x = some false then
    let s := s.modRail x.num fun y => { y with accepted := false }
    match s.onStepIn x.num 2 with
    | some r => if s.railOn x.num then s.railFault (some r.num) x.num pgLostKind else s
    | none => s
  else s

/-- SEQ_DIS is released when power-good is invalid or PG_TIMEOUT has elapsed (R188). -/
def State.releaseDis (s : State) (x : RailRec) (due : Bool) : State :=
  let r := s.rail' x.num
  if r.dis ∧ (s.pgValid x = some false ∨ due ∨ x.tmo ≤ r.disCnt) then s.modRail x.num fun y => { y with dis := false } else s

/-- What one cycle judges of one rail beside its steps. -/
def State.runRail (s : State) (x : RailRec) : State :=
  let s := if (s.rail' x.num).retry ∧ 1000 ≤ (s.rail' x.num).retryCnt then s.restartRail x.num else s
  (((s.judgeRail x false).recheckRail x).judgeLost x).releaseDis x false

/-- Drop one rail: its rail-on steps return to idle, except a faulted one (R188). -/
def State.dropRail (s : State) (r : Nat) : State :=
  let s := s.railDisable r
  let s : State := { s with seq := { s.seq with drop := clrBit s.seq.drop r } }
  s.stepRecs.foldl (fun s x =>
    if x.kind = 0 ∧ x.target = r ∧ (s.stepState x.num = 1 ∨ s.stepState x.num = 2) then s.idleStep x.num else s) s

/-- The rail a drop takes next (R188): rails not settled in descending number, then the others in reverse of their completion. -/
def State.nextDrop (s : State) : Option Nat :=
  let c := (List.range 32).reverse.filter fun r => bit s.seq.drop r && s.railOn r
  match c.find? (fun r => !(s.rail' r).settled) with
  | some r => some r
  | none => c.find? fun r => c.all fun q => decide ((s.rail' q).order ≤ (s.rail' r).order)

/-- One rail of a drop in one cycle. -/
def State.dropOne (s : State) : State :=
  match s.nextDrop with
  | some r => s.dropRail r
  | none => { s with seq := { s.seq with drop := 0 } }

/-- Done and faulted steps return to idle while their COND is false or a PRED is not done, through all dependants (R178). -/
def State.propagate (s : State) : State :=
  let rs := s.stepRecs
  (List.range rs.length).foldl (fun s _ => rs.foldl (fun s r =>
    if (s.stepState r.num = 2 ∨ s.stepState r.num = 3) ∧ !(s.condTrue r.cond && s.predsDone r) then s.idleStep r.num else s) s) s

/-- Armed steps become active (R177); a rail-on step does not while rail-on is held back (R189). -/
def State.activate (s : State) : State :=
  let m := s.seq.armed
  let s : State := { s with seq := { s.seq with armed := 0 } }
  s.stepRecs.foldl (fun s r =>
    if bit m r.num ∧ s.stepState r.num ≠ 1 ∧ !(r.kind == 0 && s.onHeld) then
      (s.setStepState r.num 1).modStep r.num fun x => { x with phase := .delay, cnt := 0 }
    else s) s

/-- Idle steps that are satisfied become active in the following cycle (R177, R203). -/
def State.armSatisfied (s : State) : State :=
  s.stepRecs.foldl (fun s r =>
    if s.stepState r.num = 0 ∧ s.predsDone r ∧ s.condTrue r.cond ∧ !(r.kind == 0 && s.onHeld) then
      { s with seq := { s.seq with armed := orBit s.seq.armed r.num } } else s) s

/-- The level of a Sequencer wire (R182). -/
def State.wireLevel (s : State) (n : Nat) : Bool :=
  let c := s.stepRecs.filter fun r => r.kind == 2 && r.target == n && s.stepState r.num == 2
  match c.find? (fun r => c.all fun q => decide ((s.step' q.num).order ≤ (s.step' r.num).order)) with
  | some r => bit r.act 5
  | none => bit (s.rd F.SEQ_WIRE_DEF_DEF) n

/-- SEQ_WIRE and the SEQ_SWn sources brought up to date. -/
def State.refreshWires (s : State) : State :=
  (List.range 32).foldl (fun s n =>
    let v := s.wireLevel n
    if bit (s.rd F.SEQ_WIRE_SW) n == v then s
    else (s.wr F.SEQ_WIRE_SW (setBits (s.rd F.SEQ_WIRE_SW) n n (b2n v))).level (48 + n) v) s

/-- SUS_ACK (R196), held from the moment every step with COND 136 is done until SUS_WARN# is deasserted. -/
def State.refreshSusAck (s : State) : State :=
  let allDone := s.stepRecs.all fun r => r.cond != 136 || s.stepState r.num == 2
  s.hostWire 5 (bit s.seq.host 4 && (bit (s.rd F.HST_VW_OUT_WIRES) 5 || allDone))

/-- SEQ_RAIL_PG and SEQ_STATUS.IDLE brought up to date. -/
def State.refreshRails (s : State) : State :=
  let pg := s.railRecs.foldl (fun a x =>
    if s.railOn x.num ∧ (s.rail' x.num).accepted ∧ s.pgValid x = some true then orBit a x.num else a) 0
  s.wr F.SEQ_RAIL_PG_PG pg |>.wrB F.SEQ_STATUS_IDLE (s.activeMask == 0)

/-- Everything the Sequencer shows, brought up to date. -/
def State.refreshSeq (s : State) : State := s.refreshWires.refreshRails.refreshSusAck

/-- One more cycle in every count. -/
def State.tickCounts (s : State) : State :=
  { s with seq := { s.seq with
    cyc := (s.seq.cyc + 1) % 65536
    steps := s.seq.steps.map fun x => { x with cnt := x.cnt + 1 }
    rails := s.seq.rails.map fun x => { x with
      cnt := x.cnt + 1, disCnt := x.disCnt + 1, retryCnt := x.retryCnt + 1, recheckCnt := x.recheckCnt + 1 } } }

/-- Does the Sequencer run: started at step 9, and AO not frozen (R207)? -/
def State.seqLive (s : State) : Bool := s.seq.running && !s.frozen 0

/-- A Sequencer cycle in order: conditions, returns to idle, activation, active steps, rails, one rail of a drop,
satisfaction by the conditions as the cycle leaves them (R203), outputs. -/
def State.seqCycle (s : State) (pg : Nat) : State :=
  let s : State := { s with seq := { s.seq with pgPins := pg } }
  let s := s.laterOn.tickCounts.refreshConds.propagate.activate
  let s := s.stepRecs.foldl State.runStep s
  let s := s.railRecs.foldl State.runRail s
  s.dropOne.refreshConds.armSatisfied.refreshSeq

/-- SEQUENCER_CYCLE (R177): pg is the level of each SEQ_PG pin as the AO arbiter took it. -/
def execSequencerCycle (pg : Word) (s : State) : Res := .next (if s.seqLive then s.seqCycle pg.toNat else s)

/-- A step's record when it is active in a phase. -/
def State.activeIn (s : State) (n : Nat) (p : StepPhase) : Option StepRec :=
  if s.stepState n = 1 ∧ (s.step' n).phase = p then s.stepRec n else none

/-- STEP_DELAY_ELAPSED (R177): the DELAY of active step n has elapsed and its action starts. -/
def execStepDelayElapsed (n : Nat) (s : State) : Res :=
  .next (if !s.seqLive then s else match s.activeIn n .delay with
    | some r => ((s.laterOn.advanceDelay r true).advance r false).refreshSeq
    | none => s)

/-- RAIL_SETTLED (R179): RISE_MIN has elapsed since step n enabled a rail with no power-good source. -/
def execRailSettled (n : Nat) (s : State) : Res :=
  .next (if !s.seqLive then s else match s.activeIn n .waitPg with
    | some r => match s.railRec r.target with
      | some x => if x.src = 0xFF then (s.laterOn.judgeOn r x true false).refreshSeq else s
      | none => s
    | none => s)

/-- PG_LATE (R180): PG_TIMEOUT is reached for rail-on step n. Power-good that is valid in that cycle is accepted (R202). -/
def execPgLate (n : Nat) (s : State) : Res :=
  .next (if !s.seqLive then s else match s.stepRec n with
    | some r => if s.stepState n = 1 ∧ ((s.step' n).phase = .waitPg ∨ (s.step' n).phase = .waitOn) then
        ((s.laterOn.advance r true).dropOne).refreshSeq else s
    | none => s)

/-- PG_STUCK (R187): PG_TIMEOUT ends with rail-on step n waiting for power-good to go away. -/
def execPgStuck (n : Nat) (s : State) : Res :=
  .next (if !s.seqLive then s else match s.activeIn n .waitInvalid with
    | some r => ((s.laterOn.advance r true).dropOne).refreshSeq
    | none => s)

/-- SEQ_FALL_LATE (R179): PG_TIMEOUT of rail-off step n elapses. -/
def execSeqFallLate (n : Nat) (s : State) : Res :=
  .next (if !s.seqLive then s else match s.activeIn n .waitFall with
    | some r => (s.laterOn.advance r true).refreshSeq
    | none => s)

/-- DISCHARGE_TIMEOUT (R188): PG_TIMEOUT has elapsed since the rail's enable was deasserted. -/
def execDischargeTimeout (rail : Nat) (s : State) : Res :=
  .next (if !s.seqLive then s else match s.railRec rail with | some x => s.releaseDis x true | none => s)

/-- RAIL_RETRY_RESTART (R187): the 10 ms of RETRY on a rail have elapsed. -/
def execRailRetryRestart (rail : Nat) (s : State) : Res :=
  .next (if !s.seqLive then s else
    match s.stepRecs.find? (fun r => r.kind == 0 && r.target == rail && s.stepState r.num == 1 && (s.step' r.num).phase == .retry) with
    | some r => s.restartStep r.num
    | none => if (s.rail' rail).retry then s.restartRail rail else s)

/-- A monitor's filtered change (R185, R186); leaving its window is a wake source (Table 04-6). -/
def State.monFlip (s : State) (m : Nat) (v : Bool) : State :=
  let s := (s.wrB (F.SEQ_MON_IN_WIN m) v).raise (32 + m)
  if v then s else s.wakeSource 5

/-- A monitor's count of consecutive samples that show the other state. -/
def State.setMonRun (s : State) (m n : Nat) : State := { s with seq := { s.seq with monRun := s.seq.monRun.set m n } }

/-- MONITOR_SAMPLE (R185, R186, R201): monitor m samples its input as a 10-bit code of 3,300 / 1,024 mV. -/
def execMonitorSample (m : Fin 16) (code : BitVec 10) (s : State) : Res :=
  .next (if s.frozen 0 || !s.fl.vinValid then s else
    let mv := code.toNat * 3300 / 1024
    match s.monRecs.find? (fun r => r.num == m.val) with
    | none => s.wr (F.SEQ_MON_MV m) mv
    | some r =>
      let s := s.wr (F.SEQ_MON_MV m) mv |>.wrB (F.SEQ_MON_ABOVE m) (decide (r.hi < mv)) |>.wrB (F.SEQ_MON_BELOW m) (decide (mv < r.lo))
      let now := r.enable && decide (r.lo ≤ mv) && decide (mv ≤ r.hi)
      if now == s.on (F.SEQ_MON_IN_WIN m) then s.setMonRun m 0 else
      let k := s.seq.monRun.getD m 0 + 1
      if 1 + (r.filter + 4) / 5 ≤ k then (s.monFlip m now).setMonRun m 0 else s.setMonRun m k)

/-- Monitors take the limits of a new graph at once and their filters restart (R198); a disabled or absent one is out of window. -/
def State.restartMonitors (s : State) : State :=
  (List.range 16).foldl (fun s m =>
    let en := match s.monRecs.find? (fun r => r.num == m) with | some r => r.enable | none => false
    let s := s.setMonRun m 0
    if !en && s.on (F.SEQ_MON_IN_WIN m) then s.monFlip m false else s) s

/-- A write of SEQ_CMD reaches the Sequencer at supervisor level (R208) with its KEY (Table 05-10). -/
def State.seqCmd (s : State) (who : Agent) (key : BitVec 8) (arg : BitVec 7) (code : Nat) (act : State → State) : State :=
  s.access who 0 Reg.SEQ_CMD (BitVec.ofNat 32 (key.toNat * 2 ^ 24 + arg.toNat * 2 ^ 8 + code)) true fun s =>
    if key = 0x96 then act s else s

/-- A RUN command or CLEAR_LOCK, by its code of SEQ_CMD, with the others of its AO cycle (R205): bits 0 to 3 of met tell which of RUN_SET, RUN_CLR,
RUN_TOGGLE and CLEAR_LOCK came before it, from either core or a route. Two toggles count as one. A CLEAR_LOCK that lifts LOCKOUT lets the
commands before it act. -/
def State.runCommand (s : State) (code met : Nat) : State :=
  let has (i : Nat) : Bool := code == i + 1 || bit met i
  if code = 4 ∧ !s.on F.SEQ_STATUS_LOCKOUT then s
  else s.runCommands (has 0) (has 1) (code == 3 && !bit met 2 || code == 4 && bit met 2) (has 3)

/-- RUN_SET (R192, R205). -/
def execRunSet (who : Agent) (key : BitVec 8) (met : BitVec 4) (s : State) : Res :=
  .next (s.seqCmd who key 0 1 fun s => s.runCommand 1 met.toNat)

/-- RUN_CLR (R192, R205). -/
def execRunClr (who : Agent) (key : BitVec 8) (met : BitVec 4) (s : State) : Res :=
  .next (s.seqCmd who key 0 2 fun s => s.runCommand 2 met.toNat)

/-- RUN_TOGGLE (R192, R205): two toggles in one cycle count as one. -/
def execRunToggle (who : Agent) (key : BitVec 8) (met : BitVec 4) (s : State) : Res :=
  .next (s.seqCmd who key 0 3 fun s => s.runCommand 3 met.toNat)

/-- CLEAR_LOCK (R189, R205). -/
def execClearLock (who : Agent) (key : BitVec 8) (met : BitVec 4) (s : State) : Res :=
  .next (s.seqCmd who key 0 4 fun s => s.runCommand 4 met.toNat)

/-- A step request by command or route (R197). -/
def State.stepRequest (s : State) (n : Nat) : State :=
  match s.stepRec n with
  | none => s
  | some r =>
    if r.kind = 0 ∧ s.onHeld then s
    else if s.stepState n = 1 ∨ (bit s.seq.armed n ∧ s.stepState n ≠ 0) then
      (if (s.step' n).queued then
        ((s.count F.SEQ_OVR_COUNT 1).seqLog n (if r.kind ≤ 1 then r.target else 0) 5 0).raise 82
      else s.modStep n fun x => { x with queued := true })
    else if s.stepState n = 0 ∧ s.predsDone r then { s with seq := { s.seq with armed := orBit s.seq.armed n } }
    else s

/-- STEP_REQ (R197). -/
def execStepReq (who : Agent) (key : BitVec 8) (arg : BitVec 7) (s : State) : Res :=
  .next (s.seqCmd who key arg 5 fun s => s.stepRequest arg.toNat)

/-- REARM (R178): a faulted step returns to idle. -/
def execRearm (who : Agent) (key : BitVec 8) (arg : BitVec 7) (s : State) : Res :=
  .next (s.seqCmd who key arg 6 fun s => if s.stepState arg.toNat = 3 then s.idleStep arg.toNat else s)

/-- FORCE_OFF (R188): drop rail ARG. -/
def execForceOff (who : Agent) (key : BitVec 8) (arg : BitVec 7) (s : State) : Res :=
  .next (s.seqCmd who key arg 7 fun s => if s.railOn arg.toNat then s.addDrop (orBit 0 arg.toNat) else s)

/-- ALL_OFF (R188, R204): drop every enabled rail. -/
def execAllOff (who : Agent) (key : BitVec 8) (s : State) : Res :=
  .next (s.seqCmd who key 0 8 fun s => s.addDrop (s.rd F.SEQ_RAIL_EN_EN))

/-- Set or clear the latch of a routed condition (R183). -/
def State.condLatch (s : State) (n : Nat) (v : Bool) : State :=
  if n < 128 then { s with seq := { s.seq with latch := setBits s.seq.latch n n (b2n v) } } else s

/-- COND_SET (R183). met says that a COND_CLR of the same latch arrives in the same AO cycle, and wins (R205). -/
def execCondSet (who : Agent) (key : BitVec 8) (arg : BitVec 7) (met : Bool) (s : State) : Res :=
  .next (s.seqCmd who key arg 9 fun s => s.condLatch arg.toNat (!met))

/-- COND_CLR (R183, R205). -/
def execCondClr (who : Agent) (key : BitVec 8) (arg : BitVec 7) (s : State) : Res :=
  .next (s.seqCmd who key arg 10 fun s => s.condLatch arg.toNat false)

/-- Every enabled rail is dropped and PFAIL_HOLD is set (R194). -/
def State.pfailDrop (s : State) : State :=
  let s := (s.addDrop (s.rd F.SEQ_RAIL_EN_EN)).setOn F.SEQ_STATUS_PFAIL_HOLD
  ({ s with seq := { s.seq with holdRun := false } } : State).holdBack

/-- A low PFAIL_N closes the gate of the Vault (R194, R219). -/
def State.pfailGate (s : State) : State := ({ s with vlt := { s.vlt with pfailOk := false } } : State).updateGate

/-- PFAIL_FALL (R194): the filtered fall sets condition 141 and raises SEQ_PFAIL; a fall during RECOVER restarts that count. -/
def execPfailFall (s : State) : Res :=
  .next (if !s.seqLive then s else
    let s := (((s.clr F.SEQ_STATUS_PFAIL_PIN).raise 84).wakeSource 4).pfailGate
    { s with seq := { s.seq with recovering := false, holdRun := s.on F.SEQ_PFAIL_DROP } })

/-- PFAIL_HOLD_ELAPSED (R194): PFAIL_N has stayed low for HOLD_MS. tie says that its rise falls in that cycle and is taken (R202). -/
def execPfailHoldElapsed (tie : Bool) (s : State) : Res :=
  .next (if s.seqLive && s.seq.holdRun && !s.on F.SEQ_STATUS_PFAIL_PIN && s.on F.SEQ_PFAIL_DROP then
    (if tie then s.count F.SEQ_COINCIDE_COUNT 1 else s.pfailDrop) else s)

/-- PFAIL_RISE (R194): RECOVER starts while PFAIL_HOLD is set. -/
def execPfailRise (s : State) : Res :=
  .next (if !s.seqLive then s else
    let s := s.setOn F.SEQ_STATUS_PFAIL_PIN
    { s with seq := { s.seq with holdRun := false, recovering := s.on F.SEQ_STATUS_PFAIL_HOLD } })

/-- PFAIL_RECOVER (R194): PFAIL_N has been high for RECOVER × 10 ms without a break. -/
def execPfailRecover (s : State) : Res :=
  .next (if s.seqLive && s.seq.recovering && s.on F.SEQ_STATUS_PFAIL_PIN then
    (({ s with seq := { s.seq with recovering := false } } : State).clr F.SEQ_STATUS_PFAIL_HOLD).raise 85 else s)

/-- The power-restore record as it stands at step 5 of Table 01-2, for the policy (R190). -/
def State.selectPolicy (s : State) : State :=
  { s with seq := { s.seq with policy := natAt (s.record 1) 0, policySrc := !s.hasRecord 1 } }

/-- The power-restore policy is applied (R190, R191): POLICY and LAST as selected, with LAST as last committed shown. -/
def State.applyPolicy (s : State) : State :=
  let w := s.seq.policy
  let p := if bits w 1 0 = 3 then 0 else bits w 1 0
  let s := s.wr F.SEQ_POLICY_POLICY p |>.wrB F.SEQ_POLICY_LAST (bit (natAt (s.record 1) 0) 2) |>.wrB F.SEQ_POLICY_SRC s.seq.policySrc
  let s : State := { s with seq := { s.seq with policyDue := false } }
  if p = 0 ∨ (p = 2 ∧ bit w 2) then s.putRun true else s

/-- POLICY_APPLY (R191): OFF_MIN has elapsed since a device-scope WDR or an LDR with SEQ = 1. -/
def execPolicyApply (s : State) : Res := .next (if s.seqLive && s.seq.policyDue then s.applyPolicy else s)

/-- Fresh step entries for a graph. -/
def freshSteps (rs : List StepRec) : List StepRun := rs.map fun r => { num := r.num }

/-- The Sequencer's start at step 9 (R207, R194, R42): every step idle, and PFAIL_N as found. -/
def State.seqStart (s : State) (pfailHigh : Bool) : State :=
  let s : State := { s with seq := { s.seq with running := true, steps := freshSteps s.stepRecs } }
  let s := s.wrB F.SEQ_STATUS_PFAIL_PIN pfailHigh
  let s := if pfailHigh then s else (if s.on F.SEQ_PFAIL_DROP then s.setOn F.SEQ_STATUS_PFAIL_HOLD else s).raise 84 |>.pfailGate
  s.refreshConds.refreshWires

/-- What a rail keeps over a change of graph (R198). -/
def State.remapRail (s : State) (r : Nat) : State :=
  match s.railRec r with
  | some _ =>
    let kept := (s.onStepIn r 2).isSome
    s.modRail r fun x => { x with
      accepted := false, settled := x.settled && kept, retry := false, judge := false, recheck := s.railOn r, recheckCnt := 0 }
  | none =>
    let s := s.modRail r fun x => { x with accepted := false, settled := false, dis := false, retry := false, judge := false, recheck := false }
    if s.railOn r then (s.wr F.SEQ_RAIL_ORPHAN_ORPHAN (orBit (s.rd F.SEQ_RAIL_ORPHAN_ORPHAN) r)).raise 83 else s

/-- The kept state mapped onto a new graph, already in its till, from the step records of the old one (R198). -/
def State.remapGraph (s : State) (old : List StepRec) : State :=
  let rs := s.stepRecs
  let keep (r : StepRec) : Bool := s.stepState r.num == 2 && old.any fun o => o.num == r.num && o.act == r.act
  let run := rs.map fun r => if keep r then { s.step' r.num with queued := false, phase := .rest } else { num := r.num }
  let kept := rs.filter keep
  let s : State := { s with seq := { s.seq with steps := run, armed := 0 } }
  let s := (List.range 64).foldl (fun s n => if kept.any fun r => r.num == n then s else s.setStepState n 0) s
  ((List.range 32).foldl State.remapRail s).restartMonitors.refreshSeq

/-- A device-scope WDR or an LDR with SEQ = 1 (R191): every enable deasserted at once, every step idle, the policy due after OFF_MIN. -/
def State.seqReset (s : State) : State :=
  { s with seq := { s.seq with
    steps := [], rails := s.seq.rails.map fun _ => {}, armed := 0, drop := 0, latch := 0, policyDue := true,
    holdRun := false, recovering := false } }

end Sys2Proof.Machine
end

