-- ==== Sys2Proof/Machine/Espi.lean ====
section
/-! DEFINITION. The eSPI link (chapter 10): I/O and memory accesses and the teller that answers, POST, virtual wires, and the link's
configuration. -/

namespace Sys2Proof.Machine

/-- The I/O or memory teller whose window claims an address (R347), and whether it is the second port of KBC or ECI. -/
def State.claims (s : State) (binding a : Nat) : Option TellerEntry :=
  s.tellers.find? fun t => t.binding == binding && (tellerWindows t).any fun w => decide (w.2.1 ≤ a) && decide (a ≤ w.2.2)

/-- Does an I/O address lie in the same window of a teller as the access's first byte? -/
def sameWindow (t : TellerEntry) (first a : Nat) : Bool :=
  (tellerWindows t).any fun w => decide (w.2.1 ≤ first) && decide (first ≤ w.2.2) && decide (w.2.1 ≤ a) && decide (a ≤ w.2.2)

/-- The offset of an address from ADDRESS. -/
def offsetOf (t : TellerEntry) (a : Nat) : Nat := a - (if t.binding = 0 then bits t.addr 15 0 else t.addr)

/-- One byte an autoteller or SCR teller answers. -/
def State.autoRead (s : State) (t : TellerEntry) (a : Nat) : Nat × State :=
  let second := t.addr / 65536 == a && t.addr % 65536 != a
  match t.kind with
  | 1 => if second then (s.kbcStatus, s) else s.kbcDataRead
  | 2 => if second then (s.eciStatus, s) else s.eciDataRead
  | 3 => (bits (s.rd F.HST_POST_LAST_LANES) (8 * offsetOf t a + 7) (8 * offsetOf t a), s)
  | 4 => if offsetOf t a = 0 then (s.hst.nvx.index, s) else s.nvxRead
  | _ => (s.winByte t (offsetOf t a), s)

/-- One byte written to an autoteller or SCR teller. -/
def State.autoWrite (s : State) (t : TellerEntry) (a v : Nat) : State :=
  let second := t.addr / 65536 == a && t.addr % 65536 != a
  match t.kind with
  | 1 => s.kbcWrite second v
  | 2 => s.eciWrite second v
  | 4 => if offsetOf t a = 0 then s.modNvx fun n => { n with index := v } else s.nvxWrite v
  | 5 => s.setWin t (offsetOf t a) v
  | _ => s

/-- One byte of a POST write (R372): its lane and its ring entry, with the microseconds since HOST powered up. -/
def State.postByte (s : State) (t : TellerEntry) (off v us : Nat) : State :=
  let s := s.wr F.HST_POST_LAST_LANES (setBits (s.rd F.HST_POST_LAST_LANES) (8 * off + 7) (8 * off) v)
  let n := (t.ramSize - 16) / 4
  let next := memHalf s.mem (t.at 0) % n
  let s := s.store (t.at (16 + 4 * next)) (leBytes 4 (v % 256 + 256 * off + 1024 * (us % 2 ^ 22)))
  (s.store (t.at 0) (leBytes 2 ((next + 1) % n))).store (t.at 2) (leBytes 2 (satAdd 0xFFFF (memHalf s.mem (t.at 2)) 1))

/-- The bytes of a read that one teller answers; bytes outside its window read 0xFF (R347). -/
def State.autoReads (s : State) (t : TellerEntry) (first : Nat) : Nat → Nat → List Byte × State
  | 0, _ => ([], s)
  | k + 1, a =>
    if sameWindow t first a then
      let (v, s1) := s.autoRead t a
      let (l, s2) := s1.autoReads t first k (a + 1)
      (BitVec.ofNat 8 v :: l, s2)
    else
      let (l, s2) := s.autoReads t first k (a + 1)
      (0xFF :: l, s2)

/-- The bytes of a write that one teller takes; bytes outside its window are dropped (R347). -/
def State.autoWrites (s : State) (t : TellerEntry) (first us : Nat) : List Byte → Nat → State
  | [], _ => s
  | b :: r, a =>
    let s1 := if !sameWindow t first a then s
      else if t.kind = 3 then s.postByte t (offsetOf t a) b.toNat us
      else s.autoWrite t a b.toNat
    s1.autoWrites t first us r (a + 1)

/-- How many bytes of an access lie in the window of its first byte. -/
def inWindow (t : TellerEntry) (first n : Nat) : Nat := ((List.range n).filter fun i => sameWindow t first (first + i)).length

/-- HST_ERR.SPLIT when an access leaves the window (R347). -/
def State.split (s : State) (t : TellerEntry) (first n : Nat) : State :=
  if inWindow t first n < n then s.setOn F.HST_ERR_SPLIT else s

/-- No window claims the access (R347). -/
def State.unclaimed (s : State) : State := (s.setOn F.HST_ERR_UNCLAIMED).reply (.bytes espiUnsuccessful [])

/-- A second non-posted request while one is deferred (R350). -/
def State.protocol (s : State) : State := ((s.setOn F.HST_ERR_PROTOCOL).raise 124).reply (.bytes espiError [])

/-- A read by binding (R347-R350). -/
def State.espiRead (s : State) (binding a n : Nat) : State :=
  if s.hst.defer.isSome then s.protocol else
  match s.claims binding a with
  | none => s.unclaimed
  | some t =>
    let s := s.split t a n
    if !t.allows false then (s.deny t.teller (offsetOf t a) false).reply (.bytes espiOk (List.replicate n 0xFF))
    else if t.kind = 0 then s.deferTo t false (offsetOf t a) [] (inWindow t a n) (n - inWindow t a n)
    else
      let (b, s1) := s.autoReads t a n a
      s1.reply (.bytes espiOk b)

/-- A write by binding; an I/O write is non-posted, a memory write posted (R347-R350). While a core's queue is full the channel's posted writes are not
free, and the host sends none. -/
def State.espiWrite (s : State) (binding a us : Nat) (data : List Byte) : State :=
  if binding = 0 ∧ s.hst.defer.isSome then s.protocol
  else if binding = 1 ∧ !s.postedFree then s.reply .none else
  match s.claims binding a with
  | none => s.unclaimed
  | some t =>
    let s := s.split t a data.length
    if !t.allows true then (s.deny t.teller (offsetOf t a) true).reply (.bytes espiOk [])
    else if t.kind = 0 then
      let d := data.take (inWindow t a data.length)
      if binding = 0 then s.deferTo t true (offsetOf t a) d d.length 0
      else ((tlrEntries t true true 0 (offsetOf t a) d d.length).foldl State.enqueue s).reply (.bytes espiOk [])
    else
      let s1 := s.autoWrites t a us data a
      (if t.kind = 3 then s1.raise 114 else s1).reply (.bytes espiOk [])

/-- The link takes a request of the host: it answers while live, and not with a CRC error while CRC checking is on. -/
def State.espi (s : State) (bad : Bool) (act : State → State) : State :=
  let s := s.alertSeen
  if !s.linkLive then s.reply .none
  else if bad && s.on F.HST_LINK_CRC_EN then s.espiBad
  else act s

/-- ESPI_IO_READ (R347): n is 1, 2 or 4 bytes; bad says that the request's CRC is wrong. -/
def execEspiIoRead (port : BitVec 16) (n : Nat) (bad : Bool) (s : State) : Res :=
  .next (s.espi bad fun s => s.espiRead 0 port.toNat n)

/-- ESPI_IO_WRITE (R347): us is the time since HOST powered up in µs, which a POST entry records (R372). -/
def execEspiIoWrite (port : BitVec 16) (data : List Byte) (us : Nat) (bad : Bool) (s : State) : Res :=
  .next (s.espi bad fun s => s.espiWrite 0 port.toNat us data)

/-- ESPI_MEM_READ (R347): 1 to 64 bytes. -/
def execEspiMemRead (a : Word) (n : Nat) (bad : Bool) (s : State) : Res :=
  .next (s.espi bad fun s => s.espiRead 1 a.toNat n)

/-- ESPI_MEM_WRITE (R347, R350): 1 to 64 bytes. -/
def execEspiMemWrite (a : Word) (data : List Byte) (bad : Bool) (s : State) : Res :=
  .next (s.espi bad fun s => s.espiWrite 1 a.toNat 0 data)

/-- One field of SET_CONFIGURATION (R344): an advertised value is taken, another keeps the selection and sets HST_ERR.CFG. -/
def State.configField (s : State) (f : Fld) (v : Nat) (ok : Bool) : State :=
  if ok then s.wr f v else s.setOn F.HST_ERR_CFG

/-- A bit of HST_CAP_CFG as sampled (R345). -/
def State.capBit (s : State) (f : Fld) : Bool := f.get (BitVec.ofNat 32 s.hst.cap) != 0

/-- What the device advertises (R343, R344, Table 10-1 narrowed by HST_CAP_CFG): the highest clock, coded as FREQ. -/
def State.capFreq (s : State) : Nat := min 4 (F.HST_CAP_CFG_MAXFREQ.get (BitVec.ofNat 32 s.hst.cap))

/-- Is an I/O mode advertised? Single is always. -/
def State.capIo (s : State) (io : Nat) : Bool := io == 0 || (io == 1 && s.capBit F.HST_CAP_CFG_DUAL) || (io == 2 && s.capBit F.HST_CAP_CFG_QUAD)

/-- Is a channel advertised? Channel 3 never is. -/
def State.capChannel (s : State) (c : Nat) : Bool := c == 0 || c == 1 || (c == 2 && s.capBit F.HST_CAP_CFG_OOB_EN)

/-- The enable of one channel, a field of its own (R344). -/
def State.enableChannel (s : State) (c : Nat) (v : Bool) : State :=
  if v && !s.capChannel c then s.setOn F.HST_ERR_CFG
  else if c < 3 then s.wr F.HST_LINK_CH_EN (setBits (s.rd F.HST_LINK_CH_EN) c c (b2n v)) else s

/-- SET_CONFIGURATION (R344, R345, R351): clock, I/O mode, alert mode, CRC checking and channel enables. Wires that changed while channel 1 was disabled
are signalled when it is enabled. -/
def execSetConfiguration (freq : BitVec 3) (io : BitVec 2) (pin od crc : Bool) (ch : BitVec 4) (bad : Bool) (s : State) : Res :=
  .next (s.espi bad fun s =>
    let old := s.word Reg.HST_LINK
    let s := s.configField F.HST_LINK_FREQ freq.toNat (decide (freq.toNat ≤ s.capFreq))
    let s := s.configField F.HST_LINK_IOMODE io.toNat (s.capIo io.toNat)
    let s := s.configField F.HST_LINK_ALERT_PIN (b2n pin) (!pin || s.capBit F.HST_CAP_CFG_PIN_ALERT)
    let s := s.configField F.HST_LINK_ALERT_OD (b2n od) (!od || s.capBit F.HST_CAP_CFG_OD_ALERT)
    let s := s.configField F.HST_LINK_CRC_EN (b2n crc) true
    let s := (List.range 4).foldl (fun s c => s.enableChannel c (ch.getLsbD c)) s
    let s := if bit (s.rd F.HST_LINK_CH_EN) 1 && !bit old.toNat 22 && (!s.kx.wireChg.isEmpty || s.hst.bootDue)
      then s.espiAlert else s
    (if s.word Reg.HST_LINK == old then s else s.raise 125).reply (.bytes espiOk []))

/-- The level source of a host-to-device wire (Table 09-4), by its bit of HST_VW_IN. -/
def wireEvent (w : Nat) : Option Nat :=
  match w with | 0 => some 119 | 1 => some 120 | 2 => some 121 | 4 => some 118 | 7 => some 122 | _ => none

/-- The bit of AO's held host wires (R195), by its bit of HST_VW_IN. -/
def heldWire (w : Nat) : Option Nat :=
  match w with | 0 => some 0 | 1 => some 1 | 2 => some 2 | 4 => some 3 | 7 => some 4 | _ => none

/-- A host-to-device wire takes its state (R352, R353, R379). -/
def State.hostIn (s : State) (w : Nat) (v : Bool) : State :=
  let was := bit (s.rd F.HST_VW_IN_WIRES) w
  let s := s.wr F.HST_VW_IN_WIRES (setBits (s.rd F.HST_VW_IN_WIRES) w w (b2n v))
  let s := match heldWire w with
    | some i => { s with seq := { s.seq with host := setBits s.seq.host i i (b2n v) } }
    | none => s
  let s := match wireEvent w with | some e => s.level e v | none => s
  let s := if w = 4 ∧ v ∧ !was then s.pltrst else s
  let s := if w = 6 ∧ !v then s.hostWire 6 false else s
  if w = 5 ∧ !v then s.hostWire 7 false else s

/-- A wire of a generic group that the host drives (R354). -/
def State.genericIn (s : State) (index wire : Nat) (v : Bool) : State :=
  match (List.range 8).find? (fun g => s.rd (F.HST_VWG_INDEX g) == index && s.groupOn g && s.on (F.HST_VWG_DIR g)) with
  | none => s
  | some g =>
    let i := 4 * g + wire
    let was := s.rd F.HST_VW_GEN_WIRES
    if bit was i == v then s else (s.wr F.HST_VW_GEN_WIRES (setBits was i i (b2n v))).raise 123

/-- PUT_VWIRE (R352): the wires of the message, named ones by their bit of HST_VW_IN and generic ones by index and wire. -/
def execPutVwire (sys : List (Fin 10 × Bool)) (gen : List (BitVec 8 × Fin 4 × Bool)) (bad : Bool) (s : State) : Res :=
  .next (s.espi bad fun s =>
    let s := sys.foldl (fun s p => s.hostIn p.1.val p.2) s
    (gen.foldl (fun s p => s.genericIn p.1.toNat p.2.1.val p.2.2) s).refreshSusAck.reply (.bytes espiOk []))

/-- After a message, a pulse whose asserted part was carried is deasserted, and one whose deasserted part was carried ends (R351). -/
def State.pulsesCarried (s : State) (sent : List Nat) : State :=
  let p := (s.kx.wirePulse.filter fun p => !(p.2 && sent.contains p.1)).map fun p => if sent.contains p.1 then (p.1, true) else p
  sent.foldl State.refreshWire { s with kx := { s.kx with wirePulse := p, wireChg := [] } }

/-- GET_VWIRE (R351, R353): the changed wires with their states, and boot-load done and status (shown as wires 10 and 11) in the first
message after channel 1 is enabled following an eSPI reset. The answer lists wire number and state in turn. -/
def execGetVwire (s : State) : Res :=
  .next (
    let s := s.alertSeen
    if !s.linkLive || !bit (s.rd F.HST_LINK_CH_EN) 1 then s.reply .none else
    let sent := s.kx.wireChg
    let msg := sent.flatMap fun w => [BitVec.ofNat 8 w, if s.wireShown w then (1 : Byte) else 0]
    let boot : List Byte := if s.hst.bootDue then [10, 1, 11, 1] else []
    let s := s.pulsesCarried sent
    ({ s with hst := { s.hst with bootDue := false } } : State).reply (.bytes espiOk (boot ++ msg)))

/-- HOST_RST_ACK (R353): asserted once no request is deferred. -/
def execHostRstAck (s : State) : Res :=
  .next (if s.live domHOST && bit (s.rd F.HST_VW_IN_WIRES) 6 && s.hst.defer.isNone then s.hostWire 6 true else s)

/-- OOB_RST_ACK (R353): packets not yet sent are discarded, and the acknowledge is asserted. -/
def execOobRstAck (s : State) : Res :=
  .next (if s.live domHOST && bit (s.rd F.HST_VW_IN_WIRES) 5 then
    let s := if s.hst.oobTx.isEmpty then s else s.setOn F.HST_ERR_OOB
    (({ s with hst := { s.hst with oobTx := [] } } : State).refreshOob).hostWire 7 true
  else s)

/-- HST_ERR.VWG: two groups name the same index (R354). -/
def State.checkGroups (s : State) : State :=
  let clash := (List.range 8).any fun g => decide (0x80 ≤ s.rd (F.HST_VWG_INDEX g)) && !s.groupOn g
  if clash then s.setOn F.HST_ERR_VWG else s

/-- A write of HST_VWG_g (R354, R384). -/
def State.hstVwgWrite (s : State) (a : Nat) (w : Word) : State :=
  let s := (s.accWrite a w).checkGroups
  let s : State := { s with kx := { s.kx with
    wireChg := s.kx.wireChg.filter s.deviceWire, wirePulse := s.kx.wirePulse.filter fun p => s.deviceWire p.1 } }
  (List.range 32).foldl (fun s i => s.refreshWire (32 + i)) s

/-- HOST and its link after a reset of HOST or at its power-up: every wire it drives is deasserted and its queues are empty. -/
def State.hostClear (s : State) : State :=
  { s with hst := {}, kx := { s.kx with autoWires := 0, wirePulse := [], wireChg := [] } }

/-- What the link takes up when HOST is live again: level routes to host wires (R336), eSPI reset state and boot-load (R353). -/
def State.hostStart (s : State) : State :=
  let s := (s.kbcFifoStart.updateLive.checkGroups.refreshOob.refreshQueues).level 117 (!s.seq.espiHigh)
  let s : State := { s with hst := { s.hst with bootDue := true, cap := (s.word Reg.HST_CAP_CFG).toNat } }
  ((List.range 10) ++ (List.range 32).map (· + 32)).foldl State.refreshWire s

end Sys2Proof.Machine
end

