-- ==== Sys2Proof/Machine/Aes.lean ====
section
/-! DEFINITION. AES-128 and AES-256, the cipher the spec names for SEAL (R634). The cipher is that of FIPS 197 (PRESUMED: the spec
names it and does not restate it, assumption 5). A block is its 16 bytes in order, as numbers. -/

namespace Sys2Proof.Machine

/-- Multiply by x in GF(2^8). -/
def xtime (a : Nat) : Nat := let d := a <<< 1; if d ≥ 256 then (d ^^^ 0x11B) else d

/-- Multiplication in GF(2^8), over the low n bits of the second factor. -/
def gfMul : Nat → Nat → Nat → Nat
  | 0, _, _ => 0
  | n + 1, a, b => (if b % 2 = 1 then a else 0) ^^^ gfMul n (xtime a) (b / 2)

/-- Power in GF(2^8), over the low n bits of the exponent. -/
def gfPow : Nat → Nat → Nat → Nat
  | 0, _, _ => 1
  | n + 1, a, e => let r := gfPow n (gfMul 8 a a) (e / 2); if e % 2 = 1 then gfMul 8 a r else r

/-- Rotate a byte left. -/
def rotl8 (x n : Nat) : Nat := ((x <<< n) ||| (x >>> (8 - n))) % 256

/-- The substitution of one byte: the inverse in GF(2^8), then the affine map. -/
def aesSub (x : Nat) : Nat :=
  let i := gfPow 8 x 254
  i ^^^ rotl8 i 1 ^^^ rotl8 i 2 ^^^ rotl8 i 3 ^^^ rotl8 i 4 ^^^ 0x63

/-- The inverse substitution of one byte. -/
def aesInvSub (y : Nat) : Nat := gfPow 8 (rotl8 y 1 ^^^ rotl8 y 3 ^^^ rotl8 y 6 ^^^ 0x05) 254

/-- Exclusive or of two runs of bytes. -/
def xorBytes (a b : List Nat) : List Nat := List.zipWith (· ^^^ ·) a b

/-- The key schedule: words of four bytes, newest first, with nk words of key, n more to make. -/
def aesExpand (nk : Nat) : Nat → Nat → List (List Nat) → List (List Nat)
  | 0, _, w => w
  | n + 1, rc, w =>
    let i := w.length
    let prev := w.headD []
    let old := w.getD (nk - 1) []
    let rot := (prev.drop 1 ++ prev.take 1).map aesSub
    let t := if i % nk = 0 then xorBytes rot [rc, 0, 0, 0]
      else if nk > 6 ∧ i % nk = 4 then prev.map aesSub else prev
    aesExpand nk n (if i % nk = 0 then xtime rc else rc) (xorBytes old t :: w)

/-- Groups of four bytes. -/
def quads : Nat → List Nat → List (List Nat)
  | 0, _ => []
  | n + 1, b => b.take 4 :: quads n (b.drop 4)

/-- The round keys of a 16-byte or 32-byte key, first to last. -/
def aesKeys (key : List Nat) : List (List Nat) :=
  let nk := key.length / 4
  let total := 4 * (nk + 7)
  let w := (aesExpand nk (total - nk) 1 (quads nk key).reverse).reverse
  (List.range (nk + 7)).map fun r => (w.drop (4 * r)).take 4 |>.flatten

/-- Rotate row r of the state left by r places, forwards, or right, backwards. -/
def aesShift (fwd : Bool) (s : List Nat) : List Nat :=
  (List.range 16).map fun i =>
    let r := i % 4
    let c := i / 4
    natAt s (4 * ((c + (if fwd then r else 4 - r)) % 4) + r)

/-- Multiply one column by a circulant of four coefficients. -/
def aesColumn (k : List Nat) (c : List Nat) : List Nat :=
  (List.range 4).map fun i =>
    (List.range 4).foldl (fun a j => a ^^^ gfMul 8 (natAt c j) (natAt k ((j + 4 - i) % 4))) 0

/-- Mix the four columns. -/
def aesMix (k : List Nat) (s : List Nat) : List Nat := (quads 4 s).flatMap (aesColumn k)

/-- Encrypt one block. -/
def aesEncrypt (key blk : List Nat) : List Nat :=
  match aesKeys key with
  | [] => blk
  | k0 :: ks =>
    let s := ks.dropLast.foldl (fun s k => xorBytes (aesMix [2, 3, 1, 1] (aesShift true (s.map aesSub))) k)
      (xorBytes blk k0)
    xorBytes (aesShift true (s.map aesSub)) (ks.getLastD [])

/-- Decrypt one block. -/
def aesDecrypt (key blk : List Nat) : List Nat :=
  match (aesKeys key).reverse with
  | [] => blk
  | k0 :: ks =>
    let s := ks.dropLast.foldl
      (fun s k => aesMix [14, 11, 13, 9] (xorBytes ((aesShift false s).map aesInvSub) k))
      (xorBytes blk k0)
    xorBytes ((aesShift false s).map aesInvSub) (ks.getLastD [])

end Sys2Proof.Machine
end

