-- ==== Sys2Proof/Machine/Seal.lean ====
section
/-! DEFINITION. The SEAL engine (chapter 19): hashing, signature verification, AES, random data and the AES key store. -/

namespace Sys2Proof.Machine

/-- The state with the engine's own part changed. -/
def State.modSeal (s : State) (f : SealEngine → SealEngine) : State := { s with sealEng := f s.sealEng }

/-- The valid copy with the higher serial (R626, R635). -/
def newerKeys (a b : Option KeyStore) : KeyStore :=
  match a, b with
  | some x, some y => if higher y.serial x.serial then y else x
  | some x, none => x
  | none, some y => y
  | none, none => {}

/-- The AES key store in force. -/
def State.keyStore (s : State) : KeyStore := newerKeys s.lc.ka s.lc.kb

/-- SEAL_KS_STAT shows every slot (R635). -/
def State.refreshKeyStore (s : State) : State :=
  if !s.domOn domSEAL then s else
  let k := s.keyStore
  s.wr F.SEAL_KS_STAT_SLOTS ((List.range 8).map fun i => natAt k.status i * 4 ^ i).sum

/-- Both copies of the key store take an image, with the next serial. -/
def State.putKeys (s : State) (k : KeyStore) : State :=
  let k : KeyStore := { k with serial := (s.keyStore.serial + 1) % 2 ^ 32 }
  ({ s with lc := { s.lc with ka := some k, kb := some k } } : State).refreshKeyStore

/-- Bytes of registers, index 0 most significant (R634). -/
def State.regBytes (s : State) (reg : Nat → Nat) (n : Nat) : List Byte :=
  (List.range n).flatMap fun i => beBytes 4 (s.word (reg i)).toNat

/-- Registers from bytes, index 0 most significant. -/
def State.putRegBytes (s : State) (reg : Nat → Nat) (n : Nat) (b : List Byte) : State :=
  (List.range n).foldl (fun s i => s.setWord (reg i) (BitVec.ofNat 32 (ofBe (slice b (4 * i) 4)))) s

/-- May a run be a source: wholly in one region whose domain is on, and no flash half under a command (R633)? -/
def State.sealSource (s : State) (a n : Nat) : Bool :=
  n == 0 || (runIn a n sramBase 0x40000 && s.sramOn a n) || (runIn a n tellerRam 0x4000 && s.domOn domHOST)
    || runIn a n shadowBase 0x10000 || (runIn a n displayRam 0x80000 && s.domOn domDISP)
    || (runIn a n flashBase 0x100000 && s.domOn domFLASH && !s.halfBusy 0)
    || (runIn a n (flashBase + 0x100000) 0x100000 && s.domOn domFLASH && !s.halfBusy 1)
    || (runIn a n 0x50000000 0x10000 && s.domOn domFRAM)

/-- May a run be a destination (R633)? -/
def State.sealDest (s : State) (a n : Nat) : Bool :=
  n == 0 || (runIn a n sramBase 0x40000 && s.sramOn a n) || (runIn a n displayRam 0x80000 && s.domOn domDISP)

/-- Two runs of one length overlap without being equal. -/
def partOverlap (a b n : Nat) : Bool := a != b && decide (a < b + n) && decide (b < a + n)

/-- The refusal of an operation at its start; 0 when it runs (R632-R636). -/
def State.sealRefusal (s : State) (r : SealRun) : Nat :=
  let mode := F.SEAL_CFG_MODE.of r.cfg
  let slot := F.SEAL_CFG_SLOT.of r.cfg
  let st := natAt s.keyStore.status slot
  let scrap := s.rd F.AUD_LC_STATE_STATE == 3
  match r.op with
  | 1 | 3 | 4 => 0
  | 2 => if s.sealSource r.src r.len then 0 else 1
  | 5 | 6 =>
    if mode == 3 || (mode != 2 && r.len % 16 != 0) then 2
    else if !s.sealSource r.src r.len || !s.sealDest r.dst r.len || partOverlap r.src r.dst r.len then 1
    else if F.SEAL_CFG_KSRC.has r.cfg && st == 0 then 4 else 0
  | 7 => if !s.sealDest r.dst r.len then 1 else if s.on F.SEAL_STATUS_RNG_BAD then 7 else 0
  | 8 => if scrap then 8 else if st = 2 then 5 else if s.gateCode 256 != 0 then 6 else 0
  | 9 => if scrap then 8 else if st = 0 then 4 else if s.gateCode 256 != 0 then 6 else 0
  | _ => 2

/-- The AES key of an operation: the key registers or a key-store slot, 16 or 32 bytes (R634). -/
def State.sealKey (s : State) (cfg : Word) : List Nat :=
  let k := if F.SEAL_CFG_KSRC.has cfg then s.keyStore.keys.getD (F.SEAL_CFG_SLOT.of cfg) []
    else (s.regBytes Reg.SEAL_KEY 8).map BitVec.toNat
  k.take (if F.SEAL_CFG_KEYLEN.has cfg then 32 else 16)

/-- An operation starts (R632). -/
def State.sealBegin (s : State) (op : Nat) : State :=
  let cfg := s.word Reg.SEAL_CFG
  let key := if op = 8 then (s.regBytes Reg.SEAL_KEY 8).map BitVec.toNat else s.sealKey cfg
  let r : SealRun := ⟨op, s.rd F.SEAL_SRC_ADDR, s.rd F.SEAL_DST_ADDR, s.rd F.SEAL_LEN_LEN, cfg, key, 0⟩
  let r := { r with code := s.sealRefusal r }
  ((s.setOn F.SEAL_STATUS_BUSY).wr F.SEAL_STATUS_HOLDER 1).modSeal fun e => { e with run := some r, waits := none }

/-- A write of SEAL_CMD (R632, R635). After a stop is accepted no operation starts (R145): a GO waits. -/
def State.sealCmdWrite (s : State) (w : Word) : State :=
  if F.SEAL_CMD_KEY.of w != 0x3E then s else
  let s := if F.SEAL_CMD_WIPE.has w then (List.range 8).foldl (fun s i => s.setWord (Reg.SEAL_KEY i) 0) s else s
  if !F.SEAL_CMD_GO.has w then s
  else if s.on F.SEAL_STATUS_BUSY || s.sealEng.waits.isSome then s.setOn F.SEAL_STATUS_REFUSED
  else if s.rd F.SEAL_STATUS_HOLDER != 0 || s.pwr.phase != .run then s.modSeal fun e => { e with waits := some (F.SEAL_CMD_OP.of w) }
  else s.sealBegin (F.SEAL_CMD_OP.of w)

/-- A write of SEAL_CMD with GO and an operation. -/
def State.sealGo (s : State) (who : Agent) (key : BitVec 8) (op : Nat) : State :=
  let w : Word := BitVec.ofNat 32 (key.toNat * 2 ^ 24 + op * 256 + 1)
  s.access who domSEAL Reg.SEAL_CMD w true fun s => s.sealCmdWrite w

/-- HASH_START (R632). -/
def execHashStart (who : Agent) (key : BitVec 8) (s : State) : Res := .next (s.sealGo who key 1)
/-- HASH_DATA (R633). -/
def execHashData (who : Agent) (key : BitVec 8) (s : State) : Res := .next (s.sealGo who key 2)
/-- HASH_END (R632). -/
def execHashEnd (who : Agent) (key : BitVec 8) (s : State) : Res := .next (s.sealGo who key 3)
/-- VERIFY (R632). -/
def execVerify (who : Agent) (key : BitVec 8) (s : State) : Res := .next (s.sealGo who key 4)
/-- ENCRYPT (R634). -/
def execEncrypt (who : Agent) (key : BitVec 8) (s : State) : Res := .next (s.sealGo who key 5)
/-- DECRYPT (R634). -/
def execDecrypt (who : Agent) (key : BitVec 8) (s : State) : Res := .next (s.sealGo who key 6)
/-- RANDOM (R636). -/
def execRandom (who : Agent) (key : BitVec 8) (s : State) : Res := .next (s.sealGo who key 7)
/-- KEY_STORE (R635). -/
def execKeyStore (who : Agent) (key : BitVec 8) (s : State) : Res := .next (s.sealGo who key 8)
/-- KEY_LOCK (R635). -/
def execKeyLock (who : Agent) (key : BitVec 8) (s : State) : Res := .next (s.sealGo who key 9)

/-- WIPE (R635). -/
def execWipe (who : Agent) (key : BitVec 8) (s : State) : Res :=
  let w : Word := BitVec.ofNat 32 (key.toNat * 2 ^ 24 + 2)
  .next (s.access who domSEAL Reg.SEAL_CMD w true fun s => s.sealCmdWrite w)

/-- SEAL_DEFERRED_START (R632): the engine has been released and a waiting operation starts. -/
def execSealDeferredStart (s : State) : Res :=
  .next (if !s.live domSEAL || s.rd F.SEAL_STATUS_HOLDER != 0 || s.pwr.phase != .run then s else match s.sealEng.waits with
    | some op => s.sealBegin op
    | none => s)

/-- The engine is free: a lifecycle command that waits for it holds it next (R632). -/
def State.sealRelease (s : State) : State := s.wr F.SEAL_STATUS_HOLDER (if s.lc.run.isSome then 3 else 0)

/-- An operation ends with a code (R632). -/
def State.sealEnd (s : State) (code : Nat) : State :=
  let s := s.modSeal fun e => { e with run := none }
  let s := (((s.clr F.SEAL_STATUS_BUSY).setOn F.SEAL_STATUS_DONE).wr F.SEAL_STATUS_CODE code).sealRelease
  (s.raise 96).raiseIf (code != 0) 97

/-- Absorb bytes into the firmware hash state. -/
def State.hashBytes (s : State) (b : List Byte) : State :=
  let all := s.sealEng.tail ++ b
  let n := all.length / 64
  s.modSeal fun e => { e with hash := shaBlocks n e.hash all, count := e.count + b.length, tail := all.drop (64 * n) }

/-- Padding is applied and the digest written (R632). -/
def State.hashFinish (s : State) : State :=
  let p := s.sealEng.tail ++ shaPad s.sealEng.count
  let h := shaBlocks (p.length / 64) s.sealEng.hash p
  let s := s.modSeal fun e => { e with hash := h, tail := [] }
  (List.range 8).foldl (fun s i => s.setWord (Reg.SEAL_DIGEST i) (BitVec.ofNat 32 (natAt h i))) s

/-- VERIFY: the operands are key X, key Y, r and s (Table 19-11). -/
def State.sealVerify (s : State) : Bool :=
  let b := s.regBytes Reg.SEAL_OPND 32
  ecdsaVerify (ofBe (slice b 0 32)) (ofBe (slice b 32 32)) (s.regBytes Reg.SEAL_DIGEST 8) (ofBe (slice b 64 32)) (ofBe (slice b 96 32))

/-- Blocks through AES (R634): mode 0 ECB, 1 CBC, 2 CTR. The output bytes and the value that continues the chain. -/
def aesRun (mode : Nat) (enc : Bool) (key : List Nat) : Nat → List Nat → List Nat → List Nat × List Nat
  | 0, iv, _ => ([], iv)
  | n + 1, iv, b =>
    let blk := b.take 16
    let out := match mode with
      | 0 => if enc then aesEncrypt key blk else aesDecrypt key blk
      | 1 => if enc then aesEncrypt key (xorBytes blk iv) else xorBytes (aesDecrypt key blk) iv
      | _ => xorBytes blk (aesEncrypt key iv)
    let next := match mode with
      | 0 => iv
      | 1 => if enc then out else blk
      | _ => (beBytes 16 (ofBe (iv.map (BitVec.ofNat 8)) + 1)).map BitVec.toNat
    let r := aesRun mode enc key n next (b.drop 16)
    (out ++ r.1, r.2)

/-- The place of a byte in memory: the first of its flash row or of its word. -/
def eccPlace (a : Nat) : Nat := if runIn a 1 flashBase 0x200000 then a - a % 16 else a - a % 4

/-- Source bytes up to the first uncorrectable error, and whether there is one (R633). -/
def State.sealRead (s : State) (a n : Nat) : List Byte × Bool :=
  match (List.range n).find? fun i => s.eccBad.contains (eccPlace (a + i)) with
  | some i => (s.getBytes a i, true)
  | none => (s.getBytes a n, false)

/-- The flash rows the engine reads are read (R160), up to the one it stops at. -/
def State.sealMeets (s : State) (a n : Nat) : State :=
  let d := s.sealRead a n
  s.flashReadRun a (if d.2 then d.1.length + 1 else n)

/-- ENCRYPT or DECRYPT moves its data (R633, R634). -/
def State.sealCrypt (s : State) (r : SealRun) : State × Nat :=
  let d := s.sealRead r.src r.len
  let b := if d.2 then d.1.take (d.1.length / 16 * 16) else d.1
  let iv := (s.regBytes Reg.SEAL_IV 4).map BitVec.toNat
  let mode := F.SEAL_CFG_MODE.of r.cfg
  let o := aesRun mode (r.op == 5) r.key ((b.length + 15) / 16) iv (b.map BitVec.toNat)
  let s := (s.sealMeets r.src r.len).putBytes r.dst (o.1.map (BitVec.ofNat 8))
  let s := if mode = 0 then s else s.putRegBytes Reg.SEAL_IV 4 (o.2.map (BitVec.ofNat 8))
  (s, if d.2 then 9 else 0)

/-- n random bytes, each a free value. -/
def State.freeBytes (s : State) (n : Nat) : List Byte × State :=
  ((List.range n).map fun i => BitVec.ofNat 8 (Config.freeNat (s.free + i)), { s with free := s.free + n })

/-- What an operation that was not refused does, and its code (Table 19-11); nothing verifies after FRAM or SEAL failed for good (R172). -/
def State.sealWork (s : State) (r : SealRun) : State × Nat :=
  let slot := F.SEAL_CFG_SLOT.of r.cfg
  let k := s.keyStore
  match r.op with
  | 1 => (s.modSeal fun e => { e with hash := shaInit, count := 0, tail := [] }, 0)
  | 2 =>
    let d := s.sealRead r.src r.len
    ((s.sealMeets r.src r.len).hashBytes d.1, if d.2 then 9 else 0)
  | 3 => (s.hashFinish, 0)
  | 4 => (s, if s.sealVerify && !s.noVerify then 0 else 3)
  | 7 =>
    let q := s.freeBytes r.len
    (q.2.putBytes r.dst q.1, 0)
  | 8 => (s.putKeys { k with status := k.status.set slot 1, keys := k.keys.set slot r.key }, 0)
  | 9 => (s.putKeys { k with status := k.status.set slot 2 }, 0)
  | _ => s.sealCrypt r

/-- What the engine's reads of a run newly meet (R160, R633): at each row or word a free value, 1 a corrected error, 2 an uncorrectable one. -/
def State.sealErrors (s : State) (a n : Nat) : State :=
  (List.range n).foldl (fun s i =>
    if i ≠ 0 ∧ eccPlace (a + i) ≠ a + i then s else
    let q := s.freeBelow 3
    if q.1 = 0 then q.2 else q.2.meetError a n (a + i) (q.1 == 2)) s

/-- SEAL_OPERATION_DONE (R160, R632, R633). -/
def execSealOperationDone (s : State) : Res :=
  .next (match s.sealEng.run with
    | none => s
    | some r =>
      if !s.live domSEAL then s
      else if r.code != 0 then s.sealEnd r.code
      else
        let reads := r.op == 2 || r.op == 5 || r.op == 6
        let q := (if reads then s.sealErrors r.src r.len else s).sealWork r
        q.1.sealEnd q.2)

/-- SEAL_RNG_READ (R636): a core's read consumes the word; the Audit chain's changes nothing (R12). -/
def State.rngRead (s : State) (who : Agent) : State :=
  if !s.domOn domSEAL then s.busErr busDomainOff
  else
    let w := s.word Reg.SEAL_RNG
    if who.coreOf.isNone then s.reply (.word w)
    else if s.sealEng.rngReady then
      ((s.setWord Reg.SEAL_RNG 0).modSeal fun e => { e with rngReady := false }).reply (.word w)
    else (s.setOn F.SEAL_STATUS_RNG_EMPTY).reply (.word 0)

/-- SEAL_RNG_READ (R636). -/
def execSealRngRead (who : Agent) (s : State) : Res := .next (s.rngRead who)

/-- RNG_REFILL (R636): a new word, which is a free value. A source that failed a health test gives none. -/
def execRngRefill (s : State) : Res :=
  .next (if !s.live domSEAL || s.sealEng.rngReady || s.on F.SEAL_STATUS_RNG_BAD then s else
    let q := s.freeWord
    (q.2.setWord Reg.SEAL_RNG (BitVec.ofNat 32 q.1)).modSeal fun e => { e with rngReady := true })

/-- RNG_FAILURE (R636): a running RANDOM ends with RNG_FAIL. -/
def execRngFailure (s : State) : Res :=
  .next (if !s.live domSEAL then s else
    let s := s.setOn F.SEAL_STATUS_RNG_BAD
    match s.sealEng.run with
    | some r => if r.op = 7 ∧ r.code = 0 then s.sealEnd 7 else s
    | none => s)

/-- The engine after a power-up or reset of SEAL (R637). -/
def State.sealStart (s : State) : State := ({ s with sealEng := {} } : State).refreshKeyStore.sealRelease

end Sys2Proof.Machine
end

