-- ==== Sys2Proof/Machine/Flash.lean ====
section
/-! DEFINITION. The flash controller (chapter 04): PROGRAM, the erases, BLANK_CHECK, ABORT and the scrubber (R156-R162, R176). -/

namespace Sys2Proof.Machine

/-- The region a flash command acts on, as flash address and length (R156). -/
def flashRegion (op addr : Nat) : Nat × Nat :=
  match op with
  | 1 => (16 * (addr / 16), 16)
  | 3 => (0x100000 * (addr / 0x100000), 0x100000)
  | _ => (0x2000 * (addr / 0x2000), 0x2000)

/-- Is a run of flash wholly erased? -/
def State.flashErased (s : State) (addr n : Nat) : Bool :=
  !s.eccIn (flashBase + addr) n && (s.load (flashBase + addr) n).all (· == 0xFF)

/-- A flash command ends (R158). -/
def State.flashEnd (s : State) (code : Nat) : State :=
  (({ s with flash := { s.flash with cmd := none } } : State).clr F.FLC_STATUS_BUSY |>.setOn F.FLC_STATUS_DONE
    |>.wr F.FLC_STATUS_CODE code).raise 98

/-- The refusal of R157 for a command at FLC_ADDR, 0 when it starts. -/
def State.flashRefusal (s : State) (op addr : Nat) : Nat :=
  if op = 0 ∨ 4 < op ∨ 0x1FFFFF < addr ∨ (op = 1 ∧ addr % 16 ≠ 0) then 1
  else if op ≤ 3 ∧ !s.on F.AO_FL_STATUS_FW_NONE ∧ addr / 0x100000 = s.rd F.AO_FL_STATUS_HALF then 2
  else if op = 1 ∧ !s.flashErased addr 16 then 3
  else 0

/-- A GO with no command running (R156, R157). After a stop request is accepted no command starts (R145). -/
def State.flashGo (s : State) (op : Nat) : State :=
  let addr := s.rd F.FLC_ADDR_ADDR
  let code := s.flashRefusal op addr
  if s.pwr.phase ≠ .run then s
  else if code ≠ 0 then s.flashEnd code
  else
    let s := if op = 2 ∨ op = 3 then s.count F.FLC_COUNTS_ERASES 1 else s
    let b := (List.range 4).flatMap fun i => leBytes 4 (s.rd (F.FLC_BUF_BYTES i))
    ({ s with flash := { s.flash with cmd := some ⟨op, addr, b, false⟩ } } : State).setOn F.FLC_STATUS_BUSY

/-- A write of FLC_CMD (R156, R157): ABORT acts on an erase that runs. -/
def State.flcCmdWrite (s : State) (w : Word) : State :=
  if F.FLC_CMD_KEY.of w ≠ 0xF1 then s else
  match s.flash.cmd with
  | some c =>
    let s := if F.FLC_CMD_GO.has w then s.setOn F.FLC_STATUS_REFUSED else s
    if F.FLC_CMD_ABORT.has w && (c.op == 2 || c.op == 3) then
      { s with flash := { s.flash with cmd := some { c with abort := true } } }
    else s
  | none => if F.FLC_CMD_GO.has w then s.flashGo (F.FLC_CMD_OP.of w) else s

/-- A command code written to FLC_CMD with GO. -/
def State.flcGo (s : State) (who : Agent) (key : BitVec 8) (op : Nat) : State :=
  let w : Word := BitVec.ofNat 32 (key.toNat * 2 ^ 24 + op * 256 + 1)
  s.access who domFLASH Reg.FLC_CMD w true fun s => s.flcCmdWrite w

/-- PROGRAM (R156, R157). -/
def execProgram (who : Agent) (key : BitVec 8) (s : State) : Res := .next (s.flcGo who key 1)
/-- ERASE_SECTOR (R156, R157). -/
def execEraseSector (who : Agent) (key : BitVec 8) (s : State) : Res := .next (s.flcGo who key 2)
/-- ERASE_HALF (R156, R157). -/
def execEraseHalf (who : Agent) (key : BitVec 8) (s : State) : Res := .next (s.flcGo who key 3)
/-- BLANK_CHECK (R156, R157). -/
def execBlankCheck (who : Agent) (key : BitVec 8) (s : State) : Res := .next (s.flcGo who key 4)

/-- FLASH_ABORT (R157). -/
def execFlashAbort (who : Agent) (key : BitVec 8) (s : State) : Res :=
  let w : Word := BitVec.ofNat 32 (key.toNat * 2 ^ 24 + 2)
  .next (s.access who domFLASH Reg.FLC_CMD w true fun s => s.flcCmdWrite w)

/-- Rows of a region that is erased or left open hold no known single-bit error any more. -/
def State.cleanWeak (s : State) (addr n : Nat) : State :=
  { s with flash := { s.flash with weak := s.flash.weak.filter fun r => !(decide (addr < 16 * r + 16) && decide (16 * r < addr + n)) } }

/-- A region whose contents are left open: every byte is a free value, and so is which rows hold an uncorrectable error (R157, R161). -/
def State.ruinFlash (s : State) (addr n : Nat) : State :=
  let q := s.freeBytes n
  let s := (q.2.putBytes (flashBase + addr) q.1).cleanWeak addr n
  (List.range (n / 16)).foldl (fun s i =>
    let bad := s.freeBelow 2
    if bad.1 = 1 then { bad.2 with eccBad := (flashBase + addr + 16 * i) :: bad.2.eccBad } else bad.2) s

/-- A region erased. -/
def State.eraseFlash (s : State) (addr n : Nat) : State :=
  (({ s with mem := memClear s.mem (flashBase + addr) n } : State).cleanEcc (flashBase + addr) n).cleanWeak addr n

/-- Power loss or a reset abandons the command in progress; only its own region is affected (R161). -/
def State.flashAbandon (s : State) : State :=
  match s.flash.cmd with
  | none => s
  | some c =>
    let s := { s with flash := { s.flash with cmd := none } }
    if c.op = 4 then s else s.ruinFlash (flashRegion c.op c.addr).1 (flashRegion c.op c.addr).2

/-- The flash command in progress ends (R158). same says that the read-back of a programmed row is what was written. A command that a freeze
suspends does not end (R162). -/
def State.flashDone (s : State) (same : Bool) : State :=
  match s.flash.cmd with
  | none => s
  | some c =>
    if !s.live domFLASH then s else
    let a := (flashRegion c.op c.addr).1
    let n := (flashRegion c.op c.addr).2
    match c.op with
    | 1 => if same then (s.putBytes (flashBase + a) c.data).flashEnd 0 else (s.ruinFlash a n).flashEnd 4
    | 4 => ((s.flashReadRun (flashBase + a) n).wrB F.FLC_STATUS_BLANK (s.flashErased a n)).flashEnd 0
    | _ => if c.abort then (s.ruinFlash a n).flashEnd 5 else (s.eraseFlash a n).flashEnd 0

/-- A scrub pass has read its last row (R160). -/
def State.scrubWrap (s : State) : State :=
  ({ s with flash := { s.flash with sectorErr := [] } } : State).count F.FLC_SCRUB_STAT_PASSES 1 |>.wr
    F.FLC_SCRUB_STAT_NEXT_ROW 0

/-- The scrubber skips the half a command runs on (R160). -/
def State.scrubSkip (s : State) : State :=
  let row := s.rd F.FLC_SCRUB_STAT_NEXT_ROW
  if !s.halfBusy (row / 65536) then s
  else if row < 65536 then s.wr F.FLC_SCRUB_STAT_NEXT_ROW 65536
  else s.scrubWrap

/-- FLASH_SCRUB_READ (R160): the scrubber's next read is due. corrected says that the row shows a single-bit error, bad that it shows an
uncorrectable one. -/
def execFlashScrubRead (corrected bad : Bool) (s : State) : Res :=
  .next (if !(s.live domFLASH && s.on F.FLC_SCRUB_CFG_EN) then s else
    let s := s.scrubSkip
    let row := s.rd F.FLC_SCRUB_STAT_NEXT_ROW
    if s.halfBusy (row / 65536) then s else
    let s := s.flashRead row corrected bad
    if row = 131071 then s.scrubWrap else s.wr F.FLC_SCRUB_STAT_NEXT_ROW (row + 1))

/-- FLASH powers up or is reset: no command, and the scrub pass starts again (R160). What its rows hold stays. -/
def State.flashStart (s : State) : State := { s with flash := { weak := s.flash.weak } }

end Sys2Proof.Machine
end

