-- ==== Sys2Proof/Machine/K4Alu.lean ====
section
/-! DEFINITION. Syllables of the Kalsebel K4 (R245, R287, R288) and the X and Y operations with their flags (R289-R295). -/

namespace Sys2Proof.Machine

/-- A syllable as its word. -/
abbrev Syl := Nat

/-- UNIT of a syllable: 0 X, 1 Y, 2 M, 3 C (R245). -/
def sylUnit (w : Syl) : Nat := bits w 31 30
/-- STOP of a syllable. -/
def sylStop (w : Syl) : Bool := bit w 29
/-- OP of an X or Y syllable. -/
def opXY (w : Syl) : Nat := bits w 28 23
/-- F of an X or Y syllable. -/
def sylF (w : Syl) : Bool := bit w 22
/-- rd of an X or Y syllable. -/
def rdXY (w : Syl) : Nat := bits w 21 17
/-- ra of an X or Y syllable. -/
def raXY (w : Syl) : Nat := bits w 16 12
/-- rb of an X or Y syllable. -/
def rbXY (w : Syl) : Nat := bits w 11 7
/-- OP of an M or C syllable. -/
def opMC (w : Syl) : Nat := bits w 28 24
/-- The r field of an M syllable; ra of a C syllable in form Z or J. -/
def rM (w : Syl) : Nat := bits w 23 19
/-- The ra field of an M syllable. -/
def raM (w : Syl) : Nat := bits w 18 14
/-- The rb or rs field of an M syllable. -/
def rbM (w : Syl) : Nat := bits w 13 9

/-- The flags of PSW. -/
structure Flags where
  n : Bool
  z : Bool
  c : Bool
  v : Bool
  deriving DecidableEq, Repr

/-- A condition of Table 08-2. -/
def condHolds (c : Nat) (f : Flags) : Bool :=
  match c with
  | 0 => f.z | 1 => !f.z | 2 => f.c | 3 => !f.c | 4 => f.n | 5 => !f.n | 6 => f.v | 7 => !f.v
  | 8 => f.c && !f.z | 9 => !f.c || f.z | 10 => f.n == f.v | 11 => f.n != f.v
  | 12 => !f.z && f.n == f.v | 13 => f.z || f.n != f.v | _ => true

/-- The form of an X or Y operation (Table 08-3). -/
inductive FormXY where
  | r | i | k | none
  deriving DecidableEq, Repr

/-- The form an OP code has; none when it is reserved. -/
def formXY (op : Nat) : FormXY :=
  if op ≤ 0x18 ∨ (0x20 ≤ op ∧ op ≤ 0x27) then .r
  else if 0x28 ≤ op ∧ op ≤ 0x2A then .k
  else if 0x30 ≤ op ∧ op ≤ 0x3D then .i
  else .none

/-- Does an operation allow F = 1 (the Flags column of Table 08-3)? -/
def flagsXY (op : Nat) : Bool := decide (op ≤ 0x17) || decide (0x30 ≤ op)

/-- Is an X or Y syllable legal (R288, R290)? -/
def legalXY (w : Syl) : Bool :=
  let op := opXY w
  match formXY op with
  | .none => false
  | .k => bits w 22 22 == 0 && bits w 16 16 == 0
  | .r =>
    bits w 6 4 == 0 && (if op = 0x13 then bits w 3 0 != 15 else bits w 3 0 == 0)
      && (decide (op < 0x20) || sylUnit w == 1) && (!sylF w || flagsXY op)
      && (!(decide (0x14 ≤ op) && decide (op ≤ 0x17)) || rbXY w == 0) && (op != 0x18 || rdXY w == 0)
  | .i =>
    (!(decide (0x35 ≤ op) && decide (op ≤ 0x38)) || bits w 11 5 == 0)
      && (!decide (0x3B ≤ op) || bits w 11 10 == 0)

/-- Is an M syllable's encoding legal, its control number apart (R288)? -/
def legalM (w : Syl) : Bool :=
  match opMC w with
  | 0 | 1 | 2 | 3 | 4 | 5 | 6 | 7 => true
  | 8 | 9 => bits w 6 0 == 0
  | 10 => bits w 8 0 == 0
  | 12 => bits w 23 0 == 0
  | 13 | 14 => bits w 18 8 == 0
  | _ => false

/-- Is a C syllable legal (R288, R290)? -/
def legalC (w : Syl) : Bool :=
  match opMC w with
  | 0 => bits w 23 20 != 15
  | 1 | 2 | 3 => true
  | 4 | 5 => bits w 18 0 == 0
  | 6 | 7 | 8 | 9 | 10 | 11 | 12 | 13 => bits w 23 0 == 0
  | _ => false

/-- The register a syllable writes for the rule of R247 and R306; 0 when it writes none. -/
def sylWrites (w : Syl) : Nat :=
  match sylUnit w with
  | 2 => match opMC w with
    | 0 | 1 | 2 | 3 | 4 | 8 | 10 | 13 => rM w
    | _ => 0
  | 3 => match opMC w with | 3 | 4 => 28 | _ => 0
  | _ => if opXY w = 0x18 then 0 else rdXY w

/-- Does a syllable write the flags for the rule of R247 and R306? -/
def sylFlags (w : Syl) : Bool :=
  match sylUnit w with
  | 2 => opMC w == 14 && bits w 7 0 == 0
  | 3 => false
  | _ => sylF w && formXY (opXY w) != .k

/-- N and Z of a result. -/
def flagsNZ (f : Flags) (r : Word) : Flags := { f with n := r.msb, z := r == 0 }

/-- ra + rb + carry, with the flags of group A (R289). -/
def addOp (f : Flags) (a b : Word) (cin : Nat) : Word × Flags :=
  let n := a.toNat + b.toNat + cin
  let r : Word := BitVec.ofNat 32 n
  (r, { flagsNZ f r with c := decide (2 ^ 32 ≤ n), v := a.msb == b.msb && r.msb != a.msb })

/-- ra - rb - borrow, with the flags of group S (R289). -/
def subOp (f : Flags) (a b : Word) (bin : Nat) : Word × Flags :=
  let r : Word := BitVec.ofInt 32 ((a.toNat : Int) - b.toNat - bin)
  let t : Int := a.toInt - b.toInt - bin
  (r, { flagsNZ f r with c := decide (b.toNat + bin ≤ a.toNat), v := decide (t < -2147483648) || decide (2147483647 < t) })

/-- Shifts and rotates: 0 left, 1 right with zeros, 2 right with signs, 3 rotate right, with the flags of group H (R289, R292). -/
def shiftOp (f : Flags) (kind : Nat) (a : Word) (n : Nat) : Word × Flags :=
  let r : Word := match kind with
    | 0 => a <<< n
    | 1 => a >>> n
    | 2 => a.sshiftRight n
    | _ => a.rotateRight n
  let out : Bool := if n = 0 then f.c else match kind with
    | 0 => a.getLsbD (32 - n)
    | _ => a.getLsbD (n - 1)
  (r, { flagsNZ f r with c := out })

/-- A result with the flags of group L (R289). -/
def logicOp (f : Flags) (r : Word) : Word × Flags := (r, flagsNZ f r)

/-- 1 for true, as a register value. -/
def boolWord (b : Bool) : Word := if b then 1 else 0

/-- Leading zeros of a word. -/
def leadingZeros (a : Word) : Nat := match (List.range 32).find? fun i => a.getLsbD (31 - i) with | some i => i | none => 32

/-- The byte-reversed word. -/
def reverseBytes (a : Word) : Word := BitVec.ofNat 32 (ofBe (leBytes 4 a.toNat))

/-- A field of ra from bit p, w bits wide (R293). -/
def fieldOp (signed : Bool) (a : Word) (p w : Nat) : Word :=
  let x : Int := if signed then a.toInt else (a.toNat : Int)
  let f : Int := (x / (2 ^ p : Nat)) % (2 ^ w : Nat)
  if signed then BitVec.ofInt 32 (if 2 * f < (2 ^ w : Nat) then f else f - (2 ^ w : Nat)) else BitVec.ofInt 32 f

/-- rd with its field replaced by the low bits of ra (R293). -/
def insertOp (d a : Word) (p w : Nat) : Word :=
  let m : Word := (BitVec.ofNat 32 (2 ^ w - 1)) <<< p
  (d &&& ~~~m) ||| ((a <<< p) &&& m)

/-- Signed division truncated toward zero, and its remainder (R294). -/
def divOp (signed rem : Bool) (a b : Word) : Word :=
  if signed then BitVec.ofInt 32 (if rem then a.toInt.tmod b.toInt else a.toInt.tdiv b.toInt)
  else BitVec.ofNat 32 (if rem then a.toNat % b.toNat else a.toNat / b.toNat)

/-- A two-operand operation by its R-form OP code: a and b the sources, d the old rd, cond the COND field (Table 08-3). -/
def aluOp (op : Nat) (f : Flags) (a b d : Word) (cond : Nat) : Word × Flags :=
  match op with
  | 0x00 => addOp f a b 0
  | 0x01 => subOp f a b 0
  | 0x02 => addOp f a b (b2n f.c)
  | 0x03 => subOp f a b (b2n (!f.c))
  | 0x04 => logicOp f (a &&& b)
  | 0x05 => logicOp f (a ||| b)
  | 0x06 => logicOp f (a ^^^ b)
  | 0x07 => logicOp f (a &&& ~~~b)
  | 0x08 => shiftOp f 0 a (b.toNat % 32)
  | 0x09 => shiftOp f 1 a (b.toNat % 32)
  | 0x0A => shiftOp f 2 a (b.toNat % 32)
  | 0x0B => shiftOp f 3 a (b.toNat % 32)
  | 0x0C => logicOp f (if a.toInt ≤ b.toInt then a else b)
  | 0x0D => logicOp f (if a.toInt ≤ b.toInt then b else a)
  | 0x0E => logicOp f (if a.toNat ≤ b.toNat then a else b)
  | 0x0F => logicOp f (if a.toNat ≤ b.toNat then b else a)
  | 0x10 => logicOp f (boolWord (decide (a.toInt < b.toInt)))
  | 0x11 => logicOp f (boolWord (decide (a.toNat < b.toNat)))
  | 0x12 => logicOp f (boolWord (a == b))
  | 0x13 => logicOp f (if condHolds cond f then a else b)
  | 0x14 => logicOp f ((a.truncate 8).signExtend 32)
  | 0x15 => logicOp f ((a.truncate 16).signExtend 32)
  | 0x16 => logicOp f (BitVec.ofNat 32 (leadingZeros a))
  | 0x17 => logicOp f (reverseBytes a)
  | 0x20 => (a * b, f)
  | 0x21 => (BitVec.ofInt 32 (a.toInt * b.toInt / 4294967296), f)
  | 0x22 => (BitVec.ofNat 32 (a.toNat * b.toNat / 4294967296), f)
  | 0x23 => (divOp true false a b, f)
  | 0x24 => (divOp false false a b, f)
  | 0x25 => (divOp true true a b, f)
  | 0x26 => (divOp false true a b, f)
  | 0x27 => (d + a * b, f)
  | _ => (d, f)

/-- The R-form operation an I-form one repeats with its immediate in place of rb. -/
def baseOp (op : Nat) : Nat :=
  match op with
  | 0x30 => 0x00 | 0x31 => 0x01 | 0x32 => 0x04 | 0x33 => 0x05 | 0x34 => 0x06 | 0x35 => 0x08 | 0x36 => 0x09 | 0x37 => 0x0A
  | 0x38 => 0x0B | 0x39 => 0x10 | _ => 0x11

/-- The result and flags of an X or Y syllable (Table 08-3). -/
def execXY (w : Syl) (f : Flags) (a b d : Word) : Word × Flags :=
  let op := opXY w
  let imm12 := bits w 11 0
  let imm16 := bits w 15 0
  let p := imm12 % 32
  let wd := bits w 9 5 + 1
  match formXY op with
  | .r => aluOp op f a b d (bits w 3 0)
  | .k => match op with
    | 0x28 => (BitVec.ofInt 32 (sext 16 imm16), f)
    | 0x29 => (BitVec.ofNat 32 (imm16 * 65536), f)
    | _ => (d ||| BitVec.ofNat 32 imm16, f)
  | .i => match op with
    | 0x3B => logicOp f (fieldOp false a p wd)
    | 0x3C => logicOp f (fieldOp true a p wd)
    | 0x3D => logicOp f (insertOp d a p wd)
    | 0x32 | 0x33 | 0x34 => aluOp (baseOp op) f a (BitVec.ofNat 32 imm12) d 0
    | _ => aluOp (baseOp op) f a (BitVec.ofInt 32 (sext 12 imm12)) d 0
  | .none => (d, f)

/-- Does an X or Y syllable raise ARITH (R294)? -/
def arithXY (w : Syl) (a b : Word) : Bool :=
  let op := opXY w
  (decide (0x23 ≤ op) && decide (op ≤ 0x26) && b == 0) || (op == 0x18 && decide (b.toNat ≤ a.toNat))

/-- Is an X or Y operation a divide (R295)? -/
def isDivide (w : Syl) : Bool := decide (sylUnit w ≤ 1) && decide (0x23 ≤ opXY w) && decide (opXY w ≤ 0x26)

/-- Registers a syllable reads. -/
def sylReads (w : Syl) : List Nat :=
  match sylUnit w with
  | 2 => match opMC w with
    | 0 | 1 | 2 | 3 | 4 => [raM w]
    | 5 | 6 | 7 => [raM w, rM w]
    | 8 => [raM w, rbM w]
    | 9 => [raM w, rbM w, rM w]
    | 10 => [raM w, rbM w]
    | 14 => [rM w]
    | _ => []
  | 3 => match opMC w with
    | 1 | 2 | 4 | 5 => [rM w]
    | 6 => [8]
    | 7 => [8, 9]
    | _ => []
  | _ => match formXY (opXY w) with
    | .r => [raXY w, rbXY w] ++ (if opXY w = 0x27 then [rdXY w] else [])
    | .i => [raXY w] ++ (if opXY w = 0x3D then [rdXY w] else [])
    | .k => if opXY w = 0x2A then [rdXY w] else []
    | .none => []

end Sys2Proof.Machine
end

