-- ==== Sys2Proof/Machine/K4State.lean ====
section
/-! DEFINITION. A Kalsebel K4 core's state at work (chapter 07): register windows with spill and fill (R253-R258), the return stack
(R260-R262), levels and the MPU (R264-R267), vectors (R271), and entries (R270, R275). -/

namespace Sys2Proof.Machine

/-- A core's unit. -/
def State.core (s : State) : Core → CoreUnit
  | .a => s.coreA
  | .b => s.coreB

/-- The state with a core's unit changed. -/
def State.modCore (s : State) (c : Core) (f : CoreUnit → CoreUnit) : State :=
  match c with
  | .a => { s with coreA := f s.coreA }
  | .b => { s with coreB := f s.coreB }

/-- This model's place for the EVT_ registers of core B, above core A's; each core sees its own at 0xE0000000. -/
def evtBase : Core → Nat | .a => 0 | .b => 0x100000000

/-- A field of a core's own EVT_ registers. -/
def Fld.own (f : Fld) (c : Core) : Fld := { f with reg := f.reg + evtBase c }

/-- The physical register of a name (Table 07-3, R253). -/
def CoreUnit.phys (u : CoreUnit) (r : Nat) : Nat :=
  if r < 8 then r else 8 + 4 * ((u.base + (r - 8) / 4) % 30) + r % 4

/-- A physical register. -/
def CoreUnit.getPhys (u : CoreUnit) (p : Nat) : Word := if p < 8 then u.com.getD p 0 else u.ring.getD (p - 8) 0

/-- A core with a physical register written; physical 0 stays 0. -/
def CoreUnit.setPhys (u : CoreUnit) (p : Nat) (v : Word) : CoreUnit :=
  if p = 0 then u else if p < 8 then { u with com := u.com.set p v } else { u with ring := u.ring.set (p - 8) v }

/-- The register of a name; x0 reads 0. -/
def CoreUnit.reg (u : CoreUnit) (r : Nat) : Word := if r = 0 then 0 else u.getPhys (u.phys r)

/-- A core with a named register written; a write to x0 is discarded. -/
def CoreUnit.setReg (u : CoreUnit) (r : Nat) (v : Word) : CoreUnit := if r = 0 then u else u.setPhys (u.phys r) v

/-- The flags of PSW. -/
def CoreUnit.flags (u : CoreUnit) : Flags := ⟨u.flagN, u.flagZ, u.flagC, u.flagV⟩

/-- A core with its flags replaced. -/
def CoreUnit.setFlags (u : CoreUnit) (f : Flags) : CoreUnit := { u with flagN := f.n, flagZ := f.z, flagC := f.c, flagV := f.v }

/-- PSW as a word (Table 07-11). -/
def CoreUnit.psw (u : CoreUnit) : Word :=
  BitVec.ofNat 32 (2 ^ 31 * b2n u.flagN + 2 ^ 30 * b2n u.flagZ + 2 ^ 29 * b2n u.flagC + 2 ^ 28 * b2n u.flagV + 2 ^ 20 * u.lvl
    + 2 ^ 8 * u.nest + 2 * b2n u.ie + b2n u.sup)

/-- The flags a PSW word holds. -/
def pswFlags (w : Word) : Flags := ⟨w.getLsbD 31, w.getLsbD 30, w.getLsbD 29, w.getLsbD 28⟩

/-- A core stops for good with a cause of Table 07-8; its watchdog expires (R275). -/
def State.coreFatal (s : State) (c : Core) (cause : Nat) : State := s.modCore c fun u => { u with fatal := some cause }

/-- Is a run of bytes in SRAM blocks that are on? -/
def State.inSram (s : State) (a n : Nat) : Bool := runIn a n sramBase 0x40000 && s.sramOn a n

/-- The SRAM block of an address has served a core (R137). -/
def State.serve (s : State) (c : Core) (a : Nat) : State :=
  if runIn a 1 sramBase 0x40000 then
    { s with pwr := { s.pwr with served := s.pwr.served.set ((a - sramBase) / 0x10000) (some c) } } else s

/-- Must a core's access wait a turn: the other core accesses one of some blocks in the same core cycle, and the block served this core last (R137,
R282)? A block that has served neither yet takes them in the order in which they are sent (log entry 114). -/
def State.turnWaits (s : State) (c : Core) (turn : Nat) : Bool :=
  (List.range 4).any fun j => bit turn j && s.pwr.served.getD j none == some c

/-- A core's write to SRAM. -/
def State.corePut (s : State) (c : Core) (a : Nat) (b : List Byte) : State := (s.putBytes a b).serve c a

/-- Every store of a core's store buffer reaches SRAM, oldest first (R251). -/
def State.drainBuf (s : State) (c : Core) : State :=
  let b := (s.core c).sbuf
  (b.foldl (fun s e => s.corePut c e.1 e.2) s).modCore c fun u => { u with sbuf := [] }

/-- An error corrected on a core's fetch, load or fill counts in EVT_ECC (R283). -/
def State.eccCount (s : State) (c : Core) : State := s.count (F.EVT_ECC_COUNT.own c) 1

/-- A core's load of a run of SRAM for its windows or its return stack: the bytes, or none where an error is uncorrectable, known before or met now
(R283). e is 1 for a corrected error, 2 for an uncorrectable one. -/
def State.loadBack (s : State) (c : Core) (a n e : Nat) : Option (List Byte) × State :=
  if s.eccIn a n then (none, s)
  else if e = 2 then (none, { s with eccBad := insertNat s.eccBad a })
  else
    let s := ((if e = 1 then s.eccCount c else s).drainBuf c).serve c a
    (some (s.load a n), s)

/-- A byte of SRAM as a core sees it, its own buffered stores included (R251). -/
def bufByte (m : Memory) : List (Nat × List Byte) → Nat → Byte
  | [], a => memGet m a
  | (b, d) :: t, a =>
    match d[a - b]? with
    | some x => if b ≤ a ∧ (t.all fun e => !(decide (e.1 ≤ a) && decide (a < e.1 + e.2.length))) then x else bufByte m t a
    | none => bufByte m t a

/-- Bytes of SRAM as a core sees them. -/
def State.coreBytes (s : State) (c : Core) (a n : Nat) : List Byte :=
  (List.range n).map fun i => bufByte s.mem (s.core c).sbuf (a + i)

/-- The divide in progress writes its result (R295). -/
def CoreUnit.endDivide (u : CoreUnit) : CoreUnit :=
  match u.div with
  | some d => { u.setPhys d.phys (BitVec.ofNat 32 d.value) with div := none }
  | none => u

/-- Spill the oldest resident quad, after any write still pending to it (R254, R256, R257). -/
def State.spillQuad (s : State) (c : Core) : State :=
  let s := s.modCore c CoreUnit.endDivide
  let u := s.core c
  if u.wsp < u.wsl + 16 || !s.inSram (u.wsp - 16) 16 then s.coreFatal c 2
  else
    let q := (u.base + 36 - u.resident) % 30
    let at' := u.wsp - 16
    let b := (List.range 4).flatMap fun i => leBytes 4 (u.ring.getD (4 * q + i) 0).toNat
    let low := decide (at' < u.wsw) && !u.low
    ((s.drainBuf c).corePut c at' b).modCore c fun u => { u with
      wsp := at', resident := u.resident - 1, low := u.low || low, lowDue := u.lowDue || low }

/-- Spill until n quads are free (R254). -/
def State.spillFor (s : State) (c : Core) (n : Nat) : State :=
  (List.range 30).foldl (fun s _ =>
    if (s.core c).fatal.isSome || decide ((s.core c).resident + n ≤ 30) then s else s.spillQuad c) s

/-- Fill the quad spilled last (R255, R257, R283). e is the ECC outcome of the load. -/
def State.fillQuad (s : State) (c : Core) (e : Nat) : State :=
  let u := s.core c
  if !s.inSram u.wsp 16 then s.coreFatal c 2
  else match s.loadBack c u.wsp 16 e with
  | (none, s) => s.coreFatal c 7
  | (some b, s) =>
    let q := (u.base + 35 - u.resident) % 30
    let ring := (List.range 4).foldl (fun r i => r.set (4 * q + i) (BitVec.ofNat 32 (u32At b (4 * i)))) u.ring
    s.modCore c fun u => { u with
      ring := ring, wsp := u.wsp + 16, resident := u.resident + 1, low := u.low && decide (u.wsp + 16 < u.wsw) }

/-- Fill until the current frame's six quads are resident (R255). e is the ECC outcome of the first load. -/
def State.fillFrame (s : State) (c : Core) (e : Nat) : State :=
  (List.range 6).foldl (fun s i =>
    if (s.core c).fatal.isSome || decide (6 ≤ (s.core c).resident) then s else s.fillQuad c (if i = 0 then e else 0)) s

/-- The return-stack area lies between RSL and RSB; a transfer moves 8 entries, the oldest at the highest address (R261). -/
def State.pushReturn (s : State) (c : Core) (w : Word) : State :=
  let u := s.core c
  let s :=
    if u.rstack.length < 32 then s
    else if u.rsp < u.rsl + 32 || !s.inSram (u.rsp - 32) 32 then s.coreFatal c 3
    else
      let out := u.rstack.drop 24
      ((s.drainBuf c).corePut c (u.rsp - 32) (out.flatMap fun w => leBytes 4 w.toNat)).modCore c fun u => { u with
        rsp := u.rsp - 32, rstack := u.rstack.take 24 }
  if (s.core c).fatal.isSome then s else s.modCore c fun u => { u with rstack := w :: u.rstack }

/-- Is there an entry to pop (Table 07-4, FRAME_ERROR)? -/
def CoreUnit.canPop (u : CoreUnit) (n : Nat) : Bool := decide (n ≤ u.rstack.length + (u.rsb - u.rsp) / 4)

/-- Load 8 entries back when the on-core stack is empty (R261, R283). e is the ECC outcome of the load. -/
def State.loadReturns (s : State) (c : Core) (e : Nat) : State :=
  let u := s.core c
  if !u.rstack.isEmpty then s
  else if !s.inSram u.rsp 32 then s.coreFatal c 3
  else match s.loadBack c u.rsp 32 e with
  | (none, s) => s.coreFatal c 7
  | (some b, s) => s.modCore c fun u => { u with rsp := u.rsp + 32, rstack := (leWords 8 b).map (BitVec.ofNat 32 ·) }

/-- Pop the return stack: the entry, and the state after. -/
def State.popReturn (s : State) (c : Core) (e : Nat) : Word × State :=
  let s := s.loadReturns c e
  let u := s.core c
  (u.rstack.headD 0, s.modCore c fun u => { u with rstack := u.rstack.tail })

/-- The region that decides an address while the MPU is on (R265). -/
def CoreUnit.region (u : CoreUnit) (a : Nat) : Option Word :=
  (List.range 16).findSome? fun i =>
    let b := u.mpuBase.getD i 0
    let l := u.mpuLim.getD i 0
    if b.getLsbD 7 && decide (256 * bits b.toNat 31 8 ≤ a) && decide (a ≤ 256 * bits l.toNat 31 8 + 255) then some b else none

/-- Does the MPU allow an access of a kind, 0 read, 1 write, 2 execute (R265)? -/
def CoreUnit.allows (u : CoreUnit) (a kind : Nat) : Bool :=
  if !u.mpuEn then true
  else match u.region a with
    | some b => b.getLsbD (kind + if u.sup then 3 else 0)
    | none => u.sup && u.mpuBg

/-- Does an access carry user level on the Strand (R266)? -/
def CoreUnit.userAt (u : CoreUnit) (a : Nat) : Bool :=
  if !u.sup then true
  else if !u.mpuEn then false
  else match u.region a with
    | some b => !b.getLsbD 6
    | none => !u.mpuBg

/-- The level routes and pulse routes that hold a vector pending, as their PRIORITY values (R271, R319). -/
def State.vectorHolds (s : State) (c : Core) (v : Nat) : List Nat :=
  ((s.routes.filter fun r => r.level && r.kind == c.num + 1 && r.dest == v && (s.accepted r.source != r.invert)).map (·.priority))
    ++ (((s.core c).pulses.filter fun p => p.1 == v).map (·.2))

/-- Is a vector pending? -/
def State.vectorPending (s : State) (c : Core) (v : Nat) : Bool := !(s.vectorHolds c v).isEmpty

/-- A vector's level: the highest PRIORITY that holds it. -/
def State.vectorLevel (s : State) (c : Core) (v : Nat) : Nat := (s.vectorHolds c v).foldl max 0

/-- Is a vector enabled in EVT_EN? -/
def State.vectorEn (s : State) (c : Core) (v : Nat) : Bool :=
  bit (s.word (Reg.EVT_EN_LO + 4 * (v / 32) + evtBase c)).toNat (v % 32)

/-- The pending, enabled vector R271 chooses: the highest level, then the lowest number. -/
def State.topVector (s : State) (c : Core) : Option (Nat × Nat) :=
  (List.range 64).foldl (fun best v =>
    if s.vectorEn c v && s.vectorPending c v then
      match best with
      | some (w, l) => if l < s.vectorLevel c v then some (v, s.vectorLevel c v) else some (w, l)
      | none => some (v, s.vectorLevel c v)
    else best) none

/-- The vector that qualifies: its level is above PSW.LVL (R271); a level-0 vector never does. -/
def State.qualifying (s : State) (c : Core) : Option (Nat × Nat) :=
  match s.topVector c with
  | some (v, l) => if (s.core c).lvl < l then some (v, l) else none
  | none => none

/-- A pulse route reaches a vector: the pending bit is set, once for each PRIORITY (R271, R322). -/
def State.pulseVector (s : State) (c : Core) (v pri : Nat) : State :=
  s.modCore c fun u => if u.pulses.contains (v, pri) then u else { u with pulses := (v, pri) :: u.pulses }

/-- An entry (R270, R273, R275): the divide drains, the window slides by six quads, x8 to x11 and PSW are written, and in divided mode the
return PC and PSW are pushed. first is 0 for an interrupt and the exception's code otherwise; lvl is the new PSW.LVL of an interrupt. -/
def State.coreEnter (s : State) (c : Core) (ret : Nat) (x10 x11 : Word) (lvl : Option Nat) (pc first : Nat) : State :=
  let s := s.modCore c fun u => { u.endDivide with exc := none, waiting := false }
  let u := s.core c
  let psw := u.psw
  if u.nest = 255 then s.coreFatal c 6
  else if 65535 ≤ u.frames.length then s.coreFatal c 2
  else
    let s := s.spillFor c 6
    let s := if u.stkMode && (s.core c).fatal.isNone then s.pushReturn c (BitVec.ofNat 32 ret) else s
    let s := if u.stkMode && (s.core c).fatal.isNone then s.pushReturn c psw else s
    if (s.core c).fatal.isSome then s else
    s.modCore c fun u =>
      let u := { u with
        base := (u.base + 6) % 30, resident := u.resident + 6, frames := true :: u.frames, sup := true, nest := u.nest + 1
        lvl := lvl.getD u.lvl, pc := pc, first := some first }
      (((u.setReg 8 (BitVec.ofNat 32 ret)).setReg 9 psw).setReg 10 x10).setReg 11 x11

/-- An exception is raised (R268, R269): a pending bundle ends without effect. unit is the UNIT code of its syllable, bus its bus error
code, info the information word. -/
def State.coreRaise (s : State) (c : Core) (code unit bus ret : Nat) (info : Word) : State :=
  let u := s.core c
  if (code = 4 ∨ code = 0xA) ∧ (u.first = some 4 ∨ u.first = some 0xA) then s.coreFatal c 5
  else
    let x10 := 2 ^ 16 * (if unit < 4 then unit else 0) + 2 ^ 8 * bus + code
    s.modCore c fun u => { u with exc := some ⟨code, ret, x10, info.toNat⟩ }

/-- A core as it starts (Table 07-9), at an address or in boot ROM. CYCLE starts from 0. -/
def coreFresh (pc : Nat) (rom : Bool) : CoreUnit := { on := true, rom := rom, pc := pc }

/-- A core's EVT_ registers at their Reset values (Table 07-17). -/
def State.evtReset (s : State) (c : Core) : State :=
  { s with regs := s.regs.filter fun p => !(decide (0xE0000000 + evtBase c ≤ p.1) && decide (p.1 < 0xE0001000 + evtBase c)) }

/-- A core's stop request ends with the core that made it: it counts for a running core alone (R143). -/
def State.dropStop (s : State) (c : Core) : State :=
  { s with pwr := match c with | .a => { s.pwr with reqA := none } | .b => { s.pwr with reqB := none } }

/-- A core starts (R285). -/
def State.coreStart (s : State) (c : Core) (pc : Nat) (rom : Bool) : State := ((s.evtReset c).dropStop c).modCore c fun _ => coreFresh pc rom

/-- A core stops at once (R141): its unit and its EVT_ registers are lost. -/
def State.coreOff (s : State) (c : Core) : State := ((s.evtReset c).dropStop c).modCore c fun _ => {}

end Sys2Proof.Machine
end

