-- ==== Sys2Proof/Machine/Keyboard.lean ====
section
/-! DEFINITION. The keyboard scanner (chapter 11): frames and samples, line measurement, debounce, ghosts, layers, delivery on the KBC and
firmware paths, typematic repeat, and the keyboard wake in stop. -/

namespace Sys2Proof.Machine

/-- The state with the scanner's own part changed. -/
def State.modKbd (s : State) (f : Keyboard → Keyboard) : State := { s with kbd := f s.kbd }

/-- Drives, senses, diodes flag and layer count of the KEYMAP in force. -/
def State.keymap (s : State) : Nat × Nat × Bool × Nat := keymapShape (s.tillBody 0x038)

/-- The number of scanned drive lines. -/
def State.drives (s : State) : Nat := s.keymap.1

/-- The number of scanned sense lines. -/
def State.senses (s : State) : Nat := s.keymap.2.1

/-- The layers that exist, as a mask (R76). -/
def State.layerMask (s : State) : Nat := 2 ^ s.keymap.2.2.2 - 1

/-- The layer-table halfword of a position (R76). -/
def keyHalf (b : List Byte) (layer pos : Nat) : Nat := u16At b (4 + 2 * (320 * layer + pos))

/-- Look a position up from a layer down: KIND 0x7 passes to the next lower layer (R394). -/
def keyLookup (b : List Byte) (pos : Nat) : Nat → MakeRec
  | 0 => ⟨pos, keyHalf b 0 pos, 0⟩
  | l + 1 => if bits (keyHalf b (l + 1) pos) 15 12 = 7 then keyLookup b pos l else ⟨pos, keyHalf b (l + 1) pos, l + 1⟩

/-- KIND of a make record. -/
def MakeRec.kind (m : MakeRec) : Nat := bits m.entry 15 12

/-- VALUE of a make record. -/
def MakeRec.value (m : MakeRec) : Nat := bits m.entry 11 0

/-- A key that repeats: KIND 0x1 or 0x2 (Table 11-1). -/
def MakeRec.repeats (m : MakeRec) : Bool := m.kind == 1 || m.kind == 2

/-- The set-2 bytes of a make (Table 11-1). -/
def MakeRec.makeBytes (m : MakeRec) : List Nat :=
  match m.kind with
  | 1 => [bits m.value 7 0]
  | 2 => [0xE0, bits m.value 7 0]
  | 6 => if m.value = 0 then [0xE1, 0x14, 0x77, 0xE1, 0xF0, 0x14, 0xF0, 0x77] else [0xE0, 0x12, 0xE0, 0x7C]
  | _ => []

/-- The set-2 bytes of a break (Table 11-1). -/
def MakeRec.breakBytes (m : MakeRec) : List Nat :=
  match m.kind with
  | 1 => [0xF0, bits m.value 7 0]
  | 2 => [0xE0, 0xF0, bits m.value 7 0]
  | 6 => if m.value = 0 then [] else [0xE0, 0xF0, 0x7C, 0xE0, 0xF0, 0x12]
  | _ => []

/-- The debounced state of a position. -/
def State.keyClosed (s : State) (p : Nat) : Bool := bit (s.rd (F.KBD_STATE_CLOSED (p / 16))) (p % 16)

/-- The KBC staging queue replaced, and KBCQ with it. -/
def State.setStaging (s : State) (q : List Nat) : State :=
  (s.modKbd fun k => { k with staging := q }).wr F.KBD_STATUS_KBCQ q.length

/-- The firmware queue replaced, and FWQ with it. -/
def State.setKeyFifo (s : State) (q : List Word) : State :=
  (s.modKbd fun k => { k with fifo := q }).wr F.KBD_STATUS_FWQ q.length

/-- The overrun byte takes the first free place (R399). -/
def State.stageOverrun (s : State) : State :=
  if s.kbd.overrun && decide (s.kbd.staging.length < 32) then
    (s.modKbd fun k => { k with overrun := false }).setStaging (s.kbd.staging ++ [0])
  else s

/-- One delivery on the KBC path (R399), and whether its bytes were queued. A frozen HOST is still there (R410). -/
def State.kbcDeliver (s : State) (b : List Nat) : Bool × State :=
  if b.isEmpty then (false, s)
  else if !(s.domOn domHOST && s.on F.HST_STATUS_LIVE) then (false, s.count F.KBD_COUNTS_LOST 1)
  else if s.kbd.overrun || decide (32 < s.kbd.staging.length + b.length) then
    (false, (((s.setOn F.KBD_STATUS_KBC_OVR).count F.KBD_COUNTS_LOST 1).raise 149 |>.modKbd fun k => { k with overrun := true }).stageOverrun)
  else (true, s.setStaging (s.kbd.staging ++ b))

/-- The word KBD_FIFO shows for an entry (Table 11-8). -/
def keyEntry (m : MakeRec) (brk again lost : Bool) : Word :=
  BitVec.ofNat 32 (2 ^ 31 + 2 ^ 30 * b2n brk + 2 ^ 29 * b2n again + 2 ^ 27 * (m.layer % 4) + 2 ^ 26 * b2n lost
    + 65536 * (m.pos % 512) + m.entry % 65536)

/-- One delivery on the firmware path (R400), and whether it was queued. -/
def State.fwDeliver (s : State) (m : MakeRec) (brk again : Bool) : Bool × State :=
  if 32 ≤ s.kbd.fifo.length then
    (false, ((s.setOn F.KBD_STATUS_FW_OVR).count F.KBD_COUNTS_LOST 1).raise 149 |>.modKbd fun k => { k with lostNext := true })
  else (true, (s.setKeyFifo (s.kbd.fifo ++ [keyEntry m brk again s.kbd.lostNext])).modKbd fun k => { k with lostNext := false })

/-- Deliver a make, break or repeat (R396, R398): nothing for a resolved KIND of 0x0. -/
def State.keyDeliver (s : State) (m : MakeRec) (brk again : Bool) : Bool × State :=
  if m.kind = 0 then (false, s) else
  let d := s.rd F.KBD_CFG_DELIVER
  let r := if d = 1 then (false, s) else s.kbcDeliver (if brk then m.breakBytes else m.makeBytes)
  let q := if d = 0 then (false, r.2) else r.2.fwDeliver m brk again
  (r.1 || q.1, q.2)

/-- Deliver a list of records in order. -/
def State.keyDeliverAll (s : State) (brk : Bool) : List MakeRec → Bool × State
  | [] => (false, s)
  | m :: r =>
    let a := s.keyDeliver m brk false
    let b := a.2.keyDeliverAll brk r
    (a.1 || b.1, b.2)

/-- The highest layer of a mask, 0 when none (R395). -/
def topLayer (m : Nat) : Nat := if bit m 3 then 3 else if bit m 2 then 2 else if bit m 1 then 1 else 0

/-- HELD and ACTIVE of KBD_LAYER and the key events, from the make records (R395, Table 11-1). -/
def State.refreshLayers (s : State) : State :=
  let held := s.kbd.makes.foldl (fun h m => if m.kind = 3 then orBit h (m.value % 4) else h) 0 &&& s.layerMask
  let s := (s.wr F.KBD_LAYER_HELD held).wr F.KBD_LAYER_ACTIVE (topLayer (held ||| s.rd F.KBD_LAYER_TOGGLED))
  (List.range 16).foldl (fun s n =>
    s.level (132 + n) (s.kbd.makes.any fun m => m.kind == 5 && m.value % 16 == n)) s

/-- The delay before the first repeat, in nanoseconds: bits 6:5 of TYPEMATIC (R397). -/
def typematicDelay (b : Nat) : Nat := (1 + bits b 6 5) * 250000000

/-- The period of the repeats, in nanoseconds: bits 4:3 and 2:0 of TYPEMATIC (R397). -/
def typematicPeriod (b : Nat) : Nat := (8 + bits b 2 0) * 2 ^ bits b 4 3 * 4170000

/-- A make is accepted at a time from the start of the frame (R394, R395, R397). -/
def State.keyMake (s : State) (p : Nat) (time : Int) : State :=
  let m := keyLookup (s.tillBody 0x038) p s.kbd.frameLayer
  let s := s.wr (F.KBD_STATE_CLOSED (p / 16)) (orBit (s.rd (F.KBD_STATE_CLOSED (p / 16))) (p % 16))
  let s := s.modKbd fun k => { k with makes := k.makes ++ [m], accMakes := k.accMakes ++ [m] }
  let s := if m.kind = 4 then s.wr F.KBD_LAYER_TOGGLED (s.rd F.KBD_LAYER_TOGGLED ^^^ (1 <<< (m.value % 4))) else s
  let s := s.refreshLayers
  if m.repeats && s.on F.KBD_CFG_REPEAT_EN then
    let b := s.rd F.KBD_HOSTCFG_TYPEMATIC
    s.modKbd fun k => { k with typematic := some p, tmByte := b, tmLeft := time + typematicDelay b }
  else s

/-- A break is accepted: it uses the make record (R394, R397). -/
def State.keyBreak (s : State) (p : Nat) : State :=
  let s := s.wr (F.KBD_STATE_CLOSED (p / 16)) (clrBit (s.rd (F.KBD_STATE_CLOSED (p / 16))) (p % 16))
  let s := s.modKbd fun k => { k with
    makes := k.makes.filter (·.pos != p)
    accBreaks := k.accBreaks ++ k.makes.filter (·.pos == p)
    typematic := if k.typematic == some p then none else k.typematic
    tmBroken := k.tmBroken || k.typematic == some p }
  s.refreshLayers

/-- Is a line stuck (R391)? Index of R388. -/
def State.lineStuck (s : State) (i : Nat) : Bool := s.on (F.KBD_RISE_STUCK i)

/-- The sample of a drive's sense lines as it reads: scanned lines that have a ball and are not stuck (R385, R391). -/
def State.rawRow (s : State) (d : Nat) (row : BitVec 16) : Nat :=
  if s.lineStuck d || !s.pinned (.kbdDrv d) then 0 else
  (List.range s.senses).foldl (fun r i =>
    if bit row.toNat i && !s.lineStuck (20 + i) && s.pinned (.kbdSns i) then orBit r i else r) 0

/-- Does a rectangle of closed readings have this position as a corner (R393)? -/
def ghostCorner (rows : List Nat) (p : Nat) : Bool :=
  let r := natAt rows (p / 16)
  bit r (p % 16) && (List.range rows.length).any fun e =>
    e != p / 16 && bit (natAt rows e) (p % 16) && (r &&& natAt rows e &&& clrBit 0xFFFF (p % 16)) != 0

/-- Debounce one position (R392, R403): closed is its reading as debounce counts it, elapsed the time since its last sample, time its
sample's place in the frame. -/
def State.debounce (s : State) (p : Nat) (closed : Bool) (elapsed time : Int) : State :=
  let was := s.keyClosed p
  let w := s.kbd.windows.find? fun w => w.pos == p
  if closed == was then
    match w with
    | none => s
    | some w =>
      let s := s.modKbd fun k => { k with windows := k.windows.filter (·.pos != p) }
      if w.left == elapsed then s.count F.KBD_COINCIDE_COUNT 1 else s
  else
    let len : Int := 500000 * (if was then bits s.kbd.timing 18 14 else bits s.kbd.timing 23 19 : Nat)
    let left := match w with | some w => w.left - elapsed | none => len
    let rest := s.kbd.windows.filter (·.pos != p)
    if left ≤ 0 then
      let s := s.modKbd fun k => { k with windows := rest }
      if was then s.keyBreak p else s.keyMake p time
    else s.modKbd fun k => { k with windows := rest ++ [⟨p, left⟩] }

/-- The place of a drive's sample in a frame, in nanoseconds, for a settle time in 10 ns units (R387). -/
def sampleAt (settle d : Nat) : Int := ((d * (10 * settle + 500) + 10 * settle : Nat) : Int)

/-- The frame period in nanoseconds (Table 11-6). -/
def frameNs (timing : Nat) : Nat :=
  let f := bits timing 31 24
  if f = 0 then 1000000 else 50000 * max 2 f

/-- KBD_FRAME_START (R387, R391-R395): a frame's slots. rows holds the level of every drive's sense lines, a 1 for a closed reading; dt is
the time since the start of the frame before, frozen time left out, in nanoseconds. -/
def execKbdFrameStart (rows : List (BitVec 16)) (dt : Nat) (s : State) : Res :=
  .next (if !s.live domKBD || !s.on F.KBD_STATUS_RUNNING || s.kbd.inFrame then s else
    let settle := s.rd F.KBD_SETTLE_SETTLE
    let last := s.kbd.lastSettle
    let raw := (List.range s.drives).map fun d => s.rawRow d (rows.getD d 0)
    let s := s.modKbd fun k => { k with
      inFrame := true, lineDone := false, frameLayer := s.rd F.KBD_LAYER_ACTIVE, lastSettle := settle
      tmLeft := k.tmLeft - dt, tmBroken := false }
    let s := (List.range s.drives).foldl (fun s d => s.wr (F.KBD_RAW_CLOSED d) (natAt raw d)) s
    let places := (List.range s.drives).flatMap fun d => (List.range s.senses).map fun i => 16 * d + i
    let blocked := if s.on F.KBD_STATUS_DIODES then [] else
      places.filter fun p => !s.keyClosed p && ghostCorner raw p
    let s := places.foldl (fun s p =>
      s.debounce p (bit (natAt raw (p / 16)) (p % 16) && !blocked.contains p)
        ((dt : Int) + sampleAt settle (p / 16) - sampleAt last (p / 16)) (sampleAt settle (p / 16))) s
    let s := s.wrB F.KBD_STATUS_GHOSTING (!blocked.isEmpty)
    if blocked.isEmpty then s else (s.count F.KBD_COUNTS_GHOST 1).raise 150)

/-- The settle time of R390 in 10 ns units, before it is held: SETTLE_MUL quarters of M and SETTLE_ADD quarters of a microsecond. -/
def settleOf (timing m : Nat) : Nat := (max 4 (bits timing 13 10) * m + 3) / 4 + 25 * bits timing 9 5

/-- SETTLE_INIT in 10 ns units (Table 11-6). -/
def settleInit (timing : Nat) : Nat := 100 * (if bits timing 4 0 = 0 then 20 else bits timing 4 0)

/-- The scanned line indices (R388). -/
def State.lines (s : State) : List Nat :=
  List.range s.drives ++ (List.range s.senses).map (20 + ·)

/-- The largest rise time among the lines that are not stuck (R390). -/
def State.maxRise (s : State) : Nat :=
  s.lines.foldl (fun m i => if s.lineStuck i then m else max m (s.rd (F.KBD_RISE_T_RISE i))) 0

/-- The settle time in force from a frame boundary on (R390). -/
def State.applySettle (s : State) : State :=
  if s.kbd.setDone then
    let x := settleOf s.kbd.timing (s.rd F.KBD_SETTLE_MAX_RISE)
    let y := max 100 (min 10000 x)
    ((s.modKbd fun k => { k with setDone := false }).wr F.KBD_SETTLE_SETTLE y |>.wrB F.KBD_STATUS_CLAMP (x != y)).setOn
      F.KBD_STATUS_MEASURED
  else if s.on F.KBD_STATUS_MEASURED then s
  else s.wr F.KBD_SETTLE_SETTLE (settleInit s.kbd.timing)

/-- KBD_FRAME_BOUNDARY (R398, R387, R390): deliveries, then what takes effect at a boundary. -/
def execKbdFrameBoundary (s : State) : Res :=
  .next (if !s.live domKBD || !s.kbd.inFrame then s else
    let b := s.keyDeliverAll true s.kbd.accBreaks
    let m := b.2.keyDeliverAll false s.kbd.accMakes
    let s := m.2.raiseIf (b.1 || m.1) 148
    let long := decide (frameNs s.kbd.timing < s.drives * (10 * s.kbd.lastSettle + 500))
    let s := if long then s.setOn F.KBD_STATUS_LONG else s
    let s := s.modKbd fun k => { k with
      accMakes := [], accBreaks := [], inFrame := false, timing := (s.word Reg.KBD_TIMING).toNat }
    s.applySettle.wrB F.KBD_STATUS_RUNNING (s.on F.KBD_CFG_SCAN_EN))

/-- Does a line have a raw or debounced closed position on it (R389)? -/
def State.lineBusy (s : State) (i : Nat) : Bool :=
  if i < 20 then s.rd (F.KBD_RAW_CLOSED i) != 0 || s.rd (F.KBD_STATE_CLOSED i) != 0
  else (List.range 20).any fun d => bit (s.rd (F.KBD_RAW_CLOSED d)) (i - 20) || bit (s.rd (F.KBD_STATE_CLOSED d)) (i - 20)

/-- The line after line i in a set (R389); none after the last. -/
def State.nextLine (s : State) (i : Nat) : Option Nat := s.lines.find? fun j => decide (i < j)

/-- Store a line's rise time, in 10 ns units; none is a line that does not rise within 255 µs (R388, R391). A capacitance the field cannot
hold is not stated: a free value. -/
def State.storeRise (s : State) (i : Nat) (rise : Option (BitVec 16)) : State :=
  let t := match rise with | some r => min 25500 r.toNat | none => 25500
  let stuck := match rise with | some r => decide (25500 < r.toNat) | none => true
  let cap := 1000 * t / 1204
  let s := ((s.wr (F.KBD_RISE_T_RISE i) t).setOn (F.KBD_RISE_VALID i)).wrB (F.KBD_RISE_STUCK i) stuck
  let s := if cap ≤ 4095 then s.wr (F.KBD_RISE_CAP_PF i) cap else
    let r := s.freeBelow 4096
    r.2.wr (F.KBD_RISE_CAP_PF i) r.1
  s.wrB F.KBD_STATUS_STUCK (s.lines.any s.lineStuck)

/-- KBD_LINE_MEASURE (R388, R389, R391): the line that is due is measured after a frame's last slot, or skipped while a key on it is
closed. rise is the time it took to read high, in 10 ns units. -/
def execKbdLineMeasure (rise : Option (BitVec 16)) (s : State) : Res :=
  .next (match s.kbd.measSet with
    | none => s
    | some i =>
      if !s.live domKBD || !s.kbd.inFrame || s.kbd.lineDone then s
      else if s.lineBusy i then s.modKbd fun k => { k with lineDone := true }
      else
        let s := (s.storeRise i rise).modKbd fun k => { k with lineDone := true }
        match s.nextLine i with
        | some j => s.modKbd fun k => { k with measSet := some j }
        | none => ((s.modKbd fun k => { k with measSet := none, setDone := true }).wr F.KBD_SETTLE_MAX_RISE s.maxRise).raise 151)

/-- A measurement set starts unless one is in progress (R389). -/
def State.startMeasure (s : State) : State :=
  if s.kbd.measSet.isSome then s else s.modKbd fun k => { k with measSet := some 0 }

/-- KBD_MEASURE_PERIOD (R389): MEAS_PERIOD seconds have passed since the last set completed. -/
def execKbdMeasurePeriod (s : State) : Res :=
  .next (if s.live domKBD && s.rd F.KBD_CFG_MEAS_PERIOD != 0 then s.startMeasure else s)

/-- A write of KBD_CMD (R389, R406). -/
def State.kbdCmdWrite (s : State) (w : Word) : State :=
  let s := if F.KBD_CMD_CLEAR_KBC.has w then (s.modKbd fun k => { k with overrun := false }).setStaging [] else s
  let s := if F.KBD_CMD_CLEAR_FW.has w then s.setKeyFifo [] else s
  if F.KBD_CMD_MEASURE.has w then s.startMeasure else s

/-- MEASURE (R389). -/
def execMeasure (who : Agent) (s : State) : Res := .next (s.access who domKBD Reg.KBD_CMD 1 true fun s => s.kbdCmdWrite 1)

/-- CLEAR_KBC (R406). -/
def execClearKbc (who : Agent) (s : State) : Res := .next (s.access who domKBD Reg.KBD_CMD 2 true fun s => s.kbdCmdWrite 2)

/-- CLEAR_FW (R406). -/
def execClearFw (who : Agent) (s : State) : Res := .next (s.access who domKBD Reg.KBD_CMD 4 true fun s => s.kbdCmdWrite 4)

/-- TYPEMATIC_REPEAT (R397, R403): the repeat falls due at a time from the start of the last frame; it is delivered at or after the delay or
period that TYPEMATIC set. With a break of the typematic key accepted on the same edge the repeat is not delivered. -/
def execTypematicRepeat (due : RepeatNote) (s : State) : Res :=
  .next (if !s.live domKBD || !s.on F.KBD_CFG_REPEAT_EN then s
    else if due.tie && s.kbd.tmBroken then (s.modKbd fun k => { k with tmBroken := false }).count F.KBD_COINCIDE_COUNT 1
    else if (due.when : Int) < s.kbd.tmLeft then s else
    match s.kbd.typematic with
    | some p =>
      match s.kbd.makes.find? (·.pos == p) with
      | some m => ((s.modKbd fun k => { k with tmLeft := k.tmLeft + typematicPeriod k.tmByte }).keyDeliver m false true).2
      | none => s
    | none => s)

/-- KBC_STAGING_MOVE (R399): one byte moves when a place is free in the KBC autoteller's key-byte FIFO. -/
def execKbcStagingMove (s : State) : Res :=
  .next (if !s.live domKBD || !s.linkLive || s.kbcTeller.isNone || decide (16 ≤ s.rd F.HST_KBC_STAT_FIFO) then s else
    match s.kbd.staging with
    | [] => s
    | b :: r => ((s.kbcFifoPush b).setStaging r).stageOverrun)

/-- A read of KBD_FIFO: the head entry, and the state with it removed; an Audit-chain read removes nothing (R12, Table 11-8). -/
def State.keyFifoRead (s : State) (who : Agent) : Word × State :=
  match s.kbd.fifo with
  | [] => (0, s)
  | e :: r => (e, match who with | .jtag => s | .core _ _ => s.setKeyFifo r)

/-- KBD_FIFO_READ (R400). -/
def execKbdFifoRead (who : Agent) (s : State) : Res :=
  .next (if !s.domOn domKBD then s.busErr busDomainOff
    else if s.frozen domKBD then s.reply (.word (s.kbd.fifo.headD 0))
    else let r := s.keyFifoRead who; r.2.reply (.word r.1))

/-- KBD_HOSTCFG_WRITE (R401, R411). -/
def execKbdHostcfgWrite (who : Agent) (w : Word) (s : State) : Res :=
  .next (s.access who domKBD Reg.KBD_HOSTCFG w false fun s => s.accWrite Reg.KBD_HOSTCFG w)

/-- A write of KBD_CFG: REPEAT_EN = 0 ends the repeats (R397), and SCAN_EN = 1 resumes frames (Table 11-6). -/
def State.kbdCfgWrite (s : State) (w : Word) : State :=
  let s := s.accWrite Reg.KBD_CFG w
  let s := if s.on F.KBD_CFG_REPEAT_EN then s else s.modKbd fun k => { k with typematic := none }
  if s.on F.KBD_CFG_SCAN_EN && decide (0 < s.drives) then s.setOn F.KBD_STATUS_RUNNING else s

/-- KBD_WAKE_DETECT (R409): an unmasked sense line has been low for 20 µs in stop. -/
def execKbdWakeDetect (sense : Fin 16) (s : State) : Res :=
  .next (if s.pwr.phase != .stopped || !s.pinned (.kbdSns sense.val) || bit s.kbd.maskSense sense.val then s
    else s.wakeSource 0)

/-- KBD_SENSE_UNMASK (R409): a masked sense line has been high for 20 µs in stop. -/
def execKbdSenseUnmask (sense : Fin 16) (s : State) : Res :=
  .next (if s.pwr.phase != .stopped then s else s.modKbd fun k => { k with maskSense := clrBit k.maskSense sense.val })

/-- KBD starts after its power-up or reset, with its registers at their Reset values (R407, R408): every position open, no make record, a
measurement set begins. -/
def State.kbdStart (s : State) : State :=
  let t := (s.word Reg.KBD_TIMING).toNat
  let s := s.modKbd fun k => { maskSense := k.maskSense, measSet := some 0, timing := t, lastSettle := settleInit t }
  (s.wr F.KBD_SETTLE_SETTLE (settleInit t)).wrB F.KBD_STATUS_DIODES s.keymap.2.2.1
    |>.wrB F.KBD_STATUS_RUNNING (s.on F.KBD_CFG_SCAN_EN && decide (0 < s.drives))

/-- A KEYMAP switch (R405, Table 03-1): make records and layer state carry across it, and layers above the new LAYERS - 1 are released. -/
def State.kbdKeymap (s : State) : State :=
  let s := (s.wr F.KBD_LAYER_TOGGLED (s.rd F.KBD_LAYER_TOGGLED &&& s.layerMask)).refreshLayers
  s.wrB F.KBD_STATUS_DIODES s.keymap.2.2.1 |>.wrB F.KBD_STATUS_RUNNING (s.on F.KBD_CFG_SCAN_EN && decide (0 < s.drives))

/-- Release of a freeze (R410): the frame in progress is abandoned and a new one starts at once. -/
def State.kbdRelease (s : State) : State := s.modKbd fun k => { k with inFrame := false }

end Sys2Proof.Machine
end

