-- ==== Sys2Proof/Machine/Lamps.lean ====
section
/-! DEFINITION. Lamps (chapter 16): strings behind one boost stage with dropout and shedding, the indicator matrix, and the chains with
their return line. -/

namespace Sys2Proof.Machine

/-- The state with the strings' own part changed. -/
def State.modLst (s : State) (f : Strings → Strings) : State := { s with lst := f s.lst }

/-- What string x keeps beside its registers. -/
def State.str (s : State) (x : Nat) : LampString := s.lst.strs.getD x {}

/-- The state with a string changed. -/
def State.modStr (s : State) (x : Nat) (f : LampString → LampString) : State :=
  s.modLst fun l => { l with strs := l.strs.set x (f (l.strs.getD x {})) }

/-- W of a block's WEXP field (Table 16-7). -/
def pwmDepth (wexp : Nat) : Nat := 8 + min wexp 8

/-- V of a brightness value (R530). -/
def brightness (b w : Nat) : Nat := b >>> (16 - w)

/-- The compensated value V′ (R532). -/
def compensate (p v k : Nat) : Nat := min p ((v * k + 16384) / 32768)

/-- HR in mV (Table 16-7). -/
def headroomMv (hr : Nat) : Nat := if hr = 0 then 800 else 50 * max 4 (min hr 60)

/-- HR in force. -/
def State.hr (s : State) : Int := (headroomMv (F.LST_CFG_HR.of s.lst.cfg) : Nat)

/-- ISET in mA of a written SCFG word. -/
def isetOf (x : Nat) (w : Word) : Nat := min 100 ((F.LST_SCFG_ISET x).of w)

/-- Is a string driven under R535? -/
def State.driven (s : State) (x : Nat) : Bool :=
  let w := (s.str x).scfg
  s.on F.LST_CFG_EN && (F.LST_SCFG_EN x).has w && isetOf x w != 0

/-- BST_VMAX of LAMPPRIO in mV (R538). -/
def State.lampVmax (s : State) : Nat :=
  let v := u16At (s.tillBody 0x050) 32
  if v = 0 then 36000 else 10 * v

/-- BST_VMAX in force takes LAMPPRIO's value: at power-up and when LAMPPRIO switches. -/
def State.lampPrioApply (s : State) : State := s.wr F.LST_BST_TGT_VMAX s.lampVmax

/-- The available headroom H of a string with samples, in mV. -/
def State.headroom (s : State) (x : Nat) : Option Int :=
  (s.str x).vsnk.map fun v => (v : Int) + s.rd F.LST_BST_TGT_VMAX - s.rd F.LST_BST_VBST

/-- Bring HEAD_MV up to date; an H that the field cannot hold leaves a free value. -/
def State.refreshHead (s : State) (x : Nat) : State :=
  match s.headroom x with
  | none => s
  | some h =>
    if 0 ≤ h ∧ h < 65536 then s.wr (F.LST_STAT_HEAD_MV x) h.toNat
    else
      let q := s.freeBelow 65536
      q.2.wr (F.LST_STAT_HEAD_MV x) q.1

/-- Bring every string's HEAD_MV up to date. -/
def State.refreshHeads (s : State) : State := (List.range 4).foldl (fun s x => s.refreshHead x) s

/-- May the boost switch (R538, R556, R560)? -/
def State.boostOn (s : State) : Bool :=
  s.on F.LST_CFG_EN && ((List.range 4).any fun x => s.driven x) && !s.lst.ovpHold && !s.on F.LST_BST_LATCHED && !s.frozen domLAMPS

/-- Bring GATE_ON up to date. -/
def State.refreshGate (s : State) : State :=
  if !s.domOn domLAMPS then s else
  let g := s.boostOn
  let s := s.wrB F.LST_BST_GATE_ON g
  if g then s else s.modLst fun l => { l with tracking := false }

/-- A string's bypassed lamps (R536), as a mask. -/
def State.bypassed (s : State) (x : Nat) : Nat :=
  s.rd (F.LST_LAMP_FORCE_OFF x) ||| s.rd (F.LST_LAMP_SHED x) ||| s.rd (F.LST_LAMP_OPEN x)

/-- The lamps of a string. -/
def State.lampCount (s : State) (x : Nat) : Nat := (F.LST_SCFG_NLAMP x).of (s.str x).scfg + 1

/-- Lamps N to 7 as a mask (R534). -/
def absentLamps (n : Nat) : Nat := 256 - 2 ^ n

/-- A string's on-time, start and setting in a period (R531, R535): ticks, and the setting where 65,535 is ISET. The spec states no rounding of
the setting. -/
def State.driveTicks (s : State) (x : Nat) : State :=
  let st := s.str x
  let w := pwmDepth (F.LST_CFG_WEXP.of s.lst.cfg)
  let p := 2 ^ w - 1
  let v := compensate p (brightness st.value w) (natAt s.lst.ks ((F.LST_SCFG_COLOUR x).of st.scfg))
  let start := (F.LST_SCFG_PHASE x).of st.scfg * p / 256
  if !s.driven x || v == 0 then s.modStr x fun t => { t with onTicks := 0, start := start, setting := 0 }
  else if !(F.LST_SCFG_HYBRID x).has st.scfg then s.modStr x fun t => { t with onTicks := v, start := start, setting := 65535 }
  else if (p + 7) / 8 ≤ v then
    let q := s.roundFree (65535 * v) p
    q.2.modStr x fun t => { t with onTicks := p, start := start, setting := q.1.toNat }
  else
    let q := s.roundFree 65535 8
    q.2.modStr x fun t => { t with onTicks := 8 * v, start := start, setting := q.1.toNat }

/-- A string's drive in a period: its ticks and setting, and the regulator's current in µA with the gain and offset trims of its record (Table
16-2). The spec states no rounding of the current. -/
def State.driveString (s : State) (x : Nat) : State :=
  let s := s.driveTicks x
  let st := s.str x
  if st.setting = 0 then s.modStr x fun t => { t with ua := 0 } else
  let trim := natAt st.cal 0
  let q := s.roundFree ((1000 * isetOf x st.scfg * st.setting : Nat) * (1000000 + sext 16 (bits trim 31 16))) 65535000000
  q.2.modStr x fun t => { t with ua := q.1 + sext 16 (bits trim 15 0) }

/-- MHz of a domain's island clock, by its clock code in DOMAINS (R65); domains 0-11 run at 48 MHz here. -/
def State.clockMhz (s : State) (d : Nat) : Nat :=
  let b := s.tillBody 0x001
  let code := if d < 12 then 0 else if d < 20 then bits (u32At b 8) (4 * (d - 12) + 3) (4 * (d - 12))
    else bits (u32At b 12) (4 * (d - 20) + 3) (4 * (d - 20))
  natAt [48, 64, 80, 96, 100] code

/-- Does a string's on-time last at least 4 µs (R537)? -/
def State.onLong (s : State) (x : Nat) : Bool :=
  decide (4 * s.clockMhz domLAMPS ≤ (s.str x).onTicks * (F.LST_CFG_PWM_DIV.of s.lst.cfg + 1)) && (s.str x).onTicks != 0

/-- One string at a period boundary: written values, its record and its switches take effect (Table 16-1, R536). -/
def State.periodString (s : State) (x : Nat) : State :=
  let scfg := s.word (Reg.LST_SCFG x)
  let s := s.modStr x fun t =>
    { t with
      scfg := scfg, value := s.rd (F.LST_VAL_VALUE x), cal := s.record (0x0120 + x),
      closed := s.bypassed x ||| absentLamps ((F.LST_SCFG_NLAMP x).of scfg + 1) }
  let s := if s.driven x then s else s.modStr x fun t => { t with vsnk := none }
  s.driveString x

/-- A PWM period begins (R535). -/
def State.periodBoundary (s : State) : State :=
  let cfg := s.word Reg.LST_CFG
  let ks := (List.range 4).map fun c => s.rd (F.LST_K_K c)
  let s := s.modLst fun l => { l with cfg := cfg, ks := ks }
  ((List.range 4).foldl (fun s x => s.periodString x) s).refreshGate

/-- LAMP_PERIOD_BOUNDARY (R535, R550). -/
def execLampPeriodBoundary (s : State) : Res :=
  .next (if s.live domLAMPS then s.periodBoundary else s)

/-- A lamp sync to LAMPS (R535): the running period ends and a new one starts. -/
def State.lampRestart (s : State) : State := if s.live domLAMPS then s.periodBoundary else s

/-- A tap voltage with the record's gain trim in ppm (Table 16-2), in mV; the spec states no rounding, and no value beyond the field. -/
def State.tapVolts (s : State) (x raw : Nat) : Nat × State :=
  let g := sext 16 (bits (natAt (s.str x).cal 1) 15 0)
  let q := s.roundFree ((raw : Int) * (1000000 + g)) 1000000
  if 0 ≤ q.1 ∧ q.1 < 65536 then (q.1.toNat, q.2) else q.2.freeBelow 65536

/-- HEADROOM_SAMPLE (R537): the voltage at T8 and across each lamp, in mV, 2 µs into an on-time of at least 4 µs. -/
def execHeadroomSample (x : Fin 4) (vsnk : BitVec 16) (vf : List (BitVec 16)) (s : State) : Res :=
  .next (if !s.live domLAMPS || !s.driven x || !s.onLong x then s else
    let q := s.tapVolts x vsnk.toNat
    let s := q.2.modStr x fun t => { t with vsnk := some q.1 }
    let s := (List.range (s.lampCount x)).foldl (fun s k =>
      if bit (s.bypassed x) k then s else
      let q := s.tapVolts x ((vf.getD k 0).toNat)
      q.2.wr (F.LST_VF_VF x k) q.1) s
    s.refreshHead x)

/-- The largest need among driven strings with samples (R537, R538), in mV. -/
def State.need (s : State) : Option Int :=
  ((List.range 4).filterMap fun x =>
    if s.driven x then (s.str x).vsnk.map fun v => (s.rd F.LST_BST_VBST : Int) - v + s.hr else none).max?

/-- One move of the boost target (R538): by at most 0.1 V, held at BST_VMAX. -/
def State.moveTarget (s : State) : State :=
  let t : Int := (s.rd F.LST_BST_TGT_TARGET : Nat)
  let vmax : Int := (s.rd F.LST_BST_TGT_VMAX : Nat)
  let n : Int := match s.need with | none => t | some n => n
  let t' := min vmax (max 0 (clampInt (t - 100) (t + 100) n))
  (s.wr F.LST_BST_TGT_TARGET t'.toNat).wrB F.LST_BST_AT_MAX (t' == vmax)

/-- BOOST_UPDATE (R538): the converter's measured V_BST in mV, every 100 µs. -/
def execBoostUpdate (vbst : BitVec 16) (s : State) : Res :=
  .next (if !s.live domLAMPS then s else
    let s := (s.wr F.LST_BST_VBST vbst.toNat).refreshHeads
    let s := if decide (vbst.toNat < s.rd F.LST_BST_TGT_VMAX) then s.modLst fun l => { l with ovpHold := false } else s
    let s := s.refreshGate
    if !s.boostOn then s
    else if s.lst.tracking then s.moveTarget
    else
      let v := min vbst.toNat (s.rd F.LST_BST_TGT_VMAX)
      ((s.wr F.LST_BST_TGT_TARGET v).wrB F.LST_BST_AT_MAX (v == s.rd F.LST_BST_TGT_VMAX)).modLst fun l => { l with tracking := true })

/-- The temperature source of a block (R533): its reading in 1/16 °C, and whether TEMP_FAULT is set; none with no source. -/
def State.lampSource (s : State) (code : Nat) : Option (Int × Bool) :=
  if code = 0xFF then none else
  let r := s.fanSource code
  some (if r.2.1 || r.2.2.2 then (2400, true) else (r.1, false))

/-- K_c of a colour at a temperature (R532). -/
def State.lampFactor (s : State) (t : Int) (c : Nat) : Nat :=
  let r := s.record 0x0124
  let tref := sext 16 (orDefault (bits (natAt r 0) 15 0) 400)
  let coef := sext 16 (bits (natAt r (1 + c)) 15 0)
  (clampInt 16384 49152 (32768 + (2 * coef * (t - tref) * 2048 + 1000000) / 2000000)).toNat

/-- The four factors of a block and its TEMP_FAULT (R532, R533). -/
def State.lampFactors (s : State) (code : Nat) : List Nat × Bool :=
  match s.lampSource code with
  | none => (List.replicate 4 32768, false)
  | some r => ((List.range 4).map fun c => s.lampFactor r.1 c, r.2)

/-- LAMP_COMPENSATION (R532): a block's 100 ms have passed. -/
def execLampCompensation (b : LampBlock) (s : State) : Res :=
  .next (match b with
    | .strings =>
      if !s.live domLAMPS then s else
      let r := s.lampFactors (s.rd F.LST_TSRC_TSRC)
      let s := (List.range 4).foldl (fun s c => s.wr (F.LST_K_K c) (natAt r.1 c)) s
      (List.range 4).foldl (fun s x => s.wrB (F.LST_STAT_TEMP_FAULT x) r.2) s
    | .matrix =>
      if !s.live domLAMPM then s else
      let r := s.lampFactors (s.rd F.LMX_TSRC_TSRC)
      ((List.range 4).foldl (fun s c => s.wr (F.LMX_K_K c) (natAt r.1 c)) s).wrB F.LMX_STAT_TEMP_FAULT r.2
    | .chains =>
      if !s.live domLAMPC then s else
      let r := s.lampFactors (s.rd F.LCH_TSRC_TSRC)
      let s := (List.range 4).foldl (fun s c => s.wr (F.LCH_K_K c) (natAt r.1 c)) s
      (List.range 4).foldl (fun s n => s.wrB (F.LCH_STAT_TEMP_FAULT n) r.2) s)

/-- Is a driven string's H below HR now? -/
def State.lowHead (s : State) (x : Nat) : Bool :=
  match s.headroom x with | some h => decide (h < s.hr) | none => false

/-- Is its H at or above HR? -/
def State.goodHead (s : State) (x : Nat) : Bool :=
  match s.headroom x with | some h => decide (s.hr ≤ h) | none => false

/-- DROPOUT_ENTER (R539): H has stayed below HR for 10 ms. tie is a headroom sample that crosses back on that edge (R553). -/
def execDropoutEnter (x : Fin 4) (tie : Bool) (s : State) : Res :=
  .next (if !s.live domLAMPS || !s.driven x || s.on (F.LST_STAT_DROPOUT x) then s
    else if tie then s.count F.LST_COINCIDE_COUNT 1
    else if s.lowHead x then (s.setOn (F.LST_STAT_DROPOUT x)).level (288 + x) true else s)

/-- DROPOUT_EXIT (R539): H has stayed at or above HR for 10 ms. -/
def execDropoutExit (x : Fin 4) (tie : Bool) (s : State) : Res :=
  .next (if !s.live domLAMPS || !s.on (F.LST_STAT_DROPOUT x) then s
    else if tie then s.count F.LST_COINCIDE_COUNT 1
    else if s.goodHead x then (s.clr (F.LST_STAT_DROPOUT x)).level (288 + x) false else s)

/-- The LAMPPRIO priority of a lamp (R80); 0 is never shed. -/
def State.lampPriority (s : State) (x k : Nat) : Nat := u8At (s.tillBody 0x050) (8 * x + k)

/-- SHED_EN of a string (R80). -/
def State.shedEn (s : State) (x : Nat) : Bool := bit (u8At (s.tillBody 0x050) 34) x

/-- The lamp a string would shed (R540): the lowest non-zero priority, then the lowest k. -/
def State.shedChoice (s : State) (x : Nat) : Option Nat :=
  ((List.range (s.lampCount x)).filter fun k => !bit (s.bypassed x) k && s.lampPriority x k != 0).foldl (fun c k => match c with
    | none => some k
    | some j => if s.lampPriority x k < s.lampPriority x j then some k else some j) none

/-- LST_SHED_LOG and LST_SHED for a shed or a restore. -/
def State.shedNote (s : State) (x k : Nat) (restore : Bool) : State :=
  ((((s.setOn F.LST_SHED_LOG_VALID).wrB F.LST_SHED_LOG_RESTORE restore).wr F.LST_SHED_LOG_STRING x).wr F.LST_SHED_LOG_LAMP k).countWrap
    F.LST_SHED_LOG_COUNT 1 |>.raise 292

/-- A string sheds a lamp (R540). -/
def State.shedLamp (s : State) (x k : Nat) : State :=
  let s := (s.wr (F.LST_VF_VF_SHED x k) (s.rd (F.LST_VF_VF x k))).modStr x fun t => { t with shed := t.shed ++ [k], restore := 0 }
  let s := (s.wr (F.LST_LAMP_SHED x) (orBit (s.rd (F.LST_LAMP_SHED x)) k)).wr (F.LST_STAT_NSHED x) (s.str x).shed.length
  s.shedNote x k false

/-- A string restores the last lamp of its list (R541). -/
def State.restoreLamp (s : State) (x k : Nat) : State :=
  let s := s.modStr x fun t => { t with shed := t.shed.dropLast, restore := 0 }
  let s := (s.wr (F.LST_LAMP_SHED x) (clrBit (s.rd (F.LST_LAMP_SHED x)) k)).wr (F.LST_STAT_NSHED x) (s.str x).shed.length
  s.shedNote x k true

/-- Does the last shed lamp meet R541 at this tick? -/
def State.restoreOk (s : State) (x k : Nat) : Bool :=
  match s.headroom x with
  | some h => decide (s.hr + 1000 ≤ h - s.rd (F.LST_VF_VF_SHED x k))
  | none => false

/-- One string at a shed evaluation tick (R540, R541): the condition has held at every tick over 500 ms at the 51st tick that meets it. -/
def State.shedString (s : State) (x : Nat) (tie : Bool) : State :=
  let st := s.str x
  if s.shedEn x && s.driven x && s.on (F.LST_STAT_DROPOUT x) && s.lowHead x then
    match s.shedChoice x with
    | some k => s.shedLamp x k
    | none => s.modStr x fun t => { t with restore := 0 }
  else match st.shed.getLast? with
    | none => s
    | some k =>
      if tie && st.restore == 50 then (s.count F.LST_COINCIDE_COUNT 1).modStr x fun t => { t with restore := 0 }
      else if !s.restoreOk x k then s.modStr x fun t => { t with restore := 0 }
      else if st.restore == 50 then s.restoreLamp x k
      else s.modStr x fun t => { t with restore := t.restore + 1 }

/-- SHED_TICK (R540, R541): every 10 ms. ties are the strings with a failing headroom sample on this edge (R553). -/
def execShedTick (ties : BitVec 4) (s : State) : Res :=
  .next (if !s.live domLAMPS then s else (List.range 4).foldl (fun s x => s.shedString x (ties.getLsbD x)) s)

/-- Unbypassed lamps above 7.0 V with the highest voltage (R555). -/
def State.openLamps (s : State) (x : Nat) : List Nat :=
  let c := (List.range (s.lampCount x)).filter fun k => !bit (s.bypassed x) k && decide (7000 < s.rd (F.LST_VF_VF x k))
  c.filter fun k => c.all fun j => decide (s.rd (F.LST_VF_VF x j) ≤ s.rd (F.LST_VF_VF x k))

/-- LAMP_OPEN (R555): less than half the setting for 1 ms of on-time with V_BST at BST_VMAX. The spec does not say which of two lamps of equal
voltage is open: a free choice. -/
def execLampOpen (x : Fin 4) (s : State) : Res :=
  .next (if !s.live domLAMPS || !s.driven x || decide (s.rd F.LST_BST_VBST < s.rd F.LST_BST_TGT_VMAX) then s
    else match s.openLamps x with
      | [] => (s.setOn (F.LST_STAT_NOCUR x)).raise 293
      | l =>
        let q := if l.length = 1 then (0, s) else s.freeBelow l.length
        let k := natAt l q.1
        let s := q.2.wr (F.LST_LAMP_OPEN x) (orBit (s.rd (F.LST_LAMP_OPEN x)) k)
        (s.modStr x fun t => { t with closed := orBit t.closed k }).raise 293)

/-- LAMP_SHORT (R555): a lamp has stayed below 1.0 V for 100 ms of on-time. -/
def execLampShort (x : Fin 4) (k : Fin 8) (s : State) : Res :=
  .next (if !s.live domLAMPS || !s.driven x || bit (s.bypassed x) k || decide (s.lampCount x ≤ k.val) || bit (s.rd (F.LST_LAMP_SHORT x)) k
      || decide (1000 ≤ s.rd (F.LST_VF_VF x k)) then s
    else (s.wr (F.LST_LAMP_SHORT x) (orBit (s.rd (F.LST_LAMP_SHORT x)) k)).raise 293)

/-- A write of LST_CMD (R555, R556). -/
def State.lampCmdWrite (s : State) (w : Word) : State :=
  if F.LST_CMD_KEY.of w != 0x4C then s else
  let s := (List.range 4).foldl (fun s x => if bit (F.LST_CMD_CLEAR_OPEN.of w) x then s.clr (F.LST_LAMP_OPEN x) else s) s
  (if F.LST_CMD_BST_RESTART.has w then s.clr F.LST_BST_LATCHED else s).refreshGate

/-- CLEAR_OPEN (R555). -/
def execClearOpen (who : Agent) (key : BitVec 8) (strings : BitVec 4) (s : State) : Res :=
  let w : Word := BitVec.ofNat 32 (key.toNat * 2 ^ 24 + strings.toNat)
  .next (s.access who domLAMPS Reg.LST_CMD w true fun s => s.lampCmdWrite w)

/-- BST_RESTART (R556). -/
def execBstRestart (who : Agent) (key : BitVec 8) (s : State) : Res :=
  let w : Word := BitVec.ofNat 32 (key.toNat * 2 ^ 24 + 256)
  .next (s.access who domLAMPS Reg.LST_CMD w true fun s => s.lampCmdWrite w)

/-- BOOST_OVP (R556): V_BST in mV, and the µs since the overvoltage before it. -/
def execBoostOvp (vbst : BitVec 16) (dt : Nat) (s : State) : Res :=
  .next (if !s.live domLAMPS || s.lst.ovpHold || (decide (vbst.toNat ≤ s.rd F.LST_BST_TGT_VMAX + 2000) && decide (vbst.toNat ≤ 41000)) then s
    else
      let third := s.lst.ovpSeen && (match s.lst.ovps with | g :: _ => decide (dt + g ≤ 1000000) | [] => false)
      let s := (s.wr F.LST_BST_VBST vbst.toNat).refreshHeads
      let s := s.modLst fun l => { l with ovpHold := true, ovps := if l.ovpSeen then [dt] else [], ovpSeen := true }
      let s := if third then s.setOn F.LST_BST_LATCHED else s
      ((s.setOn F.LST_BST_OVP).raise 294).refreshGate)

/-- BOOST_WEAK (R556): V_BST more than 2 V below its target for 50 ms at the current limit. -/
def execBoostWeak (s : State) : Res :=
  .next (if s.live domLAMPS && s.on F.LST_BST_GATE_ON && decide (s.rd F.LST_BST_VBST + 2000 < s.rd F.LST_BST_TGT_TARGET)
    then (s.setOn F.LST_BST_WEAK).raise 294 else s)

/-- A write of LST_SCFG_x (R542). -/
def State.scfgWrite (s : State) (x : Nat) (w : Word) : State :=
  let s := s.accWrite (Reg.LST_SCFG x) w
  if s.on (F.LST_SCFG_EN x) && s.rd (F.LST_SCFG_ISET x) != 0 then s else
  let s := s.modStr x fun t => { t with shed := [], restore := 0 }
  let s := (s.clr (F.LST_LAMP_SHED x)).clr (F.LST_STAT_NSHED x)
  (s.clr (F.LST_STAT_DROPOUT x)).level (288 + x) false

/-- A write of LST_CFG: EN acts at once, the rest at the next period boundary (Table 16-1). -/
def State.lampCfgWrite (s : State) (w : Word) : State := (s.accWrite Reg.LST_CFG w).refreshGate

/-- LAMPS has loaded its tills (R558): only the switches of lamps N to 7 are closed. -/
def State.lampStart (s : State) : State :=
  let s := ({ s with lst := {} } : State).lampPrioApply
  (List.range 4).foldl (fun s x => s.modStr x fun t => { t with closed := absentLamps (s.rd (F.LST_SCFG_NLAMP x) + 1) }) s

/-- LAMPS is switched off (R559): every bypass switch opens and nothing is driven. -/
def State.lampOff (s : State) : State := { s with lst := {} }

/-- The strings at a freeze or its release (R560): the gate turns off, and the target starts again from the measured V_BST. -/
def State.lampFreeze (s : State) : State := s.refreshGate

/-- The state with the matrix's own part changed. -/
def State.modLmx (s : State) (f : Matrix → Matrix) : State := { s with lmx := f s.lmx }

/-- Exchange two runs of registers; with copy the first takes the values of the second and the second keeps them too. -/
def State.swapRegs (s : State) (n : Nat) (a b : Nat → Nat) (copy : Bool) : State :=
  (List.range n).foldl (fun s i =>
    let x := s.word (a i)
    let y := s.word (b i)
    (s.setWord (a i) y).setWord (b i) (if copy then y else x)) s

/-- A matrix frame starts (R543, R550). -/
def State.matrixFrame (s : State) : State :=
  let cfg := s.word Reg.LMX_CFG
  let frame := s.word Reg.LMX_FRAME
  let col := s.rd F.LMX_COLOUR_LO_COLOUR + 2 ^ 32 * s.rd F.LMX_COLOUR_HI_COLOUR
  let ks := (List.range 4).map fun c => s.rd (F.LMX_K_K c)
  let s := s.modLmx fun m => { m with cfg := cfg, frame := frame, colours := col, ks := ks, next := 0, cols := [] }
  (s.clr F.LMX_STAT_SWAPPING).setOn F.LMX_STAT_SCANNING

/-- A sync of the matrix acts (R545): the swap when ARMED, and a frame, which begins with its first row slot once a swap has run. -/
def State.matrixAct (s : State) : State :=
  if !s.on F.LMX_STAT_ARMED then s.matrixFrame else
  let s := s.swapRegs 192 Reg.LMX_FRONT Reg.LMX_FB (s.on F.LMX_CFG_COPY_BACK)
  let s := (s.clr F.LMX_STAT_ARMED).wrB F.LMX_STAT_FRONT (!s.on F.LMX_STAT_FRONT)
  ((s.countWrap F.LMX_STAT_SWAPS 1).setOn F.LMX_STAT_SWAPPING).raise 286

/-- A sync reaches the matrix (R545): it acts, is held as the one queued sync, or is discarded. A matrix that is not enabled has none. -/
def State.matrixSync (s : State) : State :=
  if !s.on F.LMX_CFG_EN then s
  else if !s.on F.LMX_STAT_SWAPPING && !s.on F.LMX_STAT_SCANNING then s.matrixAct
  else if s.on F.LMX_STAT_QUEUED then s.count F.LMX_SYNC_OVR_COUNT 1
  else (s.setOn F.LMX_STAT_QUEUED).raise 287

/-- A lamp sync that reaches a frozen island waits at its input (R341, R560). -/
def State.holdSync (s : State) (idx : Nat) : State :=
  if s.kx.heldRoutes.contains (7, idx) then s
  else { s with kx := { s.kx with heldRoutes := s.kx.heldRoutes ++ [(7, idx)] } }

/-- A write of LMX_CMD: an ARM in the same word counts for its sync (R554). -/
def State.matrixCmdWrite (s : State) (w : Word) : State :=
  let s := if F.LMX_CMD_ARM.has w then s.setOn F.LMX_STAT_ARMED else s
  if F.LMX_CMD_SYNC.has w then s.matrixSync else s

/-- An external sync of the matrix: it counts only with SYNC_EXT = 1. -/
def State.matrixExt (s : State) : State :=
  if !s.domOn domLAMPM then s
  else if s.frozen domLAMPM then s.holdSync 0
  else if s.on F.LMX_CFG_SYNC_EXT then s.matrixSync else s

/-- MATRIX_SYNC (R545); two syncs of one cycle count as one (R554). -/
def execMatrixSync (sync : SyncNote) (s : State) : Res :=
  .next (match sync.src with
    | .write who => s.access who domLAMPM Reg.LMX_CMD 1 false fun s => if sync.met then s else s.matrixCmdWrite 1
    | .pin => if s.pinned .lmxSync && !sync.met then s.matrixExt else s
    | .route => if sync.met then s else s.matrixExt)

/-- MATRIX_FRAME_TIMER (R545): FRAME has elapsed. -/
def execMatrixFrameTimer (s : State) : Res :=
  .next (if s.live domLAMPM && !s.on F.LMX_CFG_SYNC_EXT then s.matrixSync else s)

/-- MATRIX_ARM (R545). -/
def execMatrixArm (who : Agent) (s : State) : Res :=
  .next (s.access who domLAMPM Reg.LMX_CMD 2 false fun s => s.matrixCmdWrite 2)

/-- Rows of the frame in force. -/
def State.matrixRows (s : State) : Nat := min 15 (F.LMX_CFG_ROWS.of s.lmx.cfg) + 1

/-- On-time of each column of a row (R543), in ticks. -/
def State.matrixCols (s : State) (r : Nat) : List Nat :=
  let w := pwmDepth (F.LMX_CFG_WEXP.of s.lmx.cfg)
  let p := 2 ^ w - 1
  (List.range (min 23 (F.LMX_CFG_COLS.of s.lmx.cfg) + 1)).map fun c =>
    let i := 24 * r + c
    let px := if i % 2 = 1 then s.rd (F.LMX_FRONT_PIX_HI (i / 2)) else s.rd (F.LMX_FRONT_PIX_LO (i / 2))
    compensate p (brightness px w) (natAt s.lmx.ks (bits s.lmx.colours (2 * c + 1) (2 * c)))

/-- MATRIX_ROW_SLOT (R543): the next row slot of the frame begins. -/
def execMatrixRowSlot (s : State) : Res :=
  .next (if !s.live domLAMPM then s else
    let s := if s.on F.LMX_STAT_SWAPPING then s.matrixFrame else s
    if !s.on F.LMX_STAT_SCANNING || decide (s.matrixRows ≤ s.lmx.next) then s else
    let r := s.lmx.next
    (s.wr F.LMX_STAT_ROW r).modLmx fun m => { m with next := r + 1, cols := s.matrixCols r })

/-- MATRIX_FRAME_END (R545): the last row slot is over, and a queued sync acts. -/
def execMatrixFrameEnd (s : State) : Res :=
  .next (if !s.live domLAMPM || !s.on F.LMX_STAT_SCANNING || decide (s.lmx.next < s.matrixRows) then s else
    let s := (s.clr F.LMX_STAT_SCANNING).modLmx fun m => { m with cols := [] }
    if s.on F.LMX_STAT_QUEUED then (s.clr F.LMX_STAT_QUEUED).matrixSync else s)

/-- LAMPM has loaded its tills, or is switched off (R558, R559). -/
def State.matrixStart (s : State) : State := { s with lmx := {} }

/-- What chain n keeps beside its registers. -/
def State.chain (s : State) (n : Nat) : Chain := s.lch.getD n {}

/-- The state with a chain changed. -/
def State.modChain (s : State) (n : Nat) (f : Chain → Chain) : State := { s with lch := s.lch.set n (f (s.lch.getD n {})) }

/-- Nodes of the frame in force; 256 nodes of 4 channels are 1,024 values, so R549's limit is never passed. -/
def State.chainNodes (s : State) (n : Nat) : Nat :=
  let c := (s.chain n).cfg
  min ((F.LCH_CFG_NODES n).of c + 1) (1024 / ((F.LCH_CFG_CH n).of c + 1))

/-- CH × BITS of the frame in force: the bits a node takes. -/
def State.chainSlot (s : State) (n : Nat) : Nat :=
  let c := (s.chain n).cfg
  ((F.LCH_CFG_CH n).of c + 1) * (if (F.LCH_CFG_BITS16 n).has c then 16 else 8)

/-- Channel values a frame sends (R547), compensated (R532). -/
def State.chainValues (s : State) (n : Nat) : List Nat :=
  let c := (s.chain n).cfg
  let ch := (F.LCH_CFG_CH n).of c + 1
  let wide := (F.LCH_CFG_BITS16 n).has c
  let p := if wide then 65535 else 255
  (List.range (s.chainNodes n * ch)).map fun i =>
    let v := if i % 2 = 1 then s.rd (F.LCH_FR_VAL_HI n (i / 2)) else s.rd (F.LCH_FR_VAL_LO n (i / 2))
    let j := i % ch
    compensate p (if wide then v else v / 256)
      (natAt (s.chain n).ks (bits ((F.LCH_FRAME_COLOURS n).of (s.chain n).frame) (2 * j + 1) (2 * j)))

/-- The echo word of a frame (R547). -/
def echoWord (frames : Nat) : Nat :=
  let f := frames % 256
  0x5A0000 + 256 * f + crc8 [0x5A, BitVec.ofNat 8 f]

/-- LCH_RT_MAX (R548). -/
def State.refreshRtMax (s : State) : State :=
  let l := (List.range 4).filterMap fun n => if (F.LCH_CFG_RET_EN n).has (s.chain n).cfg then (s.chain n).rtGood else none
  s.wr F.LCH_RT_MAX_RT (l.foldl Nat.max 0)

/-- A chain frame starts (R547, R549, R550). -/
def State.chainFrame (s : State) (n : Nat) : State :=
  let cfg := s.word (Reg.LCH_CFG n)
  let frame := s.word (Reg.LCH_FRAME n)
  let ks := (List.range 4).map fun c => s.rd (F.LCH_K_K c)
  let s := s.modChain n fun c => { c with cfg := cfg, frame := frame, ks := ks }
  let s := s.modChain n fun c => { c with sent := s.chainValues n, echo := echoWord (s.rd (F.LCH_STAT_FRAMES n)) }
  let s := if (F.LCH_CFG_RET_EN n).has cfg then s
    else ((s.wr (F.LCH_RT_RT n) 0xFFFF).wr (F.LCH_RT_PRESENT n) 0).modChain n fun c => { c with rtGood := none }
  (s.setOn (F.LCH_STAT_BUSY n)).refreshRtMax

/-- A sync reaches a chain (R549). A chain that is not enabled has none. -/
def State.chainSync (s : State) (n : Nat) : State :=
  if !s.on (F.LCH_CFG_EN n) then s
  else if s.on (F.LCH_STAT_BUSY n) then
    (if s.on (F.LCH_STAT_QUEUED n) then s.count (F.LCH_OVR_COUNT n) 1 else s.setOn (F.LCH_STAT_QUEUED n))
  else
    let s := if !s.on (F.LCH_STAT_ARMED n) then s else
      let s := s.swapRegs 512 (Reg.LCH_FR n) (Reg.LCH_BK n) (s.on (F.LCH_CFG_COPY_BACK n))
      (s.clr (F.LCH_STAT_ARMED n)).wrB (F.LCH_STAT_FRONT n) (!s.on (F.LCH_STAT_FRONT n))
    s.chainFrame n

/-- A write of LCH_CMD_n (R549, R554). -/
def State.chainCmdWrite (s : State) (n : Nat) (w : Word) : State :=
  let s := if (F.LCH_CMD_ARM n).has w then s.setOn (F.LCH_STAT_ARMED n) else s
  if (F.LCH_CMD_SYNC n).has w then s.chainSync n else s

/-- A lamp sync route reaches a chain (R549): it counts only with SYNC_EXT = 1. -/
def State.chainExt (s : State) (n : Nat) : State :=
  if !s.domOn domLAMPC then s
  else if s.frozen domLAMPC then s.holdSync (2 + n)
  else if s.on (F.LCH_CFG_SYNC_EXT n) then s.chainSync n else s

/-- CHAIN_SYNC (R549); no ball gives a chain a sync; two of one cycle count as one (R554). -/
def execChainSync (n : Fin 4) (sync : SyncNote) (s : State) : Res :=
  .next (match sync.src with
    | .write who => s.access who domLAMPC (Reg.LCH_CMD n) 1 false fun s => if sync.met then s else s.chainCmdWrite n 1
    | .pin => s
    | .route => if sync.met then s else s.chainExt n)

/-- CHAIN_FRAME_TIMER (R549): FRAME has elapsed. -/
def execChainFrameTimer (n : Fin 4) (s : State) : Res :=
  .next (if s.live domLAMPC && !s.on (F.LCH_CFG_SYNC_EXT n) then s.chainSync n else s)

/-- CHAIN_ARM (R549). -/
def execChainArm (n : Fin 4) (who : Agent) (s : State) : Res :=
  .next (s.access who domLAMPC (Reg.LCH_CMD n) 2 false fun s => s.chainCmdWrite n 2)

/-- The bits a frame sends after RESET (R547): the slots, most significant bit first, and the echo word with RET_EN = 1. -/
def State.chainBits (s : State) (n : Nat) : List Bool :=
  let msb (w v : Nat) : List Bool := (List.range w).map fun i => bit v (w - 1 - i)
  (s.chain n).sent.flatMap (msb (if (F.LCH_CFG_BITS16 n).has (s.chain n).cfg then 16 else 8))
    ++ (if (F.LCH_CFG_RET_EN n).has (s.chain n).cfg then msb 24 (s.chain n).echo else [])

/-- What a reception shows (Table 16-5): its code and PRESENT. stuck is a return line high at the frame start. A return line that has no ball, or
whose bank is absent, reads 0 (R658). -/
def State.chainJudge (s : State) (n rx last : Nat) (stuck : Bool) : Nat × Int :=
  let seen := s.pinned (.lchRet n)
  let rx := if seen then rx else 0
  let stuck := stuck && seen
  let sl := s.chainSlot n
  let present : Int := (s.chainNodes n : Int) - ((rx - 24) / sl : Nat)
  if !(F.LCH_CFG_RET_EN n).has (s.chain n).cfg then (0, 0)
  else if stuck then (5, 0)
  else if rx = 0 then (1, 0)
  else if rx < 24 || (rx - 24) % sl != 0 then (3, 0)
  else if last != (s.chain n).echo then (2, 0)
  else (if present < (s.chainNodes n : Int) then 4 else 0, present)

/-- A chain frame is over (R548, R549, R557). More nodes than the chain has leave PRESENT a free value. -/
def State.chainEnd (s : State) (n rx last rt : Nat) (stuck : Bool) : State :=
  let j := s.chainJudge n rx last stuck
  let s := s.wr (F.LCH_STAT_CODE n) j.1
  let s :=
    if (F.LCH_CFG_RET_EN n).has (s.chain n).cfg && (j.1 == 0 || j.1 == 4) then
      let q := if 0 ≤ j.2 then (j.2.toNat, s) else s.freeBelow 512
      ((q.2.wr (F.LCH_RT_PRESENT n) q.1).wr (F.LCH_RT_RT n) rt).modChain n fun c => { c with rtGood := some rt }
    else s
  let s := s.refreshRtMax.raiseIf (j.1 != 0) (299 + n)
  let s := ((s.clr (F.LCH_STAT_BUSY n)).countWrap (F.LCH_STAT_FRAMES n) 1).raise (295 + n)
  if s.on (F.LCH_STAT_QUEUED n) then (s.clr (F.LCH_STAT_QUEUED n)).chainSync n else s

/-- CHAIN_FRAME_END (R548): the frame's last bit with RET_EN = 0, otherwise the return line has been low for two bit times after a bit. rx is
the count of bits received, last their last 24, rt the round trip in 10 ns. -/
def execChainFrameEnd (n : Fin 4) (rx : Nat) (last : BitVec 24) (rt : BitVec 16) (stuck : Bool) (s : State) : Res :=
  .next (if !s.live domLAMPC || !s.on (F.LCH_STAT_BUSY n) then s else s.chainEnd n rx last.toNat rt.toNat stuck)

/-- CHAIN_RET_TIMEOUT (R548): RET_TIMEOUT has passed since the last transmitted bit. tie is a return bit sampled on that edge (R553), with
which reception goes on. -/
def execChainRetTimeout (n : Fin 4) (rx : Nat) (last : BitVec 24) (rt : BitVec 16) (stuck tie : Bool) (s : State) : Res :=
  .next (if !s.live domLAMPC || !s.on (F.LCH_STAT_BUSY n) || !(F.LCH_CFG_RET_EN n).has (s.chain n).cfg then s
    else if tie then s.count F.LCH_COINCIDE_COUNT 1
    else s.chainEnd n rx last.toNat rt.toNat stuck)

/-- LAMPC has loaded its tills, or is switched off (R558, R559). -/
def State.chainStart (s : State) : State := { s with lch := List.replicate 4 {} }

/-- The chains at a freeze's release (R560): a frame in progress is abandoned, and a queued sync acts. -/
def State.chainRelease (s : State) : State :=
  if !s.domOn domLAMPC then s else
  (List.range 4).foldl (fun s n =>
    if !s.on (F.LCH_STAT_BUSY n) then s else
    let s := s.clr (F.LCH_STAT_BUSY n)
    if s.on (F.LCH_STAT_QUEUED n) then (s.clr (F.LCH_STAT_QUEUED n)).chainSync n else s) s

end Sys2Proof.Machine
end

