-- ==== Sys2Proof/Machine/Lifecycle.lean ====
section
/-! DEFINITION. The device lifecycle (chapter 19): its store, the nonce, and the lifecycle commands. -/

namespace Sys2Proof.Machine

/-- The lifecycle in force (R626): the valid copy with the higher serial, or FIELD with every slot empty and epoch 63. -/
def State.lifecycle (s : State) : LcStore :=
  match s.lc.a, s.lc.b with
  | some x, some y => if higher y.serial x.serial then y else x
  | some x, none => x
  | none, some y => y
  | none, none => { state := 2, epoch := 63, serial := 0 }

/-- AUD_LC_STATE and LGR_STATUS.DEV_EPOCH show the lifecycle in force. -/
def State.refreshLifecycle (s : State) : State :=
  let l := s.lifecycle
  let s := (s.wr F.AUD_LC_STATE_STATE l.state).wrB F.AUD_LC_STATE_LC_BAD (s.lc.a.isNone && s.lc.b.isNone)
  let s := s.wr F.AUD_LC_STATE_SLOTS ((List.range 4).map fun i => natAt l.status i * 4 ^ i).sum
  (s.wr F.AUD_LC_STATE_EPOCH l.epoch).wr F.LGR_STATUS_DEV_EPOCH l.epoch

/-- The key of a KEY_SLOT or SIGNER when it may verify (R84, Table 19-3). -/
def State.lifecycleKey (s : State) (slot : Nat) : Option (Nat × Nat) :=
  let l := s.lifecycle
  if slot < 4 then (if natAt l.status slot = 1 ∧ l.state ≠ 3 then some (l.keys.getD slot (0, 0)) else none)
  else if slot = 0xF ∧ l.state ≠ 2 then some (jX bootRomPoint, jY bootRomPoint)
  else none

/-- Words as bytes, each least significant byte first. -/
def wordsBytes (l : List Word) : List Byte := l.flatMap fun w => leBytes 4 w.toNat

/-- The present nonce's 32 bytes. -/
def State.nonceBytes (s : State) : List Byte := wordsBytes ((List.range 8).map fun i => s.word (Reg.AUD_LC_NONCE i))

/-- The nonce is gone. -/
def State.dropNonce (s : State) : State :=
  let s := (List.range 8).foldl (fun s i => s.setWord (Reg.AUD_LC_NONCE i) 0) s
  { s with lc := { s.lc with nonce := false } }

/-- A lifecycle code is shown and DONE set (Table 19-8); a command that runs goes on. -/
def State.lcCode (s : State) (code : Nat) : State := (s.setOn F.AUD_LC_RESULT_DONE).wr F.AUD_LC_RESULT_CODE code

/-- A lifecycle command ends with a code (Table 19-8). -/
def State.lcEnd (s : State) (code : Nat) : State := (s.clr F.AUD_LC_RESULT_BUSY).lcCode code

/-- A nonce is made (R630), of free values; a failed source makes none (R636). -/
def State.makeNonce (s : State) : State :=
  if s.frozen domSEAL then s.lcCode 8
  else if !s.domOn domSEAL || s.on F.SEAL_STATUS_RNG_BAD then s.lcCode 6
  else
    let s := (List.range 8).foldl (fun s i =>
      let q := s.freeWord
      q.2.setWord (Reg.AUD_LC_NONCE i) (BitVec.ofNat 32 q.1)) s
    { s with lc := { s.lc with nonce := true } }

/-- A command block as the engine takes it: 33 words (R628). -/
structure LcBlock where
  op : Nat
  arg : Nat
  signer : Nat
  words : List Word
  deriving DecidableEq, Repr

/-- The fields of a block. -/
def lcBlock (w : List Word) : LcBlock :=
  let x := (w.getD 0 0).toNat
  ⟨bits x 7 0, bits x 15 8, bits x 23 16, (List.range 33).map fun i => w.getD i 0⟩

/-- Does a command need a signature in a state (Table 19-6)? -/
def lcSigned (op state : Nat) : Bool :=
  match op with | 1 => state != 0 | 3 => state != 0 | 6 => false | _ => true

/-- Is a command allowed in a state (R624, Table 19-6)? -/
def lcAllowed (op arg state : Nat) : Bool :=
  match op with
  | 1 => decide (state ≤ 1)
  | 2 | 4 => decide (state ≤ 2)
  | 3 => (state == 0 && (arg == 1 || arg == 2)) || (state == 1 && arg == 2) || (state == 2 && arg == 3)
  | 5 => state == 2
  | _ => true

/-- The number of active slots. -/
def activeSlots (l : LcStore) : Nat := (l.status.filter (· == 1)).length

/-- Does the signature of a block verify (R630)? -/
def State.lcSigOk (s : State) (b : LcBlock) : Bool :=
  let uid := wordsBytes ((List.range 4).map Config.uid)
  let d := sha256 (wordsBytes (b.words.take 17) ++ s.nonceBytes ++ uid)
  match s.lifecycleKey b.signer with
  | some (x, y) =>
    let g := wordsBytes (b.words.drop 17)
    ecdsaVerify x y d (ofBe (slice g 0 32)) (ofBe (slice g 32 32))
  | none => false

/-- EPOCH of the running store; 0 under the bare Ledger. -/
def State.runEpoch (s : State) : Nat :=
  match s.fl.runStore with | some st => u8At (s.storeBytes st) 0x15 | none => 0

/-- The refusal a command's checks give, 0 when they pass (R628-R631). -/
def State.lcRefusal (s : State) (b : LcBlock) : Nat :=
  let l := s.lifecycle
  let signed := lcSigned b.op l.state
  let signerOk := decide (b.signer < 4) && natAt l.status b.signer == 1
  if b.op = 0 || 6 < b.op then 0xA
  else if !lcAllowed b.op b.arg l.state then 3
  else if b.op = 2 && decide (b.arg ≤ 3) && activeSlots { l with status := l.status.set b.arg 2 } == 0 then 4
  else if (b.op = 1 && (decide (3 < b.arg) || natAt l.status b.arg != 0)) || (b.op = 2 && (decide (3 < b.arg) || b.arg == b.signer))
    || (b.op = 3 && (b.arg == 1 || b.arg == 2) && activeSlots l == 0) || (signed && !signerOk) then 2
  else if b.op = 4 && (decide (63 < b.arg) || decide (b.arg < l.epoch) || decide (s.runEpoch < b.arg)) then 5
  else if signed && !s.lc.nonce then 6
  else if signed && !s.lcSigOk b then 1
  else if b.op ≤ 4 && s.gateCode 256 != 0 then 7
  else 0

/-- The lifecycle store after a command that changes it (Table 19-6). -/
def lcEffect (l : LcStore) (b : LcBlock) : LcStore :=
  let l := { l with serial := (l.serial + 1) % 2 ^ 32 }
  let p := wordsBytes ((b.words.drop 1).take 16)
  match b.op with
  | 1 => { l with status := l.status.set b.arg 1, keys := l.keys.set b.arg (ofBe (slice p 0 32), ofBe (slice p 32 32)) }
  | 2 => { l with status := l.status.set b.arg 2 }
  | 3 => if b.arg = 3 then { l with state := 3, status := [2, 2, 2, 2] } else { l with state := b.arg }
  | _ => { l with epoch := b.arg }

/-- Submit a command block (R629-R631, R641): it is refused, takes effect at once (UNLOCK, LOCK), or begins to be written. -/
def State.lcSubmit (s : State) (w : List Word) : State :=
  let b := lcBlock w
  if s.on F.AUD_LC_RESULT_BUSY then s.dropNonce.lcCode 9
  else if s.frozen domFRAM then s.dropNonce.lcEnd 8
  else
    let code := s.lcRefusal b
    let l := s.lifecycle
    let s := s.dropNonce
    if code != 0 then s.lcEnd code
    else if b.op = 5 then (s.setOn F.AUD_LC_STATE_UNLOCKED).lcEnd 0
    else if b.op = 6 then (s.clr F.AUD_LC_STATE_UNLOCKED).lcEnd 0
    else
      let s : State := { s with lc := { s.lc with run := some (lcEffect l b) } }
      let s := s.setOn F.AUD_LC_RESULT_BUSY
      if s.domOn domSEAL && s.rd F.SEAL_STATUS_HOLDER == 0 then s.wr F.SEAL_STATUS_HOLDER 3 else s

/-- LIFECYCLE_WRITE_DONE (R626, R631): both copies have been written, A first; okA and okB say whether each read back right. A copy that did
not stops the write and is not valid. -/
def execLifecycleWriteDone (okA okB : Bool) (s : State) : Res :=
  .next (match s.lc.run with
    | none => s
    | some l =>
      if !s.live domFRAM then s else
      let a := if okA then some l else none
      let b := if !okA then s.lc.b else if okB then some l else none
      let s : State := { s with lc := { s.lc with a := a, b := b, run := none } }
      let s := s.refreshLifecycle
      let s := if s.rd F.AUD_LC_STATE_STATE = 3 then s.putKeys {} else s
      let s := if s.domOn domSEAL && s.rd F.SEAL_STATUS_HOLDER == 3 then s.wr F.SEAL_STATUS_HOLDER 0 else s
      s.lcEnd (if okA && okB then 0 else 0xB))

/-- What a power loss leaves of a lifecycle write in progress: wholly before or wholly after, which the spec leaves open (R626). Entry to SCRAP
erases the AES key store (Table 19-3). -/
def State.lcPowerLoss (s : State) : State :=
  match s.lc.run with
  | none => s
  | some l =>
    let q := s.freeBelow 2
    let lc := q.2.lc
    let t : State := { q.2 with lc := if q.1 = 1 then { lc with a := some l, b := some l, run := none } else { lc with run := none } }
    if q.1 = 1 ∧ l.state = 3 then t.putKeys {} else t

/-- A write that reaches the Audit block, which never freezes (R612, R643). -/
def State.accessAud (s : State) (who : Agent) (act : State → State) : State :=
  if who.user then s.busErr busLevel else act (s.reply .none)

/-- The words of the command block buffer. -/
def State.lcBuffer (s : State) : List Word := (List.range 33).map fun i => s.word (Reg.AUD_LC_BUF i)

/-- A write of AUD_LC_CMD (R629, R630). -/
def State.lcCmdWrite (s : State) (w : Word) : State :=
  if F.AUD_LC_CMD_KEY.of w != 0x7A then s else
  let s := if F.AUD_LC_CMD_NONCE.has w then s.makeNonce else s
  if F.AUD_LC_CMD_GO.has w then s.lcSubmit s.lcBuffer else s

/-- A command block by fields (R628). -/
def blockOf (op : Nat) (arg signer : BitVec 8) (payload sig : List Word) : List Word :=
  [BitVec.ofNat 32 (op + 256 * arg.toNat + 65536 * signer.toNat)] ++ (List.range 16).map (fun i => payload.getD i 0)
    ++ (List.range 16).map (fun i => sig.getD i 0)

/-- NONCE_LAPSE (R630): 60 s have passed since the nonce was made. -/
def execNonceLapse (s : State) : Res := .next (if s.lc.nonce then s.dropNonce else s)

end Sys2Proof.Machine
end

