-- ==== Sys2Proof/Machine/Loops.lean ====
section
/-! DEFINITION. Current-loop outputs (chapter 17): targets, the DAC, compliance, tracking and the loop faults. -/

namespace Sys2Proof.Machine

/-- What output c keeps beside its registers. -/
def State.loopCh (s : State) (c : Nat) : LoopChan := s.loops.getD c {}

/-- The state with an output changed. -/
def State.modLoop (s : State) (c : Nat) (f : LoopChan → LoopChan) : State :=
  { s with loops := s.loops.set c (f (s.loops.getD c {})) }

/-- V_SAT of output c in mV (Table 17-3). -/
def State.loopVsat (s : State) (c : Nat) : Nat := orDefault (bits (s.loopWord c 0) 31 16) 2000

/-- The low alarm as driven (Table 17-2), in µA. -/
abbrev lowAlarm : Nat := 3600

/-- What the source of output c gives: VALID, FAULT and its reading in 1/16 °C; none for a code R507 does not allow (R565). -/
def State.loopSource (s : State) (c : Nat) : Option (Bool × Bool × Int) :=
  let code := s.rd (F.LOOP_CFG_SRC c)
  if code = 0xFF then some (false, false, 2400)
  else
    let r := s.fanSource code
    let valid := if code < 0x40 then s.on (F.ADC_CH_VALID code) else !s.domOn domTWB || s.on (F.TWB_SNS_VALID (code - 0x40))
    if r.2.2.2 then none else some (valid, r.2.1, r.1)

/-- The mapped current of a temperature (R565): the current held to the measuring range, and whether the hold acts. -/
def State.loopMap (s : State) (c : Nat) (t : Int) : Nat × Bool :=
  let lo := sext 16 (s.rd (F.LOOP_MAP_T_LO c))
  let d := sext 16 (s.rd (F.LOOP_MAP_T_HI c)) - lo
  let i := 4000 + (2 * (t - lo) * 16000 + d) / (2 * d)
  ((clampInt 3800 20500 i).toNat, decide (i < 3800) || decide (20500 < i))

/-- The result of MODE 1 (R565): the current, SAT, SRC_BAD and CFG_ERR. -/
def State.loopMode1 (s : State) (c : Nat) : Nat × Bool × Bool × Bool :=
  if sext 16 (s.rd (F.LOOP_MAP_T_HI c)) ≤ sext 16 (s.rd (F.LOOP_MAP_T_LO c)) then (lowAlarm, false, true, true)
  else match s.loopSource c with
    | none => (lowAlarm, false, true, true)
    | some (valid, fault, t) =>
      if !valid then (lowAlarm, false, true, false)
      else if !fault then ((s.loopMap c t).1, (s.loopMap c t).2, false, false)
      else match s.rd (F.LOOP_CFG_SRC_FAULT c) with
        | 0 => ((s.loopMap c 2400).1, (s.loopMap c 2400).2, true, false)
        | 2 => (21000, false, true, false)
        | _ => (lowAlarm, false, true, false)

/-- The current R564 or R565 gives, with its status bits. -/
def State.loopCommand (s : State) (c : Nat) : State :=
  if s.on (F.LOOP_CFG_MODE c) then
    let r := s.loopMode1 c
    let was := s.on (F.LOOP_STAT_SRC_BAD c)
    let s := (s.wrB (F.LOOP_STAT_SAT c) r.2.1).wrB (F.LOOP_STAT_SRC_BAD c) r.2.2.1
    let s := if r.2.2.2 then s.setOn (F.LOOP_STAT_CFG_ERR c) else s
    (s.raiseIf (r.2.2.1 && !was) (308 + 3 * c)).modLoop c fun l => { l with ic := r.1 }
  else
    let w := s.rd (F.LOOP_CMD_CMD_UA c)
    let s := (s.clr (F.LOOP_STAT_SAT c)).clr (F.LOOP_STAT_SRC_BAD c)
    let s := if 22500 < w then s.setOn (F.LOOP_STAT_CLAMP c) else s
    s.modLoop c fun l => { l with ic := min w 22500 }

/-- I_T takes its value and the DAC is loaded (R563, R566, R570). -/
def State.loopDrive (s : State) (c : Nat) : State :=
  let low := s.rd (F.LOOP_STAT_STATE c) == 2 && s.on (F.LOOP_CFG_ALARM_ON_COMPLIANCE c)
  let it := if low then lowAlarm else (s.loopCh c).ic
  let code : Int := (2 * (it * s.loopRs c * 65536) + 250000000) / 500000000 + sext 16 (s.rd (F.LOOP_TRIM_TRIM c))
  let alarm := decide (it ≤ 3600) || decide (21000 ≤ it)
  let s := (s.wr (F.LOOP_TARGET_TARGET_UA c) it).wr (F.LOOP_TARGET_DAC c) (clampInt 0 65535 code).toNat
  ((s.wrB (F.LOOP_STAT_ALARM c) alarm).level (307 + 3 * c) alarm).modLoop c fun l => { l with drv := true }

/-- I in µA, as last measured. -/
def State.loopI (s : State) (c : Nat) : Nat := s.rd (F.LOOP_MEAS_I_UA c)

/-- I_T in force, in µA. -/
def State.loopT (s : State) (c : Nat) : Nat := s.rd (F.LOOP_TARGET_TARGET_UA c)

/-- LOOPV in mV, as last measured. -/
def State.loopV (s : State) (c : Nat) : Nat := s.rd (F.LOOP_MEAS_LOOPV_MV c)

/-- The latest results are taken and R_MAX computed (R567). -/
def State.loopMeasure (s : State) (c : Nat) : State :=
  let i := s.rd (F.ADC_CH_VALUE (35 + c))
  let v := s.rd (F.ADC_CH_VALUE (37 + c))
  let rmax : Int := (100 * ((v : Int) - s.loopVsat c) - 21 * s.loopRs c) / 2100
  let s := (s.wr (F.LOOP_MEAS_I_UA c) i).wr (F.LOOP_MEAS_LOOPV_MV c) v
  let s := s.wr (F.LOOP_RES_R_MAX c) rmax.toNat
  if (s.loopCh c).fresh then (s.clr (F.LOOP_STAT_MEAS_STALE c)).modLoop c fun l => { l with fresh := false } else s

/-- R_EST (R567): an estimate the field cannot hold is not stated, so it is a free value. -/
def State.loopEstimate (s : State) (c : Nat) : State :=
  let i := s.loopI c
  let low := s.on (F.LOOP_CFG_ALARM_ON_COMPLIANCE c) && s.rd (F.LOOP_STAT_STATE c) == 2
  let n : Int := 100000 * ((s.loopV c : Int) - s.loopVsat c) - i * s.loopRs c
  let e := (2 * n + 100 * i) / (200 * (i : Int))
  let q := if i < 100 then (65535, s) else if 0 ≤ e ∧ e < 65536 then (e.toNat, s) else s.freeBelow 65536
  let s := (q.2.wr (F.LOOP_RES_R_EST c) q.1).setOn (F.LOOP_STAT_EST_VALID c)
  if low then s else s.modLoop c fun l => { l with est := q.1 }

/-- An output that is not enabled releases its ball and drives nothing. -/
def State.loopOff (s : State) (c : Nat) : State :=
  let s := ((s.wr (F.LOOP_STAT_STATE c) 0).clr (F.LOOP_STAT_ALARM c)).setWord (Reg.LOOP_TARGET c) 0
  ((s.level (306 + 3 * c) false).level (307 + 3 * c) false).modLoop c fun l => { l with drv := false, sum := 0, cnt := 0 }

/-- LOOP_UPDATE (R563-R567): every 1 ms. -/
def execLoopUpdate (c : Fin 2) (s : State) : Res :=
  .next (if !s.live domLOOP then s else
    let s := s.modLoop c fun l => { l with cal := s.record (0x0110 + c), retried := false, cleared := false }
    let s := s.loopMeasure c
    if !s.on (F.LOOP_CFG_EN c) then s.loopOff c else
    let s := if s.rd (F.LOOP_STAT_STATE c) == 0 then s.wr (F.LOOP_STAT_STATE c) 1 else s
    let s := if s.rd (F.LOOP_STAT_STATE c) == 2 then s.loopEstimate c else s
    let s := (s.loopCommand c).loopDrive c
    if s.rd (F.LOOP_STAT_STATE c) == 1 && !s.on (F.LOOP_STAT_MEAS_STALE c) && !s.on (F.LOOP_STAT_OVER c) then
      s.modLoop c fun l => { l with sum := l.sum + s.loopI c, cnt := l.cnt + 1 }
    else s.modLoop c fun l => { l with sum := 0, cnt := 0, broken := true })

/-- COMPLIANCE_ENTER (R568): samples have disagreed for 10 ms. tie is an agreeing sample on that edge (R574). A RETRY since the update, in this
cycle, wins (R575). -/
def execComplianceEnter (c : Fin 2) (tie : Bool) (s : State) : Res :=
  .next (if !s.live domLOOP || s.rd (F.LOOP_STAT_STATE c) != 1 || s.on (F.LOOP_STAT_MEAS_STALE c) then s
    else if tie then s.count F.LOOP_COINCIDE_COUNT 1
    else if decide (s.loopI c + 50 < s.loopT c) && !(s.loopCh c).retried then
      let s := s.loopEstimate c
      ((s.wr (F.LOOP_STAT_STATE c) 2).level (306 + 3 * c) true).loopDrive c
    else s)

/-- COMPLIANCE ends (R569, R570): I_T returns to the current R564 or R565 gives. -/
def State.loopLeave (s : State) (c : Nat) : State :=
  ((s.wr (F.LOOP_STAT_STATE c) 1).level (306 + 3 * c) false).loopDrive c

/-- The exit test (R569, R570). -/
def State.loopExitOk (s : State) (c : Nat) : Bool :=
  if s.on (F.LOOP_CFG_ALARM_ON_COMPLIANCE c) then
    decide ((s.loopCh c).ic * (100 * (s.loopCh c).est + s.loopRs c) + 100000 * (s.loopVsat c + 500) ≤ 100000 * s.loopV c)
  else decide (s.loopI c ≤ s.loopT c + 50) && decide (s.loopT c ≤ s.loopI c + 50)

/-- COMPLIANCE_EXIT (R569, R570): the exit test has held for 100 ms. tie is a sample that fails it on that edge (R574). -/
def execComplianceExit (c : Fin 2) (tie : Bool) (s : State) : Res :=
  .next (if !s.live domLOOP || s.rd (F.LOOP_STAT_STATE c) != 2 || s.on (F.LOOP_STAT_MEAS_STALE c) then s
    else if tie then s.count F.LOOP_COINCIDE_COUNT 1
    else if s.loopExitOk c then s.loopLeave c else s)

/-- TRIM_LIM in DAC LSB (R573). -/
def State.trimLim (s : State) (c : Nat) : Nat := orDefault (s.rd (F.LOOP_CFG_TRIM_LIM c)) 64

/-- LOOP_TRIM_STEP (R571): 100 ms of regulation have passed; the mean of the samples since the last step is compared with I_T. A TRIM_CLEAR since
the update, in this cycle, wins (R575). -/
def execLoopTrimStep (c : Fin 2) (s : State) : Res :=
  .next (
    let l := s.loopCh c
    let s' := s.modLoop c fun l => { l with sum := 0, cnt := 0, broken := false }
    if !s.live domLOOP || s.rd (F.LOOP_STAT_STATE c) != 1 then s
    else if !s.on (F.LOOP_CFG_TRACK c) || s.on (F.LOOP_STAT_MEAS_STALE c) || s.on (F.LOOP_STAT_OVER c) || l.cnt == 0 || l.broken || l.cleared then s'
    else
      let goal := l.cnt * s.loopT c
      let d : Int := if l.sum + l.cnt < goal then 1 else if goal + l.cnt < l.sum then -1 else 0
      let t := sext 16 (s.rd (F.LOOP_TRIM_TRIM c)) + d
      let lim : Int := (s.trimLim c : Nat)
      let t' := clampInt (-lim) lim t
      (s'.wr (F.LOOP_TRIM_TRIM c) (wrapInt 16 t')).wrB (F.LOOP_STAT_TRIM_AT_LIM c) (t' != t))

/-- OVER_SET (R576): I above I_T + 200 µA for 10 ms. -/
def execOverSet (c : Fin 2) (s : State) : Res :=
  .next (if s.live domLOOP && s.rd (F.LOOP_STAT_STATE c) != 0 && !s.on (F.LOOP_STAT_MEAS_STALE c) && !s.on (F.LOOP_STAT_OVER c)
      && decide (s.loopT c + 200 < s.loopI c)
    then (s.setOn (F.LOOP_STAT_OVER c)).raise (308 + 3 * c) else s)

/-- OVER_CLEAR (R576): I at or below I_T + 50 µA for 100 ms. -/
def execOverClear (c : Fin 2) (s : State) : Res :=
  .next (if s.live domLOOP && s.on (F.LOOP_STAT_OVER c) && !s.on (F.LOOP_STAT_MEAS_STALE c) && decide (s.loopI c ≤ s.loopT c + 50)
    then s.clr (F.LOOP_STAT_OVER c) else s)

/-- MEAS_STALE (R576): no result of either channel has arrived for 5 ms. -/
def execMeasStale (c : Fin 2) (s : State) : Res :=
  .next (if s.live domLOOP && !s.on (F.LOOP_STAT_MEAS_STALE c) && !(s.loopCh c).fresh
    then (s.setOn (F.LOOP_STAT_MEAS_STALE c)).raise (308 + 3 * c) else s)

/-- A write of LOOP_OP_c (R570, R571). -/
def State.loopOpWrite (s : State) (c : Nat) (w : Word) : State :=
  if (F.LOOP_OP_KEY c).of w != 0x1C then s else
  let s := s.modLoop c fun l => { l with
    retried := l.retried || (F.LOOP_OP_RETRY c).has w, cleared := l.cleared || (F.LOOP_OP_TRIM_CLEAR c).has w }
  let s := if (F.LOOP_OP_TRIM_CLEAR c).has w then (s.clr (F.LOOP_TRIM_TRIM c)).clr (F.LOOP_STAT_TRIM_AT_LIM c) else s
  if (F.LOOP_OP_RETRY c).has w && s.rd (F.LOOP_STAT_STATE c) == 2 then s.loopLeave c else s

/-- RETRY (R570). -/
def execRetry (c : Fin 2) (who : Agent) (key : BitVec 8) (s : State) : Res :=
  let w : Word := BitVec.ofNat 32 (key.toNat * 2 ^ 24 + 1)
  .next (s.access who domLOOP (Reg.LOOP_OP c) w true fun s => s.loopOpWrite c w)

/-- TRIM_CLEAR (R571). -/
def execTrimClear (c : Fin 2) (who : Agent) (key : BitVec 8) (s : State) : Res :=
  let w : Word := BitVec.ofNat 32 (key.toNat * 2 ^ 24 + 2)
  .next (s.access who domLOOP (Reg.LOOP_OP c) w true fun s => s.loopOpWrite c w)

/-- A write of LOOP_CFG_c: EN = 0 releases the ball. -/
def State.loopCfgWrite (s : State) (c : Nat) (w : Word) : State :=
  let s := s.accWrite (Reg.LOOP_CFG c) w
  if s.on (F.LOOP_CFG_EN c) then s else s.loopOff c

/-- LOOP has loaded its tills, or is released by a reset, stop or being switched off (R577, R578). -/
def State.loopStart (s : State) : State := { s with loops := [{}, {}] }

end Sys2Proof.Machine
end

