-- ==== Sys2Proof/Machine/Pixels.lean ====
section
/-! DEFINITION. Pixels of the status panel: formats and colour conversion (R586, R587), blending (R588), and text characters (R589, R590). -/

namespace Sys2Proof.Machine

/-- An RGB888 colour. -/
def rgb (r g b : Nat) : Nat := 65536 * (r % 256) + 256 * (g % 256) + b % 256

/-- Pixels of a format in bytes: RGB, or luma for YCbCr. -/
def pixelBytes (fmt : Nat) : Nat := match fmt with | 0 => 2 | 1 => 3 | 2 => 4 | 3 => 4 | _ => 1

/-- Is a format YCbCr? -/
def isYcc (fmt : Nat) : Bool := fmt == 4 || fmt == 5

/-- A conversion result: 1/1,024 units rounded to the nearest and clamped. -/
def cscClamp (x : Int) : Nat := (clampInt 0 255 ((2 * x + 1024) / 2048)).toNat

/-- YCbCr to RGB (R587, Table 18-3), each coefficient the nearest multiple of 1/1,024. -/
def yccToRgb (std709 full : Bool) (y cb cr : Nat) : Nat :=
  let u : Int := (cb : Int) - 128
  let v : Int := (cr : Int) - 128
  let l : Int := if full then 1024 * (y : Int) else 1192 * ((y : Int) - 16)
  let k : Int × Int × Int × Int := match full, std709 with
    | false, false => (1634, 401, 833, 2065)
    | false, true => (1836, 218, 546, 2163)
    | true, false => (1436, 352, 731, 1815)
    | true, true => (1613, 191, 479, 1901)
  rgb (cscClamp (l + k.1 * v)) (cscClamp (l - k.2.1 * u - k.2.2.1 * v)) (cscClamp (l + k.2.2.2 * u))

/-- An RGB pixel and its alpha from its bytes (Table 18-2, R586). -/
def rgbPixel (fmt : Nat) (b : List Byte) : Nat × Nat :=
  match fmt with
  | 0 =>
    let h := u16At b 0
    let r := bits h 15 11
    let g := bits h 10 5
    let u := bits h 4 0
    (rgb (r * 8 + r / 4) (g * 4 + g / 16) (u * 8 + u / 4), 255)
  | 1 => (rgb (u8At b 2) (u8At b 1) (u8At b 0), 255)
  | 2 => (u32At b 0 % 2 ^ 24, 255)
  | _ => (u32At b 0 % 2 ^ 24, u8At b 3)

/-- One colour component of a layer over a result (R588). -/
def blend8 (a ct cb : Nat) : Nat := (a * ct + (255 - a) * cb + 127) / 255

/-- A layer over a result (R588). -/
def blend (a ct cb : Nat) : Nat :=
  rgb (blend8 a (bits ct 23 16) (bits cb 23 16)) (blend8 a (bits ct 15 8) (bits cb 15 8)) (blend8 a (bits ct 7 0) (bits cb 7 0))

/-- The driven bits of a colour on a bus (R583). -/
def busMask (bus : Nat) : Nat := match bus with | 0 => 0xF8FCF8 | 1 => 0xFCFCFC | _ => 0xFFFFFF

/-- Running CRC-32 over the three bytes of each pixel: red, green, blue (R596). -/
def crcPixels (c : Nat) (px : List Nat) : Nat :=
  px.foldl (fun c p => ([bits p 23 16, bits p 15 8, bits p 7 0].map (BitVec.ofNat 8)).foldl crc32Byte c) c

/-- The character of a hexadecimal digit, in upper case. -/
def hexChar (d : Nat) : Nat := if d < 10 then 0x30 + d else 0x37 + d

/-- n hexadecimal digits of a value, most significant first. -/
def hexChars (n v : Nat) : List Nat := ((List.range n).map fun i => hexChar (v / 16 ^ i % 16)).reverse

/-- n decimal digits of a value, zero-padded. -/
def decChars (n v : Nat) : List Nat := ((List.range n).map fun i => 0x30 + v / 10 ^ i % 10).reverse

/-- The pixel of glyph row r and column x of character c in a FONT body (R78): true when its bit is set; none for a character outside the font. -/
def glyphBit (font : List Byte) (c x r : Nat) : Option Bool :=
  let w := u32At font 0
  let stride := (bits w 7 0 + 7) / 8
  let first := bits w 23 16
  if first ≤ c ∧ c < first + bits w 31 24 + 1 then
    some (bit (u8At font (4 + ((c - first) * bits w 15 8 + r) * stride + x / 8)) (7 - x % 8))
  else none

end Sys2Proof.Machine
end

