-- ==== Sys2Proof/Machine/Panel.lean ====
section
/-! DEFINITION. The status panel (chapter 18): the raster, its planes and text, frame set and line set, pad read-back, and the xSPI port. -/

namespace Sys2Proof.Machine

/-- The state with the panel's own part changed. -/
def State.modDsp (s : State) (f : Panel → Panel) : State := { s with dsp := f s.dsp }

/-- The active copy of a frame-set or line-set field (R593). -/
def activeCopy (f : Fld) : Fld := ⟨f.reg + 0x100, f.hi, f.lo⟩

/-- A field's value in use. -/
def State.rdA (s : State) (f : Fld) : Nat := s.rd (activeCopy f)

/-- A one-bit field's value in use. -/
def State.onA (s : State) (f : Fld) : Bool := s.on (activeCopy f)

/-- Shadows become active: n registers from an offset. -/
def State.activate' (s : State) (base n : Nat) : State :=
  (List.range n).foldl (fun s i => s.setWord (base + 0x100 + 4 * i) (s.word (base + 4 * i))) s

/-- Every active copy takes its shadow's value (R698). -/
def State.panelCopies (s : State) : State := s.activate' 0x400D0020 21

/-- Halfword i of DISPTIMING (R77): HACTIVE, HFP, HSYNC, HBP, VACTIVE, VFP, VSYNC, VBP. -/
def State.timing (s : State) (i : Nat) : Nat := u16At (s.tillBody 0x048) (2 * i)

/-- HACTIVE. -/
def State.hactive (s : State) : Nat := s.timing 0
/-- VACTIVE. -/
def State.vactive (s : State) : Nat := s.timing 4
/-- VTOTAL. -/
def State.vtotal (s : State) : Nat := s.timing 4 + s.timing 5 + s.timing 6 + s.timing 7

/-- The driven bits of the bus in use (R583). -/
def State.busBits (s : State) : Nat := busMask (bits (u32At (s.tillBody 0x048) 0x14) 5 4)

/-- Bytes of the xSPI memory (R598). -/
def State.xspiSize (s : State) : Nat :=
  let n := s.rd F.DSP_XSPI_CFG_SIZE_LOG2
  2 ^ (if 20 ≤ n ∧ n ≤ 26 then n else 20)

/-- Bytes of a plane's source (R585). -/
def State.srcSize (s : State) (xspi : Bool) : Nat := if xspi then s.xspiSize else 524288

/-- n bytes of a source from an offset; beyond the source the spec states no byte, so it is a free value. -/
def State.srcBytes (s : State) (xspi : Bool) (off n : Nat) : List Byte :=
  (List.range n).map fun i =>
    let o := off + i
    if s.srcSize xspi ≤ o then BitVec.ofNat 8 (Config.freeNat (s.free + o))
    else if xspi then Config.xspiByte s.dsp.xcmds o else memGet s.mem (displayRam + o)

/-- A plane's rules (R585, R598): its format, source, size, PITCH and footprint. -/
def State.planeOk (s : State) (fmt : Nat) (xspi : Bool) (addr caddr pitch w h : Nat) : Bool :=
  let hc := if fmt = 4 then (h + 1) / 2 else h
  decide (fmt ≤ 5) && (!xspi || s.on F.DSP_XSPI_CFG_EN) && decide (w * pixelBytes fmt ≤ pitch)
    && decide (addr + (h - 1) * pitch + w * pixelBytes fmt ≤ s.srcSize xspi)
    && (!isYcc fmt || (w % 2 == 0 && decide (caddr + (hc - 1) * pitch + 2 * ((w + 1) / 2) ≤ s.srcSize xspi)))

/-- Does the active line set enable the overlay? -/
def State.lsOverlay (s : State) : Bool := s.onA F.DSP_LS_CFG_O_EN && s.onA F.DSP_LS_O_CFG_EN

/-- Is the base plane enabled in the frame set in use? -/
def State.baseEn (s : State) : Bool := s.onA F.DSP_B_CFG_EN

/-- Is the overlay enabled on some line: a size of 0 disables it? -/
def State.overEn (s : State) : Bool :=
  (s.onA F.DSP_O_CFG_EN || s.lsOverlay) && s.rdA F.DSP_O_SIZE_W != 0 && s.rdA F.DSP_O_SIZE_H != 0

/-- A plane that breaks its rules at a transfer point is disabled, with CFG_ERR (R585). -/
def State.judgePlanes (s : State) : State :=
  let b := s.planeOk (s.rdA F.DSP_B_CFG_FMT) (s.onA F.DSP_B_CFG_SRC) (16 * s.rdA F.DSP_B_ADDR_ADDR) (16 * s.rdA F.DSP_B_CADDR_ADDR)
    (16 * s.rdA F.DSP_B_PITCH_PITCH) s.hactive s.vactive
  let o := s.planeOk (s.rdA F.DSP_O_CFG_FMT) (s.onA F.DSP_O_CFG_SRC) (16 * s.rdA F.DSP_O_ADDR_ADDR) (16 * s.rdA F.DSP_O_CADDR_ADDR)
    (16 * s.rdA F.DSP_O_PITCH_PITCH) (s.rdA F.DSP_O_SIZE_W) (s.rdA F.DSP_O_SIZE_H)
  let s := s.modDsp fun d => { d with baseOk := b, overOk := o }
  if (s.baseEn && !b) || (s.overEn && !o) then s.setOn F.DSP_STATUS_CFG_ERR else s

/-- One line of a plane: its colours with pixel alpha, from its row's luma or RGB address and its chroma row's address (R586, R587). -/
def State.planeLine (s : State) (fmt : Nat) (xspi : Bool) (row crow w : Nat) : List (Nat × Nat) :=
  (List.range w).map fun x =>
    if isYcc fmt then
      let c := s.srcBytes xspi (crow + 2 * (x / 2)) 2
      (yccToRgb (s.onA F.DSP_CSC_STD709) (s.onA F.DSP_CSC_FULL) (u8At (s.srcBytes xspi (row + x) 1) 0) (u8At c 0) (u8At c 1), 255)
    else rgbPixel fmt (s.srcBytes xspi (row + x * pixelBytes fmt) (pixelBytes fmt))

/-- The chroma row of a luma row (Table 18-2). -/
def chromaRow (fmt y : Nat) : Nat := if fmt = 4 then y / 2 else y

/-- Do line y's values come from the line set (R594)? -/
def State.lineSplit (s : State) (y : Nat) : Bool := let l := s.rdA F.DSP_LINE_AT_LINE; l != 0 && decide (l ≤ y)

/-- The base plane's data for line y. -/
def State.fetchBase (s : State) (y : Nat) : List Nat :=
  if !s.baseEn || !s.dsp.baseOk then [] else
  let fmt := s.rdA F.DSP_B_CFG_FMT
  let pitch := 16 * s.rdA F.DSP_B_PITCH_PITCH
  let l := s.rdA F.DSP_LINE_AT_LINE
  let ls := s.lineSplit y && s.onA F.DSP_LS_CFG_B_EN
  let row := if ls then 16 * s.rdA F.DSP_LS_B_ADDR_ADDR + (y - l) * pitch else 16 * s.rdA F.DSP_B_ADDR_ADDR + y * pitch
  let crow := if ls then 16 * s.rdA F.DSP_LS_B_CADDR_ADDR + chromaRow fmt (y - l) * pitch
    else 16 * s.rdA F.DSP_B_CADDR_ADDR + chromaRow fmt y * pitch
  (s.planeLine fmt (s.onA F.DSP_B_CFG_SRC) row crow s.hactive).map (·.1)

/-- The overlay's enable on line y: from the line set from the split line on (R594). -/
def State.overEnAt (s : State) (y : Nat) : Bool :=
  if s.lineSplit y && s.onA F.DSP_LS_CFG_O_EN then s.onA F.DSP_LS_O_CFG_EN else s.onA F.DSP_O_CFG_EN

/-- The overlay's ALPHA on line y. -/
def State.overAlpha (s : State) (y : Nat) : Nat :=
  if s.lineSplit y && s.onA F.DSP_LS_CFG_O_EN then s.rdA F.DSP_LS_O_CFG_ALPHA else s.rdA F.DSP_O_CFG_ALPHA

/-- The overlay's data for line y, with the alpha each pixel has on it (R588, R594). -/
def State.fetchOver (s : State) (y : Nat) : List (Nat × Nat) :=
  let oy := s.rdA F.DSP_O_POS_Y
  if !s.overEnAt y || !s.dsp.overOk || y < oy || oy + s.rdA F.DSP_O_SIZE_H ≤ y then [] else
  let fmt := s.rdA F.DSP_O_CFG_FMT
  let pitch := 16 * s.rdA F.DSP_O_PITCH_PITCH
  let ls := s.lineSplit y && s.onA F.DSP_LS_CFG_O_EN
  let row := if ls then 16 * s.rdA F.DSP_LS_O_ADDR_ADDR + (y - max (s.rdA F.DSP_LINE_AT_LINE) oy) * pitch
    else 16 * s.rdA F.DSP_O_ADDR_ADDR + (y - oy) * pitch
  let crow := 16 * s.rdA F.DSP_O_CADDR_ADDR + chromaRow fmt (y - oy) * pitch
  let al := s.overAlpha y
  (s.planeLine fmt (s.onA F.DSP_O_CFG_SRC) row crow (s.rdA F.DSP_O_SIZE_W)).map fun p =>
    (p.1, if s.onA F.DSP_O_CFG_KEY_EN && p.1 == s.rdA F.DSP_O_KEY_RGB then 0
      else if fmt = 3 then (2 * al * p.2 + 255) / 510 else al)

/-- Fetch the data of line y into the line buffers (R592). -/
def State.fetchLine (s : State) (y : Nat) : State :=
  let b := if y < s.vactive then s.fetchBase y else []
  let o := if y < s.vactive then s.fetchOver y else []
  let used := s.lineSplit y && (s.onA F.DSP_LS_CFG_B_EN || s.onA F.DSP_LS_CFG_O_EN)
  let s := s.modDsp fun d => { d with base := b, ovl := o }
  if used then { s with free := s.free + 2 ^ 28 } else s

/-- The lowest bit that is set below a bound, and the highest. -/
def lowBit (w n : Nat) : Option Nat := (List.range w).find? (bit n)
/-- The highest bit that is set below a bound. -/
def highBit (w n : Nat) : Option Nat := ((List.range w).reverse).find? (bit n)

/-- The Sequencer field (R591): 'S', a two-digit step or "--", a space and a two-letter state. -/
def State.seqField (s : State) : List Nat :=
  let n : Option Nat := match lowBit 64 s.faultedMask with
    | some n => some n
    | none => match highBit 64 s.activeMask with
      | some n => some n
      | none => highBit 64 s.doneMask
  let step := match n with | some n => decChars 2 n | none => [0x2D, 0x2D]
  let has (m : Nat) := match n with | some n => bit m n | none => false
  let st := if s.on F.SEQ_STATUS_LOCKOUT then [0x4C, 0x4B] else if s.on F.SEQ_STATUS_PFAIL_HOLD then [0x50, 0x46]
    else if has s.faultedMask then [0x46, 0x54] else if has s.activeMask then [0x41, 0x43]
    else if has s.doneMask then [0x44, 0x4E] else [0x2D, 0x2D]
  [0x53] ++ step ++ [0x20] ++ st

/-- The characters of a field (Table 18-4). -/
def State.fieldChars (s : State) (source ix : Nat) : List Nat :=
  match source with
  | 1 => if !s.domOn domHOST || (s.autoteller 3).isNone then [0x2D, 0x2D]
    else hexChars 2 (bits (s.rd F.HST_POST_LAST_LANES) (8 * ix + 7) (8 * ix))
  | 2 => s.seqField
  | 3 =>
    if !s.on F.CAL_STATUS_VALID then [0x2D, 0x2D, 0x3A, 0x2D, 0x2D, 0x3A, 0x2D, 0x2D] else
    let t := secondsOf s.cal.count % 86400
    decChars 2 (t / 3600) ++ [0x3A] ++ decChars 2 (t / 60 % 60) ++ [0x3A] ++ decChars 2 (t % 60)
  | 4 => if (s.monRecs.find? fun m => m.num == ix && m.enable).isNone then List.replicate 4 0x2D
    else decChars 4 (s.rd (F.SEQ_MON_MV ix))
  | _ => hexChars 8 (match s.fl.runStore with | some 0 => s.rd F.LGR_A_SERIAL_SERIAL | some _ => s.rd F.LGR_B_SERIAL_SERIAL | none => 0)

/-- Byte at which TEXTPLANE's fields begin (R79). -/
def textFields (b : List Byte) : Nat := 16 + 4 * ((bits (u32At b 4) 7 0 * bits (u32At b 4) 15 8 + 3) / 4)

/-- Every field's value is taken at the transfer point (R590). -/
def State.takeFields (s : State) : State :=
  let b := s.tillBody 0x04A
  let f := (List.range (bits (u32At b 4) 31 24)).map fun i =>
    let o := textFields b + 8 * i
    s.fieldChars (u8At b (o + 2)) (u8At b (o + 3))
  s.modDsp fun d => { d with fields := f }

/-- The character of cell (i, j) (R589): the last field that covers it, or the static text. -/
def State.cellChar (s : State) (b : List Byte) (i j : Nat) : Nat :=
  (List.range s.dsp.fields.length).foldl (fun c k =>
    let o := textFields b + 8 * k
    let col := u8At b (o + 1)
    let f := s.dsp.fields.getD k []
    if u8At b o = i ∧ col ≤ j ∧ j < col + f.length then natAt f (j - col) else c)
    (u8At b (16 + i * bits (u32At b 4) 7 0 + j))

/-- The text layer over a colour at pixel (x, y) (R588, R589). -/
def State.textOver (s : State) (x y under : Nat) : Nat :=
  let b := s.tillBody 0x04A
  let font := s.tillBody 0x049
  let w := bits (u32At font 0) 7 0
  let h := bits (u32At font 0) 15 8
  let x0 := bits (u32At b 0) 11 0
  let y0 := bits (u32At b 0) 23 12
  if !bit (u32At b 4) 16 || s.onA F.DSP_TXT_HIDE || w = 0 || h = 0 || x < x0 || y < y0 || x0 + bits (u32At b 4) 7 0 * w ≤ x
      || y0 + bits (u32At b 4) 15 8 * h ≤ y then under
  else
    let c := s.cellChar b ((y - y0) / h) ((x - x0) / w)
    if glyphBit font c ((x - x0) % w) ((y - y0) % h) = some true then bits (u32At b 8) 23 0
    else blend (bits (u32At b 12) 31 24) (bits (u32At b 12) 23 0) under

/-- The colours line y sends (R588), with undriven bits 0 (R583). -/
def State.composeLine (s : State) (y : Nat) : List Nat :=
  let ox := s.rdA F.DSP_O_POS_X
  (List.range s.hactive).map fun x =>
    let c := s.dsp.base.getD x (s.rdA F.DSP_FILL_RGB)
    let c := if ox ≤ x then (match s.dsp.ovl[x - ox]? with | some p => blend p.2 p.1 c | none => c) else c
    (s.textOver x y c) &&& s.busBits

/-- The transfer point (R593, R603): the frame set applies, or is held while an xSPI command runs. -/
def State.transfer (s : State) : State :=
  let s :=
    if !s.on F.DSP_STATUS_FRAME_PEND then s
    else if s.on F.DSP_XSPI_STAT_BUSY && ((s.on F.DSP_B_CFG_EN && s.on F.DSP_B_CFG_SRC)
        || ((s.on F.DSP_O_CFG_EN || s.lsOverlay) && s.on F.DSP_O_CFG_SRC))
    then s.setOn F.DSP_STATUS_HELD
    else (((s.activate' 0x400D0020 16).clr F.DSP_STATUS_FRAME_PEND).clr F.DSP_STATUS_HELD).raise 314
  s.judgePlanes.takeFields

/-- Has the raster reached the transfer point and not yet line 0 (R593)? A DISPTIMING, FONT or TEXTPLANE switch belongs here. -/
def State.atTransfer (s : State) : Bool := s.on F.DSP_STATUS_RUNNING && s.dsp.last && !s.dsp.start

/-- The line apply point (R594). -/
def State.lineApply (s : State) : State :=
  if s.on F.DSP_STATUS_LINE_PEND then ((s.activate' 0x400D0060 5).clr F.DSP_STATUS_LINE_PEND).raise 314 else s

/-- What the sampler saw of the line that ends (R596). -/
def State.lineSeen (s : State) (seen : Option (List (BitVec 24))) (ctrlBad : Bool) : State :=
  let n := s.rd F.DSP_STATUS_LINE
  let sent := s.dsp.sent
  let got := match seen with | some l => (l.take sent.length).map fun p => p.toNat &&& s.busBits | none => sent
  let bad := ctrlBad || crcPixels 0xFFFFFFFF sent != crcPixels 0xFFFFFFFF got
  s.modDsp fun d =>
    { d with
      crcSent := crcPixels d.crcSent sent, crcSeen := crcPixels d.crcSeen got, badCtrl := d.badCtrl || ctrlBad,
      badLine := if bad then some (match d.badLine with | some m => min m n | none => n) else d.badLine }

/-- The verdict of a frame (R596, R597), at line VACTIVE + 1. -/
def State.verdict (s : State) : State :=
  let d := s.dsp
  let s := (s.wr F.DSP_CRC_SENT_CRC (d.crcSent ^^^ 0xFFFFFFFF)).wr F.DSP_CRC_SEEN_CRC (d.crcSeen ^^^ 0xFFFFFFFF)
  let s := match d.badLine with
    | none => s
    | some n =>
      let s := ((s.setOn F.DSP_CRC_STAT_MISMATCH).wr F.DSP_CRC_STAT_FIRST_LINE n).count F.DSP_CRC_COUNT_FRAMES 1
      (if d.badCtrl then s.setOn F.DSP_CRC_STAT_CTRL_BAD else s).raise 315
  s.modDsp fun d => { d with checked := false, badLine := none, badCtrl := false }

/-- The pixel clock's actual rate: within 0.05 % of PCLK_KHZ (R582). -/
def State.pclkActual (s : State) : State :=
  let p := u32At (s.tillBody 0x048) 0x10
  let q := s.freeBelow (2 * (p / 2000) + 1)
  q.2.wr F.DSP_PCLK_ACT_KHZ (p - p / 2000 + q.1)

/-- A plane's data is not complete at the line's first active pixel (R592). -/
def State.underrun (s : State) (base ovl : Bool) : State :=
  let base := base && !s.dsp.base.isEmpty
  let ovl := ovl && !s.dsp.ovl.isEmpty
  if !base && !ovl then s else
  let s := if base then (s.count F.DSP_UNDER_BASE 1).modDsp fun d => { d with base := [] } else s
  let s := if ovl then (s.count F.DSP_UNDER_OVERLAY 1).modDsp fun d => { d with ovl := [] } else s
  (s.raiseIf (!s.dsp.under) 316).modDsp fun d => { d with under := true }

/-- Line n begins (R595): frame counts, apply point, events, verdict, transfer point, the pixels it sends and the fetch for the next. -/
def State.lineBegin (s : State) (n : Nat) (underBase underOver : Bool) : State :=
  let va := s.vactive
  let l := s.rdA F.DSP_LINE_AT_LINE
  let s := (s.wr F.DSP_STATUS_LINE n).wrB F.DSP_STATUS_VBLANK (decide (va ≤ n))
  let check := s.on F.DSP_CTRL_CHECK_EN
  let s := if n = 0 then (s.countWrap F.DSP_FRAMES_COUNT 1).modDsp fun d =>
      { d with checked := check, crcSent := 0xFFFFFFFF, crcSeen := 0xFFFFFFFF, under := false }
    else if check then s else s.modDsp fun d => { d with checked := false }
  let s := if l ≠ 0 ∧ n + 1 = l then s.lineApply else s
  let s := (s.raiseIf (l != 0 && n == l) 313).raiseIf (n == va) 312
  let s := if n = va + 1 ∧ s.dsp.checked then s.verdict else s
  let s := s.underrun underBase underOver
  let px := if n < va then s.composeLine n else []
  let lastLine := n + 1 == s.vtotal
  let s := s.modDsp fun d => { d with sent := px, last := lastLine, start := false }
  let s := if lastLine then s.transfer else s
  s.fetchLine (if lastLine then 0 else n + 1)

/-- DISPLAY_LINE_START (R584, R592-R597): a line begins. seen and ctrlBad are what the sampler read of the line before it, none where the pads
carried what was meant; ties are commits and shadow writes that fell on this edge (R602). -/
def execDisplayLineStart (underBase underOver : Bool) (seen : Option (List (BitVec 24))) (ctrlBad : Bool) (ties : Nat) (s : State) : Res :=
  .next (if !s.live domDISP || s.vtotal == 0 then s
    else if !s.on F.DSP_CTRL_EN then
      if s.on F.DSP_STATUS_RUNNING then
        ((s.clr F.DSP_STATUS_RUNNING).clr F.DSP_STATUS_VBLANK).modDsp fun d => { d with start := true, checked := false, sent := [] }
      else s
    else
      let s := if s.on F.DSP_STATUS_RUNNING then s else (s.setOn F.DSP_STATUS_RUNNING).pclkActual
      if s.dsp.start then
        (s.modDsp fun d => { d with checked := false, badLine := none, badCtrl := false, base := [], ovl := [] }).lineBegin s.vactive false false
      else
        let s := if s.on F.DSP_CTRL_CHECK_EN then s.lineSeen seen ctrlBad else s
        let n := if s.dsp.last then 0 else s.rd F.DSP_STATUS_LINE + 1
        let l := s.rdA F.DSP_LINE_AT_LINE
        let s := if n + 1 = s.vtotal ∨ (l ≠ 0 ∧ n + 1 = l) then s.count F.DSP_COINCIDE_COUNT ties else s
        s.lineBegin n underBase underOver)

/-- A write of DSP_COMMIT (R593, R594). -/
def State.commitWrite (s : State) (w : Word) : State :=
  let s := if F.DSP_COMMIT_FRAME.has w then s.setOn F.DSP_STATUS_FRAME_PEND else s
  if F.DSP_COMMIT_LINE.has w then s.setOn F.DSP_STATUS_LINE_PEND else s

/-- FRAME_COMMIT (R593). -/
def execFrameCommit (who : Agent) (s : State) : Res :=
  .next (s.access who domDISP Reg.DSP_COMMIT 1 false fun s => s.commitWrite 1)

/-- LINE_COMMIT (R594). -/
def execLineCommit (who : Agent) (s : State) : Res :=
  .next (s.access who domDISP Reg.DSP_COMMIT 2 false fun s => s.commitWrite 2)

/-- DISPLAY_ENABLE_WRITE (R584, R608): a write of DSP_CTRL, which takes effect at the next line start. -/
def execDisplayEnableWrite (who : Agent) (w : Word) (s : State) : Res :=
  .next (s.access who domDISP Reg.DSP_CTRL w true fun s => s.accWrite Reg.DSP_CTRL w)

/-- Is an enabled plane in use on the xSPI memory? -/
def State.xspiScanned (s : State) : Bool :=
  (s.baseEn && s.onA F.DSP_B_CFG_SRC) || ((s.onA F.DSP_O_CFG_EN || s.lsOverlay) && s.onA F.DSP_O_CFG_SRC)

/-- The bytes a command sends (R598, R599): the opcode, with its extension in 8D-8D-8D, the address most significant byte first where ADDR_EN asks
for it, and the data of DIR 1. -/
def State.xspiSent (s : State) (w : Word) : List Byte :=
  let op := F.DSP_XSPI_CMD_OP.of w
  let octal := s.on F.DSP_XSPI_CFG_OCTAL
  let ext := if !octal then [] else [if s.on F.DSP_XSPI_CFG_EXT_INV then 255 - op else op]
  let a := s.rd F.DSP_XSPI_ADDR_ADDR
  let n := if octal || decide (2 ^ 24 < s.xspiSize) then 4 else 3
  let addr := if F.DSP_XSPI_CMD_ADDR_EN.has w then ((List.range n).map fun i => bits a (8 * i + 7) (8 * i)).reverse else []
  let data := if F.DSP_XSPI_CMD_DIR.of w = 1 then
      (List.range (F.DSP_XSPI_CMD_LEN.of w + 1)).map fun i => s.rd ⟨Reg.DSP_XSPI_BUF (i / 4), 8 * (i % 4) + 7, 8 * (i % 4)⟩ else []
  ((op :: ext) ++ addr ++ data).map (BitVec.ofNat 8)

/-- A write of DSP_XSPI_CMD (R599): the command is sent, or refused. -/
def State.xspiCmdWrite (s : State) (w : Word) : State :=
  if F.DSP_XSPI_CMD_KEY.of w != 0x58 || !F.DSP_XSPI_CMD_GO.has w then s
  else if s.xspiScanned || !s.on F.DSP_XSPI_CFG_EN || s.on F.DSP_XSPI_STAT_BUSY then
    (s.wr F.DSP_XSPI_STAT_CODE 1).setOn F.DSP_XSPI_STAT_DONE
  else
    let d := F.DSP_XSPI_CMD_DIR.of w
    (s.setOn F.DSP_XSPI_STAT_BUSY).modDsp fun p =>
      { p with xrun := some ⟨if d = 3 then 0 else d, F.DSP_XSPI_CMD_LEN.of w + 1, s.xspiSent w⟩, xcmds := p.xcmds + 1 }

/-- XSPI_COMMAND (R599): the word written to DSP_XSPI_CMD. -/
def execXspiCommand (who : Agent) (w : Word) (s : State) : Res :=
  .next (s.access who domDISP Reg.DSP_XSPI_CMD w true fun s => s.xspiCmdWrite w)

/-- A command ends with a code. -/
def State.xspiEnd (s : State) (code : Nat) : State :=
  (((s.clr F.DSP_XSPI_STAT_BUSY).wr F.DSP_XSPI_STAT_CODE code).setOn F.DSP_XSPI_STAT_DONE).modDsp fun p => { p with xrun := none }

/-- Bytes into DSP_XSPI_BUF: byte i in bits [8(i mod 4)+7 : 8(i mod 4)] of word i / 4 (R599). -/
def State.xspiFill (s : State) (b : List Byte) : State :=
  (List.range b.length).foldl (fun s i =>
    let f : Fld := ⟨Reg.DSP_XSPI_BUF (i / 4), 8 * (i % 4) + 7, 8 * (i % 4)⟩
    s.wr f (u8At b i)) s

/-- XSPI_COMMAND_DONE (R599): a command ends; rx are the bytes the memory gave, when it reads. -/
def execXspiCommandDone (rx : List Byte) (s : State) : Res :=
  .next (match s.dsp.xrun with
    | none => s
    | some r => if !s.live domDISP then s else
      (if r.dir = 2 then s.xspiFill ((List.range r.len).map fun i => rx.getD i 0) else s).xspiEnd 0)

/-- The word a window read gives: all ones while a command runs, with WIN_MISS (R600). While DISP is frozen its pads hold (R607) and the spec states
no word for a read: it is a free value. -/
def State.xspiWindow (s : State) (off : Nat) : State :=
  if !s.domOn domDISP then s.busErr busDomainOff
  else if !s.on F.DSP_XSPI_CFG_EN || s.xspiSize ≤ off then s.busErr busUnmapped
  else if s.frozen domDISP then let q := s.freeWord; q.2.reply (.word (BitVec.ofNat 32 q.1))
  else if s.on F.DSP_XSPI_STAT_BUSY then (s.setOn F.DSP_XSPI_STAT_WIN_MISS).reply (.word 0xFFFFFFFF)
  else s.reply (.word (BitVec.ofNat 32 (u32At (s.srcBytes true (off - off % 4) 4) 0)))

/-- XSPI_WINDOW_READ (R600): a read of the window at an offset. -/
def execXspiWindowRead (_who : Agent) (off : BitVec 26) (s : State) : Res := .next (s.xspiWindow off.toNat)

/-- XSPI_STROBE_TIMEOUT (R600): no data strobe within 1 µs, for the command that runs or for a window read by someone. -/
def execXspiStrobeTimeout (who : Option Agent) (s : State) : Res :=
  .next (if !s.live domDISP then s else match who with
    | some _ => if !s.on F.DSP_XSPI_CFG_EN || s.on F.DSP_XSPI_STAT_BUSY then s
      else ((s.setOn F.DSP_XSPI_STAT_ERR).raise 317).reply (.word 0xFFFFFFFF)
    | none => match s.dsp.xrun with
      | some r => if r.dir = 2 then s.xspiEnd 2 else s
      | none => s)

/-- DISP has loaded its tills (R605, R698). -/
def State.panelStart (s : State) : State :=
  let n := s.dsp.xcmds
  ((({ s with dsp := { xcmds := n } } : State).panelCopies).judgePlanes)

/-- The panel at a freeze's release (R607): the raster restarts at line VACTIVE and a command in progress is aborted. -/
def State.panelRelease (s : State) : State :=
  if !s.domOn domDISP then s else
  let s := s.modDsp fun d => { d with start := true, checked := false, sent := [] }
  if s.on F.DSP_XSPI_STAT_BUSY then s.xspiEnd 3 else s

end Sys2Proof.Machine
end

