-- ==== Sys2Proof/Machine/Tills.lean ====
section
/-! DEFINITION. Tills (chapter 03): loading sections from a store or the shadow (R107, R108, R122), the snapshot checks of a reconcile (R111,
R703), its end, and the divergence audit (R118-R121). -/

namespace Sys2Proof.Machine

/-- The 64 KB of the Ledger shadow. -/
def State.shadow (s : State) : List Byte := s.load shadowBase 0x10000

/-- Does a till own a section of this type (Table 02-3, R63)? -/
def tillHeld (code : Nat) : Bool := knownType code && code != 0x07F

/-- The section at directory index i of an image, as a till holds it. -/
def sectionOf (img : List Byte) (i : Nat) : SecTill :=
  let d := dirEntry img i
  let b := bodyOf img d
  ⟨i, d.typ, d.inst, b, crc32 b, tillHeld d.code⟩

/-- Every section of an image. -/
def sectionsOf (img : List Byte) : List SecTill := (List.range (min (sectionCount img) 48)).map (sectionOf img)

/-- The domain whose island owns a section. -/
def SecTill.owner (t : SecTill) : Nat := sectionDomain (t.typ % 4096) t.inst

/-- Can sections of a type be reconciled (R117, Table 03-1)? -/
def reconcilable (code : Nat) : Bool :=
  [0x010, 0x018, 0x020, 0x028, 0x030, 0x038, 0x048, 0x049, 0x04A, 0x050, 0x060, 0x070].contains code

/-- An array section's SIZE and COUNT against its form (R64). -/
def arraySize (b : List Byte) (entry limit : Nat) : Bool := decide (u16At b 0 ≤ limit) && b.length == 4 + u16At b 0 * entry

/-- Does a SIZE meet its type's form (R64, Table 02-3)? -/
def sizeOk (code : Nat) (b : List Byte) : Bool :=
  b.length != 0 && b.length % 4 == 0 &&
  match code with
  | 0x010 => let c := seqCounts b; b.length == 4 + 8 * (c.1 + c.2.1 + c.2.2)
  | 0x018 => b.length == 4
  | 0x020 => arraySize b 8 1024
  | 0x028 => b.length == 16
  | 0x030 => arraySize b 16 128
  | 0x038 => b.length == 4 + 640 * (keymapShape b).2.2.2
  | 0x048 => b.length == 32
  | 0x049 => b.length == 4 + 4 * ((fontBytes (u32At b 0) + 3) / 4)
  | 0x04A => b.length == 16 + 4 * ((u8At b 4 * u8At b 5 + 3) / 4) + 8 * u8At b 7
  | 0x050 => b.length == 36
  | 0x060 => arraySize b 8 0xFFFF
  | 0x070 =>
    (match parseRecords b.length (leWords (b.length / 4 - 1) (b.drop 4)) with
     | some rs => rs.length == u16At b 0
     | none => false)
  | _ => true

/-- The section at a directory index, as its till holds it. -/
def State.section' (s : State) (i : Nat) : Option SecTill := s.tills.find? fun t => t.index == i

/-- The body a shadow directory entry describes, as far as it lies in the shadow. -/
def shadowBody (sh : List Byte) (i : Nat) : List Byte :=
  let d := dirEntry sh i
  if d.off ≤ 0xFFFF then slice sh d.off (min d.size (0x10000 - d.off)) else []

/-- TYPE, INSTANCE, OFFSET, bounds, overlap and SIZE of R111, against the till's entry. -/
def State.layoutOk (s : State) (sh : List Byte) (t : SecTill) : Bool :=
  let n := s.tills.length
  let d := dirEntry sh t.index
  d.typ == t.typ && d.inst == t.inst && d.off % 16 == 0 && decide (0x40 + 16 * n ≤ d.off) && decide (d.off + d.size ≤ 0x10000)
    && (List.range n).all (fun j => j == t.index || !bodiesOverlap d (dirEntry sh j))
    && sizeOk (t.typ % 4096) (shadowBody sh t.index)

/-- The checks of R111 in order (R703): the code of the first that fails, 0 for none, and DETAIL's entry. The FONT and DISPTIMING that a TEXTPLANE is
checked against are those the tills hold: DESIGN CHOICE, log entry 110. -/
def State.snapshotCheck (s : State) (sh : List Byte) (t : SecTill) : Nat × Nat :=
  let b := shadowBody sh t.index
  if !s.layoutOk sh t then (3, 0xFFFF)
  else if crc32 b ≠ (dirEntry sh t.index).crc then (1, 0xFFFF)
  else match contentCheck (t.typ % 4096) t.inst (s.tillBody 0x049) (s.tillBody 0x048) b with
    | some e => (2, e)
    | none => (0, 0xFFFF)

/-- The state with one section of its tills replaced. -/
def State.putSection (s : State) (t : SecTill) : State :=
  { s with tills := s.tills.map fun x => if x.index = t.index then t else x }

/-- Set a section's TIL_DIV bit. -/
def State.setDiv (s : State) (i : Nat) : State :=
  if i < 32 then s.wr F.TIL_DIV_LO_DIV (orBit (s.rd F.TIL_DIV_LO_DIV) i)
  else s.wr F.TIL_DIV_HI_DIV (orBit (s.rd F.TIL_DIV_HI_DIV) (i - 32))

/-- One section of a domain's tills loads at its power-up (R122). -/
def State.loadSection (s : State) (sh img : List Byte) (t : SecTill) : State :=
  let fromStore := sectionOf img t.index
  let b := shadowBody sh t.index
  if reconcilable (t.typ % 4096) then
    if (s.snapshotCheck sh t).1 = 0 then s.putSection { t with body := b, crc := crc32 b }
    else (s.putSection fromStore).setDiv t.index
  else
    let s := s.putSection fromStore
    if crc32 b = fromStore.crc then s else s.setDiv t.index

/-- Load the tills of the domains in a mask at power-up (R122). -/
def State.loadTills (s : State) (mask : Nat) : State :=
  match s.fl.runStore with
  | none => s
  | some st =>
    let mine := s.tills.filter fun t => t.held && bit mask t.owner
    if mine.isEmpty then s else
    let sh := s.shadow
    let img := s.storeBytes st
    mine.foldl (fun s t => s.loadSection sh img t) s

/-- A reconcile ends with a code (R113, Table 03-2). -/
def State.reconEnd (s : State) (code entry : Nat) : State :=
  (({ s with recon := { s.recon with snapped := false, stage := [], stageCrc := 0 } } : State).clr F.TIL_STATUS_BUSY
    |>.clr F.TIL_STATUS_WAITING |>.wr F.TIL_STATUS_CODE code |>.setOn F.TIL_STATUS_DONE |>.wr F.TIL_DETAIL_ENTRY entry).raise 4

/-- The shadow writes that waited for the snapshot land, oldest first (R110). -/
def State.landStalled (s : State) : State :=
  let l := s.recon.stalled
  l.foldl (fun s p => s.putBytes p.1 (leBytes 4 p.2.toNat)) { s with recon := { s.recon with stalled := [] } }

/-- A stop entry ends a pending reconcile with ABORTED (R129). -/
def State.reconAbort (s : State) : State := if s.on F.TIL_STATUS_BUSY then (s.reconEnd 6 0xFFFF).landStalled else s

/-- The domain of the section a reconcile is about. -/
def State.reconOwner (s : State) : Nat :=
  match s.section' (s.rd F.TIL_STATUS_INDEX) with | some t => t.owner | none => 0

/-- A domain that is off ends a passed snapshot that waits for it, with code OK (R115). -/
def State.reconOff (s : State) : State :=
  if s.on F.TIL_STATUS_WAITING && !s.domOn s.reconOwner then s.reconEnd 0 0xFFFF else s

/-- A write of TIL_RECON (R109, R124). met says that core A's request comes in the same AO cycle: core B's is refused (R128). -/
def State.tilReconWrite (s : State) (who : Agent) (w : Word) (met : Bool) : State :=
  let i := F.TIL_RECON_INDEX.of w
  if F.TIL_RECON_KEY.of w ≠ 0xC3 || !F.TIL_RECON_GO.has w then s
  else if s.on F.TIL_STATUS_BUSY || (met && who.isCore .b) then s.setOn F.TIL_STATUS_REFUSED
  else
    let s := s.wr F.TIL_STATUS_INDEX i
    if s.tills.length ≤ i then s.reconEnd 3 0xFFFF
    else ({ s with recon := { s.recon with limit := F.TIL_RECON_LIMIT.of w, snapped := false } } : State).setOn F.TIL_STATUS_BUSY

/-- RECONCILE_REQUEST (R109, R128, R133). -/
def execReconcileRequest (who : Agent) (key : BitVec 8) (limit : BitVec 8) (arg : ReconArg) (s : State) : Res :=
  let w : Word := BitVec.ofNat 32 (key.toNat * 2 ^ 24 + limit.toNat * 2 ^ 16 + arg.index.toNat * 2 ^ 8 + 1)
  .next (s.access who 0 Reg.TIL_RECON w true fun s => s.tilReconWrite who w arg.met)

/-- Does the snapshot of a reconcile still have to be taken (R110)? -/
def State.snapshotDue (s : State) : Bool := s.on F.TIL_STATUS_BUSY && !s.recon.snapped

/-- Does a shadow write have to wait for the snapshot (R110): it falls in the directory entry at INDEX or the body that describes? -/
def State.shadowStalls (s : State) (off n : Nat) : Bool :=
  s.snapshotDue &&
    (let i := s.rd F.TIL_STATUS_INDEX
     let d := dirEntry s.shadow i
     let meets (o k : Nat) : Bool := decide (off < o + k) && decide (o < off + n)
     meets (0x40 + 16 * i) 16 || meets d.off d.size)

/-- The snapshot is copied and checked (R111, R112, R115, R703). -/
def State.snapshot' (s : State) : State :=
  match s.section' (s.rd F.TIL_STATUS_INDEX) with
  | none => s.reconEnd 3 0xFFFF
  | some t =>
    if !reconcilable (t.typ % 4096) then s.reconEnd 4 0xFFFF
    else if !bit s.present t.owner then s.reconEnd 7 0xFFFF
    else
      let sh := s.shadow
      let r := s.snapshotCheck sh t
      if r.1 ≠ 0 then s.reconEnd r.1 r.2
      else if !s.domOn t.owner then s.reconEnd 0 0xFFFF
      else
        let b := shadowBody sh t.index
        ({ s with recon := { s.recon with snapped := true, stage := b, stageCrc := crc32 b } } : State).setOn F.TIL_STATUS_WAITING

/-- RECONCILE_SNAPSHOT (R110-R112, R115, R703): the snapshot completes, and the writes that waited for it land. One in progress when a freeze arrives
completes (R130). -/
def execReconcileSnapshot (s : State) : Res := .next (if !s.snapshotDue then s else s.snapshot'.landStalled)

/-- Does a section differ from the CRC it is compared with (R118)? A section whose owner is off has no till to compare with. -/
def State.diverges (s : State) (sh : List Byte) (t : SecTill) : Bool :=
  (!t.held || s.domOn t.owner) &&
    crc32 (shadowBody sh t.index) !=
      (if s.recon.snapped && s.rd F.TIL_STATUS_INDEX == t.index then s.recon.stageCrc else t.crc)

/-- A section that diverged in two passes is reported (R119). -/
def State.reportDiv (s : State) (i : Nat) : State :=
  let s := s.setDiv i
  if s.recon.reported.contains i then s
  else ({ s with recon := { s.recon with reported := i :: s.recon.reported } } : State).raise 3

/-- DIVERGENCE_AUDIT (R118-R121, R130): one pass of the audit. -/
def execDivergenceAudit (s : State) : Res :=
  .next (if s.on F.AUD_STATUS_FROZEN || !s.on F.KX_STATUS_ROUTING then s else
    let sh := s.shadow
    let now := (s.tills.filter fun t => s.diverges sh t).map (·.index)
    let twice := now.filter fun i => s.recon.lastDiff.contains i
    let mask := now.foldl orBit 0
    let s := s.wr F.TIL_NOW_LO_NOW mask |>.wr F.TIL_NOW_HI_NOW (mask / 2 ^ 32)
    let s : State := { s with recon := { s.recon with lastDiff := now } }
    twice.foldl State.reportDiv s)

/-- A write of TIL_DIV_LO or TIL_DIV_HI: a section whose bit firmware clears can be reported again (R119). -/
def State.tilDivWrite (s : State) (hi : Bool) (w : Word) : State :=
  let a := if hi then Reg.TIL_DIV_HI else Reg.TIL_DIV_LO
  let base := if hi then 32 else 0
  let s : State := { s with recon := { s.recon with
    reported := s.recon.reported.filter fun i => !(decide (base ≤ i) && decide (i < base + 32) && bit w.toNat (i - base)) } }
  s.accWrite a w

/-- TIL_CRC as a read shows it (Table 03-9). -/
def State.tilCrc (s : State) : Word :=
  match s.section' (s.rd F.TIL_CRC_SEL_INDEX) with
  | some t => if t.held && !s.domOn t.owner then 0 else BitVec.ofNat 32 t.crc
  | none => 0

end Sys2Proof.Machine
end

