-- ==== Sys2Proof/Machine/Timer.lean ====
section
/-! DEFINITION. The 16 timer channels (chapter 12): prescaler, counter, wrap and preload, compare, capture and its timeout, wide reads and
writes, the snapshot, and the stop make-up of R153 and R154. A count is made when the command that reports it comes. -/

namespace Sys2Proof.Machine

/-- The state with the timers' own part changed. -/
def State.modTim (s : State) (f : Timers → Timers) : State := { s with tim := f s.tim }

/-- What a channel keeps beside its registers. -/
def State.chan (s : State) (n : Nat) : TimerChan := s.tim.chans.getD n {}

/-- The state with a channel changed. -/
def State.modChan (s : State) (n : Nat) (f : TimerChan → TimerChan) : State :=
  s.modTim fun t => { t with chans := t.chans.set n (f (t.chans.getD n {})) }

/-- What a unit keeps beside its registers. -/
def State.tunit (s : State) (n m : Nat) : TimerUnit := (s.chan n).units.getD m {}

/-- The state with a unit changed. -/
def State.modUnit (s : State) (n m : Nat) (f : TimerUnit → TimerUnit) : State :=
  s.modChan n fun c => { c with units := c.units.set m (f (c.units.getD m {})) }

/-- The 48-bit value of a LO and HI register pair; HI is 4 above LO. -/
def State.wide (s : State) (lo : Nat) : Nat := (s.word lo).toNat + 2 ^ 32 * ((s.word (lo + 4)).toNat % 2 ^ 16)

/-- Replace the 48-bit value of a pair. -/
def State.setWide (s : State) (lo v : Nat) : State :=
  (s.setWord lo (BitVec.ofNat 32 v)).setWord (lo + 4) (BitVec.ofNat 32 (v / 2 ^ 32 % 2 ^ 16))

/-- The counter. -/
def State.tcCnt (s : State) (n : Nat) : Nat := s.wide (Reg.TC_CNT_LO n)

/-- N of R424 in 1/65,536 source events. -/
def State.tcDiv (s : State) (n : Nat) : Nat :=
  if s.rd (F.TC_PRESC_INT n) = 0 then 65536 else (s.word (Reg.TC_PRESC n)).toNat

/-- W of R425. -/
def State.tcWrapBit (s : State) (n : Nat) : Nat :=
  let v := s.rd (F.TC_CTRL_WRAPBIT n)
  if 8 ≤ v ∧ v ≤ 47 then v else 47

/-- Does a channel count, from a source of its own (Table 12-2)? A pin source needs its function on a ball (R658). -/
def State.tcOwn (s : State) (n : Nat) : Bool :=
  s.on (F.TC_STAT_RUN n) && decide (s.rd (F.TC_CTRL_SRC n) ≤ 3) && (decide (s.rd (F.TC_CTRL_SRC n) ≤ 1) || s.pinned (.tcClk n))

/-- Does a channel count the wraps of the channel below it? -/
def State.tcCascade (s : State) (n : Nat) : Bool := s.on (F.TC_STAT_RUN n) && s.rd (F.TC_CTRL_SRC n) == 4 && n != 0

/-- Is a unit in capture mode with a timeout (R431)? -/
def State.tcTimed (s : State) (n m : Nat) : Bool := s.rd (F.TC_CC_CFG_MODE n m) == 2 && s.rd (F.TC_STEP_STEP n m) != 0

/-- Counts to the next wrap. -/
def State.toWrap (s : State) (n : Nat) : Nat := 2 ^ (s.tcWrapBit n + 1) - s.tcCnt n % 2 ^ (s.tcWrapBit n + 1)

/-- Counts to the match of a unit. -/
def State.toMatch (s : State) (n m : Nat) : Nat := (s.wide (Reg.TC_CC_LO n m) + 2 ^ 48 - s.tcCnt n - 1) % 2 ^ 48 + 1

/-- Counts to the capture timeout of a unit. -/
def State.toTimeout (s : State) (n m : Nat) : Nat := max 1 (s.rd (F.TC_STEP_STEP n m) - (s.tunit n m).counts)

/-- Counts to the next thing that happens in a channel. -/
def State.tcDue (s : State) (n : Nat) : Nat :=
  (List.range 4).foldl (fun d m =>
    if s.rd (F.TC_CC_CFG_MODE n m) = 1 then min d (s.toMatch n m)
    else if s.tcTimed n m then min d (s.toTimeout n m) else d) (s.toWrap n)

/-- The counter and the timeout counts move d counts on. -/
def State.tcAdvance (s : State) (n d : Nat) : State :=
  let s := s.setWide (Reg.TC_CNT_LO n) ((s.tcCnt n + d) % 2 ^ 48)
  s.modChan n fun c => { c with units := c.units.map fun u => { u with counts := u.counts + d } }

/-- TC_OUT of a unit. -/
def tcOutReg (n : Nat) : Nat := Reg.TC_OUT + 4 * (n / 8)

/-- Drive an output (R429). -/
def State.tcOut (s : State) (n m : Nat) (v : Bool) : State :=
  let i := 4 * (n % 8) + m
  s.setWord (tcOutReg n) (BitVec.ofNat 32 (setBits (s.word (tcOutReg n)).toNat i i (b2n v)))

/-- Set a flag bit of TC_STAT. -/
def State.tcStat (s : State) (n i : Nat) : State :=
  s.setWord (Reg.TC_STAT n) (BitVec.ofNat 32 (orBit (s.word (Reg.TC_STAT n)).toNat i))

/-- Clear a bit of TC_STAT. -/
def State.tcStatClr (s : State) (n i : Nat) : State :=
  s.setWord (Reg.TC_STAT n) (BitVec.ofNat 32 (clrBit (s.word (Reg.TC_STAT n)).toNat i))

/-- Pending preloads of a unit become active (R428). -/
def State.tcTransfer (s : State) (n m : Nat) : State :=
  let u := s.tunit n m
  let s := match u.cc with | some v => s.setWide (Reg.TC_CC_LO n m) v | none => s
  let s := match u.step with | some v => s.wr (F.TC_STEP_STEP n m) v | none => s
  (s.modUnit n m fun u => { u with cc := none, step := none }).tcStatClr n (17 + m)

/-- A match of a compare unit (R427). -/
def State.tcMatch (s : State) (n m : Nat) : State :=
  let s := (s.tcStat n (12 + m)).raise (156 + 4 * n + m)
  let bitNow := bit (s.word (tcOutReg n)).toNat (4 * (n % 8) + m)
  let s := match s.rd (F.TC_CC_CFG_OUT n m) with
    | 1 => s.tcOut n m true
    | 2 => s.tcOut n m false
    | 3 => s.tcOut n m (!bitNow)
    | _ => s
  if s.on (F.TC_CC_CFG_AUTO n m) && s.rd (F.TC_STEP_STEP n m) != 0 then
    s.setWide (Reg.TC_CC_LO n m) ((s.wide (Reg.TC_CC_LO n m) + s.rd (F.TC_STEP_STEP n m)) % 2 ^ 48)
  else s

/-- A capture timeout count reaches its end (R431). With a capture taken on that edge the count restarts and nothing else happens (R436). -/
def State.tcTimeout (s : State) (n m : Nat) (tied : Bool) : State :=
  let s := if tied then s.count F.TC_COINCIDE_COUNT 1 else (s.tcStat n (4 + m)).raise (156 + 4 * n + m)
  s.modUnit n m fun u => { u with counts := 0 }

/-- The units, as 4n + m, at which a capture is taken on the edge of the count being made (R436). -/
abbrev Tied := List Nat

/-- What a unit does on the count the channel has just made. -/
def State.tcUnitArrive (s : State) (tied : Tied) (n m : Nat) : State :=
  if s.rd (F.TC_CC_CFG_MODE n m) = 1 then
    (if s.wide (Reg.TC_CC_LO n m) = s.tcCnt n then s.tcMatch n m else s)
  else if s.tcTimed n m && decide (s.rd (F.TC_STEP_STEP n m) ≤ (s.tunit n m).counts) then s.tcTimeout n m (tied.contains (4 * n + m))
  else s

/-- What happens on the count a channel has just made: the wrap with its transfers, then matches and timeouts (R437); a wrap is a source
event of a cascaded channel above. -/
def State.tcArrive (tied : Tied) : Nat → Nat → State → State
  | 0, _, s => s
  | fuel + 1, n, s =>
    let wrap := s.tcCnt n % 2 ^ (s.tcWrapBit n + 1) == 0
    let s := if wrap then
      (List.range 4).foldl (fun s m => s.tcTransfer n m) ((s.tcStat n 16).raise (220 + n)) else s
    let s := (List.range 4).foldl (fun s m => s.tcUnitArrive tied n m) s
    if wrap && s.tcCascade (n + 1) && decide (n + 1 < 16) then
      let acc := (s.chan (n + 1)).rem + 65536
      if s.tcDiv (n + 1) ≤ acc then
        tcArrive tied fuel (n + 1) ((s.modChan (n + 1) fun c => { c with rem := acc - s.tcDiv (n + 1) }).tcAdvance (n + 1) 1)
      else s.modChan (n + 1) fun c => { c with rem := acc }
    else s

/-- The remainder the prescaler has when exactly d more counts have been made (R424). -/
def tcRemAfter (rem div d : Nat) : Nat := rem + 65536 * ((d * div - rem + 65535) / 65536) - d * div

/-- A channel makes its next d counts, d no further than the next thing due. -/
def State.tcLand (s : State) (n d : Nat) (tied : Tied := []) : State :=
  ((s.modChan n fun c => { c with rem := tcRemAfter c.rem (s.tcDiv n) d }).tcAdvance n d).tcArrive tied 16 n

/-- adv source events have come since the channel's last command; counts stop short of the next thing due, which has a command of its
own. -/
def State.tcRun (s : State) (n adv : Nat) : State :=
  if !s.tcOwn n then s else
  let total := (s.chan n).rem + 65536 * adv
  let k := total / s.tcDiv n
  let due := s.tcDue n
  if k < due then (s.modChan n fun c => { c with rem := total % s.tcDiv n }).tcAdvance n k
  else (s.modChan n fun c => { c with rem := tcRemAfter c.rem (s.tcDiv n) (due - 1) }).tcAdvance n (due - 1)

/-- TIMER_WRAP (R425): the channel counts on to its wrap, if nothing is due before it. -/
def execTimerWrap (n : Fin 16) (s : State) : Res :=
  .next (if s.live domTIME && s.tcOwn n && s.toWrap n == s.tcDue n then s.tcLand n (s.toWrap n) else s)

/-- COMPARE_MATCH (R427): the channel counts on to the unit's CC value, if nothing is due before it. -/
def execCompareMatch (n : Fin 16) (m : Fin 4) (s : State) : Res :=
  .next (if s.live domTIME && s.tcOwn n && s.rd (F.TC_CC_CFG_MODE n m) == 1 && s.toMatch n m == s.tcDue n
    then s.tcLand n (s.toMatch n m) else s)

/-- CAPTURE_TIMEOUT (R431): the channel counts on to the end of the unit's timeout, if nothing is due before it. -/
def execCaptureTimeout (n : Fin 16) (m : Fin 4) (s : State) : Res :=
  .next (if s.live domTIME && s.tcOwn n && s.tcTimed n m && s.toTimeout n m == s.tcDue n
    then s.tcLand n (s.toTimeout n m) else s)

/-- The output of each unit takes OUT_INIT (R429). -/
def State.tcOutInit (s : State) (n : Nat) : State :=
  (List.range 4).foldl (fun s m => s.tcOut n m (s.on (F.TC_CC_CFG_OUT_INIT n m))) s

/-- CLEAR (R426). -/
def State.tcClear (s : State) (n : Nat) : State :=
  ((s.setWide (Reg.TC_CNT_LO n) 0).modChan n fun c =>
    { rem := 0, residue := 0, units := c.units.map fun u => { u with counts := 0 } }).tcOutInit n

/-- START (R426): the make-up residue and the capture timeouts begin again (R153, R431). -/
def State.tcStart (s : State) (n : Nat) : State :=
  (s.wr (F.TC_STAT_RUN n) 1).modChan n fun c => { c with residue := 0, units := c.units.map fun u => { u with counts := 0 } }

/-- The commands of a channel that come in one cycle (R322): STOP wins over START, and a CLEAR acts as well. -/
def State.tcCommand (s : State) (n : Nat) (start stop clear : Bool) : State :=
  let s := if clear then s.tcClear n else s
  if stop then s.wr (F.TC_STAT_RUN n) 0 else if start then s.tcStart n else s

/-- A write of TC_CMD_n (R426). -/
def State.tcCmdWrite (s : State) (n : Nat) (w : Word) : State :=
  s.tcCommand n ((F.TC_CMD_START n).has w) ((F.TC_CMD_STOP n).has w) ((F.TC_CMD_CLEAR n).has w)

/-- START (R426, R322): the counts before it are made first, and a route's STOP that arrives in the same cycle wins. -/
def execStart (who : Agent) (note : StartNote) (s : State) : Res :=
  .next (s.access who domTIME (Reg.TC_CMD note.n) 1 false fun s => (s.tcRun note.n note.adv).tcCommand note.n true note.met false)

/-- STOP (R426), adv source events after the channel's last command. -/
def execStop (who : Agent) (n : Fin 16) (adv : Nat) (s : State) : Res :=
  .next (s.access who domTIME (Reg.TC_CMD n) 2 false fun s => (s.tcRun n adv).tcCmdWrite n 2)

/-- CLEAR (R426). -/
def execClear (who : Agent) (n : Fin 16) (s : State) : Res :=
  .next (s.access who domTIME (Reg.TC_CMD n) 4 false fun s => s.tcCmdWrite n 4)

/-- The LO register of a channel's counter (none) or of a unit's CC value. -/
def tcLo (n : Nat) : Option (Fin 4) → Nat
  | none => Reg.TC_CNT_LO n
  | some m => Reg.TC_CC_LO n m

/-- A HI write is held for its writer (R428). -/
def State.tcHiWrite (s : State) (who : Agent) (lo v : Nat) : State :=
  s.modTim fun t => { t with
    held := (who.coreOf, lo, v % 2 ^ 16) :: t.held.filter fun p => p.1 != who.coreOf || p.2.1 != lo }

/-- Write a counter (R426) or a CC value (R428) whole. -/
def State.tcWide (s : State) (n : Nat) (u : Option (Fin 4)) (v : Nat) : State :=
  match u with
  | none => if s.on (F.TC_STAT_RUN n) then s.setOn (F.TC_STAT_LOAD_ERR n) else s.setWide (Reg.TC_CNT_LO n) v
  | some m =>
    if s.on (F.TC_CC_CFG_PRELOAD n m) then (s.modUnit n m fun u => { u with cc := some v }).tcStat n (17 + m)
    else s.setWide (Reg.TC_CC_LO n m) v

/-- A LO write, with what the writer holds for it or the active high bits (R428). -/
def State.tcLoWrite (s : State) (who : Agent) (n : Nat) (u : Option (Fin 4)) (w : Word) : State :=
  let lo := tcLo n u
  let hi := match s.tim.held.find? fun p => p.1 == who.coreOf && p.2.1 == lo with
    | some p => p.2.2 | none => s.wide lo / 2 ^ 32
  let s := s.modTim fun t => { t with held := t.held.filter fun p => p.1 != who.coreOf || p.2.1 != lo }
  s.tcWide n u (w.toNat + 2 ^ 32 * hi)

/-- TIMER_HI_WRITE (R428). -/
def execTimerHiWrite (who : Agent) (n : Fin 16) (u : Option (Fin 4)) (w : Word) (s : State) : Res :=
  .next (s.access who domTIME (tcLo n u + 4) w false fun s => s.tcHiWrite who (tcLo n u) w.toNat)

/-- TIMER_LO_WRITE (R427, R428): the counts before the write are made first. -/
def execTimerLoWrite (who : Agent) (n : Fin 16) (u : Option (Fin 4)) (v : TimedWord) (s : State) : Res :=
  .next (s.access who domTIME (tcLo n u) v.w false fun s => (s.tcRun n v.adv).tcLoWrite who n u v.w)

/-- A write of TC_STEP (R428). -/
def State.tcStepWrite (s : State) (n m : Nat) (w : Word) : State :=
  if s.on (F.TC_CC_CFG_PRELOAD n m) then (s.modUnit n m fun u => { u with step := some w.toNat }).tcStat n (17 + m)
  else s.wr (F.TC_STEP_STEP n m) w.toNat

/-- A write of TC_CC_CFG: MODE that becomes 1 or 2 (R429, R431), and PRELOAD that is cleared (R428). -/
def State.tcCfgWrite (s : State) (n m : Nat) (w : Word) : State :=
  let was := s.rd (F.TC_CC_CFG_MODE n m)
  let s := s.accWrite (Reg.TC_CC_CFG n m) w
  let now := s.rd (F.TC_CC_CFG_MODE n m)
  let s := if now = 1 ∧ was ≠ 1 then s.tcOut n m (s.on (F.TC_CC_CFG_OUT_INIT n m)) else s
  let s := if now = 2 ∧ was ≠ 2 then s.modUnit n m fun u => { u with counts := 0, edges := 0 } else s
  if s.on (F.TC_CC_CFG_PRELOAD n m) then s
  else (s.modUnit n m fun u => { u with cc := none, step := none }).tcStatClr n (17 + m)

/-- A LO read latches the high bits for a core in WIDE_MODE 0 (R432). -/
def State.tcLoRead (s : State) (who : Agent) (n : Nat) (u : Option (Fin 4)) : Word × State :=
  let lo := tcLo n u
  let v := s.wide lo
  (BitVec.ofNat 32 v,
    match who with
    | .core c _ =>
      if s.on (F.TC_CTRL_WIDE_MODE n) then s
      else s.modTim fun t => { t with
        latch := (c, lo, v / 2 ^ 32) :: t.latch.filter fun p => p.1 != c || p.2.1 != lo }
    | .jtag => s)

/-- A HI read returns the reader's latch and releases it, or the live bits (R432). -/
def State.tcHiRead (s : State) (who : Agent) (n : Nat) (u : Option (Fin 4)) : Word × State :=
  let lo := tcLo n u
  let live : Word := BitVec.ofNat 32 (s.wide lo / 2 ^ 32)
  match who with
  | .jtag => (live, s)
  | .core c _ =>
    if s.on (F.TC_CTRL_WIDE_MODE n) then (live, s) else
    match s.tim.latch.find? fun p => p.1 == c && p.2.1 == lo with
    | some p => (BitVec.ofNat 32 p.2.2,
        s.modTim fun t => { t with latch := t.latch.filter fun p => p.1 != c || p.2.1 != lo })
    | none => (live, s)

/-- The counts up to a moment are made unless TIME is frozen (R442). -/
def State.tcCatchUp (s : State) (n adv : Nat) : State := if s.frozen domTIME then s else s.tcRun n adv

/-- TIMER_LO_READ (R432), adv source events after the channel's last command. -/
def execTimerLoRead (who : Agent) (n : Fin 16) (u : Option (Fin 4)) (adv : Nat) (s : State) : Res :=
  .next (if !s.domOn domTIME then s.busErr busDomainOff else
    let r := (s.tcCatchUp n adv).tcLoRead who n u
    r.2.reply (.word r.1))

/-- TIMER_HI_READ (R432). -/
def execTimerHiRead (who : Agent) (n : Fin 16) (u : Option (Fin 4)) (adv : Nat) (s : State) : Res :=
  .next (if !s.domOn domTIME then s.busErr busDomainOff else
    let r := (s.tcCatchUp n adv).tcHiRead who n u
    r.2.reply (.word r.1))

/-- Copy the counter into CC (R430). -/
def State.tcCapture (s : State) (n m : Nat) : State :=
  if s.rd (F.TC_CC_CFG_MODE n m) != 2 then s else
  let s := if bit (s.rd (F.TC_STAT_FLAG n)) m then s.tcStat n (8 + m) else s
  let s := (s.setWide (Reg.TC_CC_LO n m) (s.tcCnt n)).tcStat n (12 + m)
  (s.raise (156 + 4 * n + m)).modUnit n m fun u => { u with counts := 0 }

/-- The channel whose source drives a channel: itself, or the one below its cascade. -/
def State.tcBase (s : State) : Nat → Nat → Nat
  | 0, n => n
  | fuel + 1, n => if s.tcCascade n then s.tcBase fuel (n - 1) else n

/-- Does the count that is due next at its base reach a channel through its cascade? -/
def State.tcCarries (s : State) : Nat → Nat → Bool
  | 0, _ => false
  | fuel + 1, n => !s.tcCascade n ||
      (s.toWrap (n - 1) == (if s.tcCascade (n - 1) then 1 else s.tcDue (n - 1)) && decide (s.tcDiv n ≤ (s.chan n).rem + 65536)
        && s.tcCarries fuel (n - 1))

/-- Can the timeout count of a unit, as 4n + m, end on the count that is due next (R436)? -/
def State.tcEnds (s : State) (u : Nat) : Bool :=
  let n := u / 4
  let m := u % 4
  s.tcOwn (s.tcBase 16 n) && s.tcTimed n m && s.tcCarries 16 n && s.toTimeout n m == (if s.tcCascade n then 1 else s.tcDue n)

/-- adv source events have come at a channel of its own source, the last of them the edge on which captures are taken at some units: where it ends
their timeout counts, that count is made too (R436). -/
def State.tcRunTied (s : State) (n adv : Nat) (us : List Nat) : State :=
  let tied := us.filter fun u => s.tcEnds u && s.tcBase 16 (u / 4) == n
  if tied.isEmpty then s.tcRun n adv else s.tcLand n (s.tcDue n) tied

/-- CAPTURE (R430, R436): a filtered edge of TCn_INm, adv source events after the channel's last command; tie is an edge taken on the
TIME edge on which the unit's timeout ends. A route's CAPTURE comes with EVENT_ACCEPT. -/
def execCapture (n : Fin 16) (m : Fin 4) (rising : Bool) (adv : Nat) (tie : Bool) (s : State) : Res :=
  .next (
    let e := s.rd (F.TC_CC_CFG_EDGE n m)
    if !s.live domTIME || !s.pinned (.tcIn n m) || s.rd (F.TC_CC_CFG_MODE n m) != 2 || !bit e (if rising then 0 else 1)
    then s else
    if (s.tunit n m).edges < s.rd (F.TC_CC_CFG_EPSC n m) then
      (s.tcRun n adv).modUnit n m fun u => { u with edges := u.edges + 1 }
    else
      let s := if tie then s.tcRunTied (s.tcBase 16 n) adv [4 * n.val + m.val] else s.tcRun n adv
      (s.tcCapture n m).modUnit n m fun u => { u with edges := 0 })

/-- Copy all counters (R433). -/
def State.tcSnapshot (s : State) : State :=
  ((List.range 16).foldl (fun s n => s.setWide (Reg.TC_SNAP_LO n) (s.tcCnt n)) s).countWrap F.TC_SNAP_STAT_SEQ 1

/-- SNAPSHOT (R433); advs are the source events of each channel since its last command. -/
def execSnapshot (who : Agent) (advs : List Nat) (s : State) : Res :=
  .next (s.access who domTIME Reg.TC_SNAP 1 false fun s =>
    ((List.range 16).foldl (fun s n => s.tcRun n (natAt advs n)) s).tcSnapshot)

/-- TIME starts after its power-up or reset (R426, R429, R440): outputs at OUT_INIT, AUTOSTART channels start from 0. -/
def State.timeStart (s : State) : State :=
  let s := s.modTim fun t => { keep := t.keep }
  (List.range 16).foldl (fun s n =>
    let s := s.tcOutInit n
    if s.on (F.TC_CTRL_AUTOSTART n) then s.tcStart n else s) s

/-- The register addresses of the TIME block. -/
def timeRegs : List Nat := (regsOfBlock 8).flatMap RegDesc.addresses

/-- The channels are saved to the AO timer keep (Table 04-3): their registers, and beside them preloads, residues, prescaler remainders and timeout
counts. -/
def State.tcSave (s : State) : State :=
  s.modTim fun t => { t with keep := some ⟨timeRegs.map fun a => (a, s.word a), t.chans⟩ }

/-- Frequency of an internal source in Hz, 0 for a pin or none (Table 12-2). -/
def tcHz (src : Nat) : Nat := if src = 0 then 100000000 else if src = 1 then 32768 else 0

/-- f / 32,768 to 32 fractional bits (R153). -/
def tcRate (src div : Nat) : Nat := tcHz src * 65536 * 2 ^ 32 / (div * 32768)

/-- A unit after N counts were made up from counter c (R154, R441), and the byte of TC_MISSED. A unit that was passed raises its event and no more:
R154 names neither FLAG nor the OUT action, nor TOUT of a timeout (DEDUCED, log entry 73). -/
def State.tcUnitMakeup (s : State) (n m c N : Nat) : Nat × State :=
  if s.rd (F.TC_CC_CFG_MODE n m) = 1 then
    let d := (s.wide (Reg.TC_CC_LO n m) + 2 ^ 48 - c - 1) % 2 ^ 48 + 1
    if N < d then (0, s) else
    let s := s.raise (156 + 4 * n + m)
    let step := s.rd (F.TC_STEP_STEP n m)
    if s.on (F.TC_CC_CFG_AUTO n m) && step != 0 then
      let k := (N - d) / step + 1
      (min 255 k, s.setWide (Reg.TC_CC_LO n m) ((s.wide (Reg.TC_CC_LO n m) + k * step) % 2 ^ 48))
    else s.freeBelow 256
  else if s.tcTimed n m then
    let left := s.toTimeout n m
    if left ≤ N then (0, (s.raise (156 + 4 * n + m)).modUnit n m fun u => { u with counts := 0 })
    else (0, s.modUnit n m fun u => { u with counts := u.counts + N })
  else (0, s)

/-- The four units after a make-up, with TC_MISSED. -/
def State.tcUnitsMakeup (s : State) (n c N : Nat) : State :=
  let r := (List.range 4).foldl (fun (p : Nat × State) m =>
    let q := p.2.tcUnitMakeup n m c N
    (p.1 + 256 ^ m * q.1, q.2)) (0, s)
  r.2.setWord (Reg.TC_MISSED n) (BitVec.ofNat 32 r.1)

/-- Make up one channel for E XT32 ticks and the wraps of the channel below (R153, R441), and its own wraps. -/
def State.tcMakeup (s : State) (n E below : Nat) : Nat × State :=
  let src := s.rd (F.TC_CTRL_SRC n)
  let c := s.tcCnt n
  if s.tcCascade n then
    let total := (s.chan n).rem + 65536 * below
    let N := total / s.tcDiv n
    let s := (s.modChan n fun x => { x with rem := total % s.tcDiv n }).setWide (Reg.TC_CNT_LO n) ((c + N) % 2 ^ 48)
    ((c % 2 ^ (s.tcWrapBit n + 1) + N) / 2 ^ (s.tcWrapBit n + 1), s.tcUnitsMakeup n c N)
  else if s.tcOwn n && decide (src ≤ 1) then
    let total := E * tcRate src (s.tcDiv n) + (s.chan n).residue
    let N := total / 2 ^ 32
    let s := (s.modChan n fun x => { x with residue := total % 2 ^ 32 }).setWide (Reg.TC_CNT_LO n) ((c + N) % 2 ^ 48)
    ((c % 2 ^ (s.tcWrapBit n + 1) + N) / 2 ^ (s.tcWrapBit n + 1), s.tcUnitsMakeup n c N)
  else (0, s.setWord (Reg.TC_MISSED n) 0)

/-- Restore the channels from the timer keep and make up E XT32 ticks (Table 04-7 step 4). -/
def State.tcRestore (s : State) (E : Nat) : State :=
  match s.tim.keep with
  | none => s
  | some k =>
    let s := (k.words.foldl (fun s p => s.setWord p.1 p.2) s).modTim fun t => { t with chans := k.chans }
    let r := (List.range 16).foldl (fun (p : Nat × State) n => p.2.tcMakeup n E p.1) (0, s)
    r.2.modTim fun t => { t with keep := none }

end Sys2Proof.Machine
end

