-- ==== Sys2Proof/Machine/Islands.lean ====
section
/-! DEFINITION. What an island loses when its domain is switched off and how it starts when its domain comes on: registers at their Reset
values, tills loaded, memories initialised (R20, R122, R139, R140, Table 01-7). -/

namespace Sys2Proof.Machine

/-- The register block of a domain outside AO (Table 09-2); the cores and SRAM have none. -/
def domainBlock (d : Nat) : Option Nat :=
  match d with
  | 1 => some 1 | 2 => some 2 | 3 => some 3 | 10 => some 14 | 11 => some 4 | 12 => some 5 | 13 => some 6 | 17 => some 7
  | 18 => some 8 | 19 => some 9 | 20 => some 10 | 21 => some 11 | 22 => some 12 | 23 => some 13 | _ => none

/-- Every reset kind whose column a loss of power answers to (R20): only the fields of R697, which no reset but POR clears, stay. -/
abbrev powerOff : Nat := 30

/-- A domain's registers after resets of the kinds in a mask (R9, R50); powerOff stands for a domain that was without power (R20). -/
def State.coldRegs (s : State) (k d : Nat) : State := match domainBlock d with | some b => s.resetBlock b k | none => s

/-- A memory at zero with valid ECC (R139). -/
def State.zeroMem (s : State) (a n : Nat) : State := ({ s with mem := memClear s.mem a n } : State).cleanEcc a n

/-- Teller RAM as TLRINIT gives it; what TLRINIT does not cover is 0 (R75). -/
def State.loadTellerRam (s : State) : State := (s.zeroMem tellerRam 0x4000).store tellerRam (s.tillBody 0x031)

/-- The memory of a domain starts at zero, Teller RAM from TLRINIT (R139). -/
def State.startMemory (s : State) (d : Nat) : State :=
  if 6 ≤ d ∧ d ≤ 9 then s.zeroMem (sramBase + 0x10000 * (d - 6)) 0x10000
  else if d = 11 then s.loadTellerRam
  else if d = 23 then s.zeroMem displayRam 0x80000
  else s

/-- An island's own start with its registers and tills in place. fresh says that AREF starts in the same step, which starts its slices too. -/
def State.startIsland (s : State) (fresh : Bool) (d : Nat) : State :=
  match d with
  | 1 => s.selectBank.updateGate
  | 2 => s.sealStart
  | 3 => s.fanStart
  | 10 => s.flashStart
  | 11 => s.hostClear.hostStart
  | 12 => s.kbdStart
  | 13 => s.twbStart
  | 14 => if fresh then s else s.slcStart 0
  | 15 => if fresh then s else s.slcStart 1
  | 16 => if fresh then s else s.slcStart 2
  | 17 => s.adcStart
  | 18 => s.timeStart
  | 19 => s.matrixStart
  | 20 => s.lampStart
  | 21 => s.chainStart
  | 22 => s.loopStart
  | 23 => s.panelStart
  | _ => s

/-- The domains of a mask. -/
def domainsOf (mask : Nat) : List Nat := (List.range 24).filter (bit mask)

/-- The domains of a mask come on: registers, memories and PWR_STATUS, then each island starts. Their tills are loaded already. The registers have
their Reset values since the power went (R20); what a Cleared by column keeps over the reset that took it stays (VLT_COINCIDE, R9). -/
def State.startDomains (s : State) (mask : Nat) : State :=
  let ds := domainsOf mask
  let s := ds.foldl (fun s d => (s.coldRegs 26 d).startMemory d) s
  let s := s.wr F.PWR_STATUS_ON (s.rd F.PWR_STATUS_ON ||| mask)
  let s := if bit mask domFAN then s.setOn F.AO_PAD_STAT_FN_OK else s
  ds.foldl (fun s d => s.startIsland (bit mask domAREF) d) s

/-- What an island loses with its power beside its registers. -/
def State.stopIsland (s : State) (d : Nat) : State :=
  match d with
  | 1 => { s with vlt := { s.vlt with mirror := [], mirrorBad := [], draft := [], commit := none } }
  | 2 => { s with sealEng := {} }
  | 3 => s.fanUnload
  | 4 => s.coreOff .a
  | 5 => s.coreOff .b
  | 10 => s.flashAbandon.flashStart
  | 11 => s.hostClear.twReleaseAll
  | 12 => s.modKbd fun k => { maskSense := k.maskSense }
  | 13 => s.twbStop
  | 14 => s.slcOff 0
  | 15 => s.slcOff 1
  | 16 => s.slcOff 2
  | 17 => { s with adc := {} }
  | 18 => s.modTim fun t => { keep := t.keep }
  | 19 => s.matrixStart
  | 20 => s.lampOff
  | 21 => s.chainStart
  | 22 => s.loopStart
  | 23 => { s with dsp := { xcmds := s.dsp.xcmds } }
  | _ => s

/-- Events an island raised that the Clearing house has not accepted are lost, and its level sources are inactive (R140, R318). -/
def State.dropEvents (s : State) (mask : Nat) : State :=
  { s with kx := { s.kx with
    pulses := s.kx.pulses.filter fun e => !bit mask (sourceDomain e)
    levels := s.kx.levels.filter fun e => !bit mask (sourceDomain e) } }

/-- The domains of a mask go off, at a reset of the kinds k or without one (powerOff, R140). A reconcile that waits for one of them ends (R115). -/
def State.stopDomains (s : State) (k mask : Nat) : State :=
  let ds := domainsOf mask
  let s := ds.foldl (fun s d => (s.stopIsland d).coldRegs k d) s
  let s := s.wr F.PWR_STATUS_ON (s.rd F.PWR_STATUS_ON - (s.rd F.PWR_STATUS_ON &&& mask))
  (s.dropEvents mask).reconOff

/-- Those domains of a mask that come up, and those whose power-good does not arrive: a domain is powered only where its prerequisites are on or come
up with it (R134, R172). bad is laid out as BusNote has it. -/
def State.comesUp (s : State) (mask bad : Nat) : Nat × Nat :=
  let ok (d : Nat) : Bool := (domainNeeds d).all fun n => s.domOn n || (bit mask n && !bit bad n)
  let m := ((List.range 24).filter fun d => bit mask d && ok d).foldl (fun k d => orBit k d) 0
  (m - (m &&& bad), m &&& bad)

/-- Power-goods that arrive on the edge of the 200 µs limit are taken and counted (R166). -/
def State.countTies (s : State) (up bad : Nat) : State := s.count F.PWR_COINCIDE_COUNT (popCount 24 (up &&& (bad / 2 ^ 24)))

/-- A domain is switched on in run or on wake: its tills load first (R20, R122). -/
def State.powerUp (s : State) (mask : Nat) : State := (s.loadTills mask).startDomains mask

end Sys2Proof.Machine
end

