-- ==== Sys2Proof/Machine/Show.lean ====
section
/-! DEFINITION. What a register shows to a read that changes nothing: its word, or for the few that follow other state the value they follow. -/

namespace Sys2Proof.Machine

/-- The word at LGR_WR_ADDR in the open store; 0 while the window is closed (R88, Table 02-14). -/
def State.windowWord (s : State) : Word :=
  if s.on F.LGR_STATUS_WR_OPEN then
    BitVec.ofNat 32 (memWord s.mem (storeBase (s.rd F.LGR_STATUS_WR_STORE) + 4 * s.rd F.LGR_WR_ADDR_WORD))
  else 0

/-- A register of an island block as a read shows it, with no side effect. -/
def State.peek (s : State) (a : Nat) : Word :=
  if a = Reg.SEQ_COND_FIX then BitVec.ofNat 32 s.fixedConds
  else if a = Reg.SEQ_COND 0 then BitVec.ofNat 32 (s.routedWord 0)
  else if a = Reg.SEQ_COND 1 then BitVec.ofNat 32 (s.routedWord 1)
  else if a = Reg.SEQ_COND 2 then BitVec.ofNat 32 (s.routedWord 2)
  else if a = Reg.SEQ_COND 3 then BitVec.ofNat 32 (s.routedWord 3)
  else if a = Reg.CAL_NOW_LO then BitVec.ofNat 32 s.cal.count
  else if a = Reg.CAL_NOW_HI then BitVec.ofNat 32 (s.cal.count / 2 ^ 32)
  else if a = Reg.TIL_CRC then s.tilCrc
  else if a = Reg.LGR_WR_DATA then s.windowWord
  else if a = Reg.VLT_FOUND then s.vltFound
  else if a = Reg.HST_KBC_STAT then F.HST_KBC_STAT_STATUS.set (s.word a) s.kbcStatus
  else if a = Reg.KBD_FIFO then s.kbd.fifo.headD 0
  else if Reg.ADC_SLICE 0 ≤ a ∧ a ≤ Reg.ADC_SLICE 2 then (if s.domOn (14 + (a - Reg.ADC_SLICE 0) / 4) then s.word a else 0)
  else if Reg.ADC_CORR 0 ≤ a ∧ a ≤ Reg.ADC_CORR 2 then (if s.domOn (14 + (a - Reg.ADC_CORR 0) / 4) then s.word a else 0)
  else if Reg.AUD_UID 0 ≤ a ∧ a ≤ Reg.AUD_UID 3 then Config.uid ((a - Reg.AUD_UID 0) / 4)
  else if Reg.SEAL_KEY 0 ≤ a ∧ a ≤ Reg.SEAL_KEY 7 then 0
  else match (List.range 6).find? (fun p => Reg.TWB_ARA p == a) with
    | some p => s.araWord p
    | none => s.word a

/-- The pending bits of a core's vectors from v on, 32 of them. -/
def State.pendWord (s : State) (c : Core) (v : Nat) : Word :=
  BitVec.ofNat 32 ((List.range 32).foldl (fun m i => if s.vectorPending c (v + i) then orBit m i else m) 0)

/-- EVT_TOP (Table 07-17). -/
def State.evtTop (s : State) (c : Core) : Word :=
  match s.topVector c with
  | some (v, l) => BitVec.ofNat 32 (2 ^ 31 + 2 ^ 8 * l + v)
  | none => 0

/-- A register of a core's private block as a read shows it (R314). -/
def State.evtPeek (s : State) (c : Core) (a : Nat) : Word :=
  if a = Reg.EVT_PEND_LO then s.pendWord c 0
  else if a = Reg.EVT_PEND_HI then s.pendWord c 32
  else if a = Reg.EVT_TOP then s.evtTop c
  else s.word (a + evtBase c)

end Sys2Proof.Machine
end

