-- ==== Sys2Proof/Machine/Freeze.lean ====
section
/-! DEFINITION. The Audit freeze (chapter 19): requests, the freeze instant with its snapshot, and how a freeze takes hold (R609-R616); and the
end of a stop request, which a freeze can bring about (R143, R146, R168). -/

namespace Sys2Proof.Machine

/-- A core's PWR_STOP write is acknowledged: its Strand access ends (R143). -/
def State.ackStop (s : State) (c : Core) : State :=
  s.modCore c fun u => if u.strand = .stopping then { u with strand := .finished } else u

/-- A stop request ends without stop being reached, with a code of Table 04-5; the requesting writes complete (R143, R146). -/
def State.stopEnd (s : State) (code : Nat) : State :=
  ((({ s with pwr := { s.pwr with reqA := none, reqB := none, phase := .run, wakeLevel := 0 } } : State).wr
    F.PWR_STOP_STAT_CODE code).ackStop .a).ackStop .b |>.updateGate

/-- The islands an EXEMPT mask keeps running, as their register blocks (R614). -/
def snapBlocks (e : Nat) : List Nat :=
  (if bit e 0 then [0, 15, 16, 18, 19] else []) ++ (if bit e 1 then [3] else []) ++ (if bit e 2 then [4] else [])
    ++ (if bit e 3 then [5] else [])

/-- Is an address in the island register blocks, and which block (R6)? -/
def regBlock (a : Nat) : Option Nat := if 0x40000000 ≤ a ∧ a < 0x40140000 then some ((a - 0x40000000) / 0x10000) else none

/-- The addresses the registers of a block stand at. -/
def blockAddrs (b : Nat) : List Nat := (regsOfBlock b).flatMap RegDesc.addresses

/-- The snapshot of the blocks of exempt islands: every register as it reads (R614). -/
def State.snapshot (s : State) (e : Nat) : RegFile :=
  ((snapBlocks e).flatMap blockAddrs).foldl (fun m a => rfSet m a (s.peek a)) []

/-- The freeze instant (R609, R614, Table 19-7): the cause, the exemptions in force, the snapshot, AUD_FROZEN, and the counts of R443. -/
def State.freezeStart (s : State) (cause : Nat) : State :=
  let e := s.rd F.AUD_CFG_EXEMPT
  let m := s.snapshot e
  let s := s.wr F.AUD_STATUS_EXEMPT e |>.wr F.AUD_STATUS_LAST_CAUSE cause
  (({ s with aud := { s.aud with applying := true, held := none, snap := m, snapOf := e } } : State).level 8 true).calFreeze

/-- Is a freeze in force or being applied? -/
def State.freezing (s : State) : Bool := s.aud.applying || s.on F.AUD_STATUS_FROZEN

/-- A request is held (R41, R168, R640). -/
def State.freezeHold (s : State) (cause : Nat) : State :=
  if s.aud.held.isSome then s else { s with aud := { s.aud with held := some cause } }

/-- A freeze request (R609, R610): counted while a freeze is in force, held before t_READY (R41) or during a release (R640). In stop it wakes the
device; before the end of step 3 of stop entry it abandons the entry and is applied (R168). -/
def State.freezeRequest (s : State) (cause : Nat) : State :=
  if !s.fl.vinValid then s
  else if s.freezing then
    (if s.aud.releasing.isSome then s.freezeHold cause else s.count F.AUD_EXTRA_COUNT 1)
  else if s.pwr.phase = .stopped then (s.freezeHold cause).wakeSource 16
  else if !s.ready then s.freezeHold cause
  else
    let s := if s.pwr.phase = .accepted || s.pwr.reqA.isSome || s.pwr.reqB.isSome then s.stopEnd 1 else s
    s.freezeStart cause

/-- Every island that is not exempt has stopped (R611): a core whose bundle in issue has not ended has not (R286). -/
def State.allStopped (s : State) : Bool := s.coreA.strand == .none && s.coreB.strand == .none

/-- A capacitance measurement in progress when the freeze reaches AO is abandoned and repeated later (R243). -/
def State.rsvFreeze (s : State) : State :=
  if bit (s.rd F.AUD_STATUS_EXEMPT) 0 || !s.on F.RSV_STATUS_MEASURING then s
  else ({ s with vlt := { s.vlt with measDue := true } } : State).clr F.RSV_STATUS_MEASURING

/-- A freeze has taken hold: FROZEN is set, the boost gate is off (R560, R611). -/
def State.freezeTaken (s : State) : State :=
  (((({ s with aud := { s.aud with applying := false } } : State).setOn F.AUD_STATUS_FROZEN).countWrap
    F.AUD_STATUS_FREEZES 1).rsvFreeze).lampFreeze

/-- FREEZE_APPLIED (R611). -/
def execFreezeApplied (s : State) : Res := .next (if !s.aud.applying || !s.allStopped then s else s.freezeTaken)

/-- Who brings a freeze request to AO: a qualified fall of FREEZE_N, a route, or both on one edge (R609, R640). -/
def execFreezeRequest (pin : Bool) (route : Bool) (s : State) : Res :=
  .next (if pin && s.on F.AUD_CFG_PIN_EN then s.freezeRequest 1
    else if route then s.freezeRequest 2
    else s)

/-- A release of a freeze begins, by the first cause (R623). -/
def State.releaseBy (s : State) (cause : Nat) : State :=
  if !s.freezing || s.aud.releasing.isSome then s else { s with aud := { s.aud with releasing := some cause } }

/-- FREEZE_WINDOW_EXPIRY (R623, R639): the window has elapsed. An AUD_RELEASE on that edge is taken instead, and counted. -/
def execFreezeWindowExpiry (tie : Bool) (s : State) : Res :=
  .next (if !s.freezing || s.aud.releasing.isSome || s.rd F.AUD_CFG_WINDOW = 0 then s
    else if tie then (s.count F.AUD_COINCIDE_COUNT 1).releaseBy 1
    else s.releaseBy 3)

/-- FREEZE_PIN_RELEASE (R623): FREEZE_N rises. -/
def execFreezePinRelease (s : State) : Res := .next (if s.on F.AUD_CFG_PIN_RELEASE then s.releaseBy 2 else s)

end Sys2Proof.Machine
end

