-- ==== Sys2Proof/Machine/Clearing.lean ====
section
/-! DEFINITION. The Clearing house (chapter 09): accepting source changes, applying pulse and level routes, delivering to each kind of destination
(R318-R343), and the software event and force registers. A pulse on its way to a destination is a hit: the DEST_KIND, and the
DEST_INDEX with 65,536 times the PRIORITY of a core vector added. -/

namespace Sys2Proof.Machine

/-- A pulse on its way to a destination. -/
abbrev Hit := Nat × Nat

/-- The hit a pulse route makes (R323): PRIORITY matters for core vectors alone. -/
def Route.hit (r : Route) : Hit := (r.kind, if r.kind ≤ 2 then r.dest + 65536 * r.priority else r.dest)

/-- The pseudo DEST_KIND of the ECI query queue's watched sources (R371). -/
abbrev eciKind : Nat := 100

/-- The domain of a destination (Table 09-5); the Sequencer, freeze and wake are in AO. -/
def hitDomain (h : Hit) : Nat :=
  match h.1 with
  | 1 => 4 | 2 => 5 | 3 => domHOST | 5 => domTIME | 6 => domAREF | 100 => domHOST
  | 7 => if h.2 = 0 then domLAMPM else if h.2 = 1 then domLAMPS else domLAMPC
  | _ => 0

/-- Every host wire a route can reach (Table 09-6), as wires are numbered. -/
def routedWires : List Nat := [0, 1, 2, 3, 4, 8, 9] ++ (List.range 32).map (· + 32)

/-- The host wires brought up to date after level routes have changed (R319, R321). -/
def State.refreshRoutedWires (s : State) : State := routedWires.foldl State.refreshWire s

/-- The wire of a DEST_INDEX (Table 09-6). -/
def destWire (d : Nat) : Nat := if d = 16 then 8 else if d = 17 then 9 else d

/-- A level route that drives Wake is active (R319, Table 04-6). -/
def State.wakeRoutes (s : State) : State := if s.routeHolds 9 0 then s.wakeSource 6 else s

/-- A destination that cannot take a pulse discards and counts it (R336); a core outside PRESENT is not counted (R337). -/
def State.dropHit (s : State) (h : Hit) : State :=
  if (h.1 = 1 ∨ h.1 = 2) ∧ !bit s.present (hitDomain h) then s
  else if h.1 = eciKind then s
  else s.count F.KX_DROPPED_COUNT 1

/-- Is the destination of a hit able to take it: on, and for a host wire a link that HRST does not hold idle (R336)? -/
def State.takes (s : State) (h : Hit) : Bool :=
  s.domOn (hitDomain h) && !(h.1 == 3 && !s.seq.espiHigh)

/-- A hit waits at the input of a frozen destination (R341). -/
def State.holdHit (s : State) (h : Hit) : State :=
  if s.kx.heldRoutes.contains h then s else { s with kx := { s.kx with heldRoutes := s.kx.heldRoutes ++ [h] } }

/-- The Sequencer's hits of one AO cycle (R183, R184, R205): a clear of a latch wins over a set. -/
def State.deliverSeq (s : State) (hits : List Hit) (clears : List Nat) : State :=
  let has (n : Nat) : Bool := hits.contains (4, n)
  let s := (List.range 128).foldl (fun s n =>
    if clears.contains n then s.condLatch n false else if has n then s.condLatch n true else s) s
  let s := s.runCommands (has 256) (has 257) (has 258) false
  (List.range 64).foldl (fun s n => if has (512 + n) then s.stepRequest n else s) s

/-- The timers' hits of one AO cycle (R322, R426, R430, R433, R436, R437); advs are the source events of each channel since its last command, and
ties the units, as 4n + m, whose route CAPTURE is taken on the edge on which their timeout count ends. A snapshot takes the counters
before a CLEAR. -/
def State.deliverTime (s : State) (advs : List Nat) (ties : Nat) (hits : List Hit) : State :=
  let has (n : Nat) : Bool := hits.contains (5, n)
  let snap := has 128
  let tied := (List.range 64).filter fun u => bit ties u && has (8 * (u / 4) + 4 + u % 4)
  let s := (List.range 16).foldl (fun s n =>
    if snap || tied.any (fun u => s.tcBase 16 (u / 4) == n) || (List.range 8).any (fun t => has (8 * n + t))
    then s.tcRunTied n (natAt advs n) tied else s) s
  let s := if snap then s.tcSnapshot else s
  (List.range 16).foldl (fun s n =>
    let s := (List.range 4).foldl (fun s m => if has (8 * n + 4 + m) then s.tcCapture n m else s) s
    if (List.range 3).any (fun t => has (8 * n + t)) then s.tcCommand n (has (8 * n)) (has (8 * n + 1)) (has (8 * n + 2)) else s) s

/-- One hit on a destination that has no say about others in its cycle. -/
def State.deliverOne (s : State) (h : Hit) : State :=
  match h.1 with
  | 1 => s.pulseVector .a (h.2 % 65536) (h.2 / 65536)
  | 2 => s.pulseVector .b (h.2 % 65536) (h.2 / 65536)
  | 3 => s.pulseWire (destWire h.2)
  | 6 => if h.2 < 8 then s.adcTrigger h.2 else s.surveyDue 2
  | 7 => if h.2 = 0 then s.matrixExt else if h.2 = 1 then s.lampRestart else s.chainExt (h.2 - 2)
  | 8 => s.freezeRequest 2
  | 9 => s.wakeSource 6
  | 100 => s.eciPush h.2
  | _ => s

/-- The hits of one AO cycle reach their destinations (R320, R322, R336, R341). Hits on one input count once. -/
def State.deliver (s : State) (advs : List Nat) (ties : Nat) (hits : List Hit) (clears : List Nat) : State :=
  let hits := hits.eraseDups
  let lost := hits.filter fun h => !s.takes h
  let wait := hits.filter fun h => s.takes h && s.frozen (hitDomain h)
  let now := hits.filter fun h => s.takes h && !s.frozen (hitDomain h)
  let s := lost.foldl State.dropHit s
  let s := wait.foldl State.holdHit s
  let s := s.deliverSeq now clears
  let s := if now.any fun h => h.1 == 5 then s.deliverTime advs ties now else s
  now.foldl State.deliverOne s

/-- Hits held at frozen destinations reach them at release (R341). -/
def State.releaseHits (s : State) : State :=
  let hits := s.kx.heldRoutes
  (({ s with kx := { s.kx with heldRoutes := [] } } : State).deliver [] 0 hits []).refreshRoutedWires

/-- Has a source a change the Clearing house has not accepted: a pulse in its latch, or a level that differs (R324)? -/
def State.changed (s : State) (ev : Nat) : Bool :=
  if levelSource ev then s.kx.levels.contains ev != s.accepted ev else s.kx.pulses.contains ev

/-- KX_LEVEL and KX_SEEN after a source's change is accepted (Table 09-14). -/
def State.takeChange (s : State) (ev : Nat) : State :=
  let k := ev / 32
  let seen (s : State) : State := s.wr (F.KX_SEEN_SEEN k) (orBit (s.rd (F.KX_SEEN_SEEN k)) (ev % 32))
  if levelSource ev then
    let v := s.kx.levels.contains ev
    let s := s.wr (F.KX_LEVEL_ACTIVE k) (setBits (s.rd (F.KX_LEVEL_ACTIVE k)) (ev % 32) (ev % 32) (b2n v))
    if v then seen s else s
  else seen { s with kx := { s.kx with pulses := s.kx.pulses.filter (· != ev) } }

/-- Does a pulse route fire on an accepted change (R319)? up is the state of a level source after it. -/
def Route.fires (r : Route) (up : Bool) : Bool :=
  !r.level && (!levelSource r.source || (if r.kind == 4 && decide (r.dest ≤ 127) then up else up != r.invert))

/-- Watched sources of the ECI query queue that fire (R371). -/
def State.eciHits (s : State) (evs : List Nat) : List Hit :=
  ((List.range 8).filter fun k =>
    s.on (F.HST_ECI_QSRC_EN k) && evs.contains (s.rd (F.HST_ECI_QSRC_SOURCE k))
      && (!levelSource (s.rd (F.HST_ECI_QSRC_SOURCE k)) || s.accepted (s.rd (F.HST_ECI_QSRC_SOURCE k)))).map
    fun k => (eciKind, s.rd (F.HST_ECI_QSRC_VALUE k))

/-- The changes of some sources are accepted in one AO cycle and their routes applied (R319, R322, R325, R334). held tells of the destinations
that level routes held before. -/
def State.acceptEvents (s : State) (advs : List Nat) (ties : Nat) (evs : List Nat) : State :=
  let evs := (evs.filter s.changed).eraseDups
  if evs.isEmpty then s else
  let before := s
  let s := evs.foldl State.takeChange s
  let s := s.setOn F.KX_LAST_VALID |>.wr F.KX_LAST_SOURCE (evs.foldl min 511)
  let after := s
  let fired := s.routes.filter fun r => evs.contains r.source && r.fires (after.accepted r.source)
  let inv (r : Route) : Bool := r.kind == 4 && decide (r.dest ≤ 127) && r.invert
  let held (r : Route) : Bool := before.routeHolds r.kind r.dest && after.routeHolds r.kind r.dest
  let hits := (fired.filter fun r => !inv r && !held r).map Route.hit
  let clears := (fired.filter inv).map (·.dest)
  ((s.deliver advs ties (hits ++ s.eciHits evs) clears).refreshRoutedWires).wakeRoutes

/-- The levels of the WAKEm_N pins as their sources take them (EV16-EV23): pin m low, where PINS gives the pin its function. -/
def State.samplePins (s : State) (low : BitVec 8) : State :=
  (List.range 8).foldl (fun s m =>
    let v := low.getLsbD m && s.pinned (.wake m)
    let s := s.level (16 + m) v
    if v then s.wakeSource (8 + m) else s) s

/-- Does the Clearing house accept changes: routing live, and AO not frozen (R339, R341)? -/
def State.routing (s : State) : Bool := s.on F.KX_STATUS_ROUTING && !s.frozen 0

/-- EVENT_ACCEPT (R318-R325, R696): one AO cycle that accepts the changes of the sources named, with the pins that are low.
contended says how many changes from outside AO met the edge within the window of R696. -/
def execEventAccept (evs : List Nat) (low : PinsLow) (contended : Nat) (edges : TimerEdges) (s : State) : Res :=
  .next (if !s.routing then s else
    let s := (s.samplePins low.wake).sampleAlerts low.alerts
    let outside := ((evs.filter s.changed).eraseDups.filter fun e => sourceDomain e != 0).length
    (s.acceptEvents edges.advs edges.ties.toNat evs).count F.KX_COINCIDE_COUNT (min contended outside))

/-- A write of KX_SWEV (Table 09-13). -/
def State.swevWrite (s : State) (w : Word) : State :=
  (List.range 8).foldl (fun s k => if bit (F.KX_SWEV_SW.of w) k then s.raise (100 + k) else s) s

/-- KX_SWEV (R333, R342): a write at either level. -/
def execKxSwev (who : Agent) (sw : BitVec 8) (s : State) : Res :=
  .next (let w : Word := BitVec.ofNat 32 sw.toNat
    s.access who 0 Reg.KX_SWEV w false fun s => s.swevWrite w)

/-- A write of KX_FORCE (R704). -/
def State.forceWrite (s : State) (w : Word) : State :=
  let ev := F.KX_FORCE_SOURCE.of w
  if F.KX_FORCE_KEY.of w ≠ 0x4B then s
  else if 320 ≤ ev ∨ levelSource ev ∨ reservedSource ev ∨ !s.domOn (sourceDomain ev) then s.setOn F.KX_STATUS_FORCE_REFUSED
  else s.raise ev

/-- KX_FORCE (R704, R342). -/
def execKxForce (who : Agent) (key : BitVec 8) (src : BitVec 9) (s : State) : Res :=
  .next (let w : Word := BitVec.ofNat 32 (key.toNat * 2 ^ 24 + src.toNat)
    s.access who 0 Reg.KX_FORCE w true fun s => s.forceWrite w)

/-- Routing goes live at step 8 of Table 01-2 (R339): latches empty, the new till's level routes by each source's state. -/
def State.routingStart (s : State) : State :=
  let s : State := { s with kx := { s.kx with pulses := [] } }
  let s := s.setOn F.KX_STATUS_ROUTING |>.wr F.KX_STATUS_ROUTES s.routes.length
  (List.range 10).foldl (fun s k =>
    s.wr (F.KX_LEVEL_ACTIVE k) (s.kx.levels.foldl (fun m e => if e / 32 = k then orBit m (e % 32) else m) 0)) s

/-- The ROUTES till has changed (R332): level routes it removes release their destinations and those it adds drive theirs. -/
def State.routesChanged (s : State) : State :=
  ((s.wr F.KX_STATUS_ROUTES s.routes.length).refreshRoutedWires).wakeRoutes

end Sys2Proof.Machine
end

