-- ==== Sys2Proof/Machine/Reset.lean ====
section
/-! DEFINITION. Resets and first light (chapter 01): what each reset kind clears and keeps (Table 01-7), the steps of Table 01-2 as one effect,
image selection (R24), and the restart of one core (R53). Kinds are masks as RegTable has them: POR 1, BOR 2, device WDR 4, LDR 8. -/

namespace Sys2Proof.Machine

/-- The register blocks of AO (R315). -/
def aoBlocks : List Nat := [0, 15, 16, 17, 18, 19]

/-- The level sources of AO that show a register field, with that field's state. -/
def State.aoLevels (s : State) : List (Nat × Bool) :=
  [(8, s.freezing), (27, s.rd F.CAL_STATUS_STATE == 3), (31, s.on F.CAL_STATUS_VBAT_LOW), (86, s.on F.SEQ_STATUS_LOCKOUT),
    (87, s.on F.SEQ_STATUS_RUN), (95, s.on F.RSV_STATUS_GATE), (278, s.on F.FAN_SAFE_STAT_ACTIVE)]
    ++ (List.range 32).map fun n => (48 + n, bit (s.rd F.SEQ_WIRE_SW) n)

/-- Level sources after a reset: AO's follow their fields and the WAKE pins stay as they are; every other one is inactive (R339). -/
def State.syncLevels (s : State) : State :=
  { s with kx := { s.kx with
    levels := (s.kx.levels.filter fun e => decide (16 ≤ e) && decide (e < 24)) ++ (s.aoLevels.filter (·.2)).map (·.1) } }

/-- A freeze ends, by a cause of LAST_RELEASE (R623, R443): islands run again under their own rules, which the caller applies. -/
def State.freezeEnd (s : State) (cause : Nat) : State :=
  let aoFrozen := s.frozen 0
  let g := s.cal.gapTicks
  let s : State := { s with aud := { s.aud with applying := false, releasing := none, queue := [] } }
  let s := (s.clr F.AUD_STATUS_FROZEN).wr F.AUD_STATUS_LAST_RELEASE cause |>.wr F.AUD_LAST_LO_TICKS g
    |>.wr F.AUD_LAST_HI_TICKS (g / 2 ^ 32)
  ((s.level 8 false).raise 9).calRelease aoFrozen

/-- What the Audit block keeps over a reset: a POR ends a freeze with no entry, a BOR releases it (R641, R642). -/
def State.clearAudit (s : State) (k : Nat) : State :=
  if bit k 0 then ({ s with aud := {} } : State).dropNonce
  else if bit k 1 then
    let s : State := { s with aud := { s.aud with queue := [] } }
    if s.freezing then s.freezeEnd 4 else s
  else s

/-- An open, write or check is refused (Table 02-9). -/
def State.refuseLedger (s : State) : State := s.setOn F.LGR_STATUS_WR_REFUSED

/-- The write window closes (R90). -/
def State.closeWindow (s : State) : State :=
  ((s.clr F.LGR_STATUS_WR_OPEN).clr F.LGR_STATUS_WR_JTAG).clr F.LGR_WR_CTRL_OPEN

/-- A word goes into the open store at LGR_WR_ADDR, which advances and wraps (R88). -/
def State.storeWord (s : State) (w : Word) : State :=
  let k := s.rd F.LGR_WR_ADDR_WORD
  (s.putBytes (storeBase (s.rd F.LGR_STATUS_WR_STORE) + 4 * k) (leBytes 4 w.toNat)).wr F.LGR_WR_ADDR_WORD (k + 1)

/-- A write of LGR_WR_DATA (R88, R89): only the opening core's. A failed FRAM never acknowledges it. -/
def State.lgrDataWrite (s : State) (who : Agent) (w : Word) (tie : Bool) : State :=
  let mine := match who with | .core c _ => s.rd F.LGR_STATUS_WR_OWNER == c.num | .jtag => false
  if !s.on F.LGR_STATUS_WR_OPEN || s.on F.LGR_STATUS_WR_JTAG || !mine then s.refuseLedger
  else if !s.domOn domFRAM then s.busErr busTimeout
  else
    let s := s.storeWord w
    if tie then (s.count F.LGR_COINCIDE_COUNT 1).closeWindow else s

/-- A core's write of LGR_WR_DATA that is in flight on the Strand is completed (R100). -/
def State.landWord (s : State) (c : Core) : State :=
  match (s.core c).lgrWord with
  | some w => if (s.core c).strand == .waiting then s.lgrDataWrite (.core c false) w false else s
  | none => s

/-- The write window closes and a load that held it is cut off (R95, R100, R101). -/
def State.clearWindow (s : State) (k : Nat) : State :=
  { s with lgr := if k ≠ 1 ∧ (s.lgr.loading ∨ s.lgr.cut) then { cut := true, dead := s.lgr.loading || s.lgr.dead } else {} }

/-- An LDR that aborts a store check leaves CHECK_CODE 0xF (R100). -/
def State.abortCheck (s : State) : State :=
  ((s.wr F.LGR_STATUS_CHECK_CODE 0xF).setOn F.LGR_STATUS_CHECK_DONE).raise 5

/-- A stop request, a stop entry or a stop ends at a reset; a BOR at any step of stop entry or in stop says so (R150, R169). -/
def State.clearPower (s : State) (k : Nat) : State :=
  let s := if bit k 1 && s.pwr.phase != .run then s.wr F.PWR_STOP_STAT_CODE 7 else s
  let p := s.pwr
  { s with pwr := if bit k 0 then { failNote := p.failNote, xt32Fail := p.xt32Fail }
      else { hardFail := p.hardFail, failNote := p.failNote, xt32Fail := p.xt32Fail } }

/-- The AO units that hold state beside their registers (Table 01-7, R697): a POR clears them, other kinds what each chapter says. -/
def State.clearAo (s : State) (k : Nat) : State :=
  let s := if bit k 0 then
      { s with
        vlt := { measDue := true }, recon := {}, fan := {}, tills := []
        seq := { pgPins := s.seq.pgPins }, kx := { s.kx with pulses := [], heldRoutes := [] }
        mem := memClear s.mem shadowBase 0x10000 }
    else s
  let s := if bit k 2 then { s with vlt := { s.vlt with measDue := true } } else s
  let s := if bit k 2 || bit k 3 then { s with recon := {}, kx := { s.kx with pulses := [] } } else s
  let s := if bit k 0 || bit k 2 then s.calClear (bit k 0) else s
  { s with kx := { s.kx with heldRoutes := [] }, kbd := {}, tim := {} }

/-- A reset of kinds, one or a union (R17), that reaches the whole device (Table 01-7): every island outside AO is without power afterwards. seqP
says that it includes the Sequencer state. A pending reconcile ends with ABORTED, its index kept (R129); a POR leaves TIL_STATUS at its Reset values. -/
def State.clearAll (s : State) (k : Nat) (seqP : Bool) : State :=
  let checking := bit k 3 && s.on F.LGR_STATUS_CHECK_BUSY
  let busy := s.on F.TIL_STATUS_BUSY && !bit k 0
  let index := s.rd F.TIL_STATUS_INDEX
  let s := if bit k 0 || bit k 1 then s.lcPowerLoss else s
  let s : State := { s with recon := { s.recon with snapped := false, stage := [], stageCrc := 0, stalled := [] }, fl := { s.fl with half := none } }
  let s := (s.clr F.TIL_STATUS_BUSY).clr F.TIL_STATUS_WAITING
  let s := s.fanAbort.stopDomains k (s.rd F.PWR_STATUS_ON - s.rd F.PWR_STATUS_ON % 2)
  let s := ((s.clearAudit k).clearWindow k).clearPower k
  let s := s.clearAo k
  let s := if seqP && !bit k 0 then s.seqReset else s
  let s := aoBlocks.foldl (fun s b => s.resetBlock b (if b = 16 ∧ seqP then k ||| 4 else k)) s
  let s := if bit k 0 then s.resetBlock 1 1 else s
  let s := s.wr F.PWR_STATUS_ON (if bit k 0 then 0 else 1) |>.wr F.PWR_TRANS_BUSY 0
  let s := if busy then (s.reconEnd 6 0xFFFF).wr F.TIL_STATUS_INDEX index else s
  let s := if checking then s.abortCheck else s
  let s := (s.refreshLifecycle).wrB F.VLT_STATUS_HW_PENDING (!s.vlt.pend.isEmpty)
  s.syncLevels

/-- The checks of Table 02-7 on a Ledger given as the 64 KB of a store (R84, R85, R103). -/
def State.ledgerCheck (s : State) (img : List Byte) (eccBad : Bool) : CheckResult :=
  checkStore img s.lifecycleKey s.lifecycle.epoch (!s.noVerify) eccBad

/-- The checks of Table 02-7 on a store in this device. A FRAM that failed for good does not read (R172). -/
def State.storeCheck (s : State) (st : Nat) : CheckResult :=
  if bit s.pwr.hardFail domFRAM then ⟨0xD, 0xFF, 0xFFFF⟩ else s.ledgerCheck (s.storeBytes st) (s.eccIn (storeBase st) 0x10000)

/-- SERIAL of a store as the last check read it; 0 when it does not read. -/
def State.serialOf (s : State) (st : Nat) : Nat := if bit s.pwr.hardFail domFRAM then 0 else storeSerial (s.storeBytes st)

/-- SERIAL and DETAIL of a store after a check (Tables 02-10 and 02-11). -/
def State.showCheck (s : State) (st : Nat) (r : CheckResult) : State :=
  if st = 0 then s.wr F.LGR_A_SERIAL_SERIAL (s.serialOf 0) |>.wr F.LGR_A_DETAIL_SECTION r.sect
    |>.wr F.LGR_A_DETAIL_ENTRY r.entry
  else s.wr F.LGR_B_SERIAL_SERIAL (s.serialOf 1) |>.wr F.LGR_B_DETAIL_SECTION r.sect
    |>.wr F.LGR_B_DETAIL_ENTRY r.entry

/-- Step 6 of Table 01-2: both stores are checked, and a store is selected except after a BOR (R51, R86). -/
def State.chooseStore (s : State) (select : Bool) : State :=
  let a := s.storeCheck 0
  let b := s.storeCheck 1
  let s := (s.showCheck 0 a).showCheck 1 b
  let s := if select then { s with fl := { s.fl with
    runStore := selectStore a.code b.code (storeSerial (s.storeBytes 0)) (storeSerial (s.storeBytes 1)) } } else s
  let bare := s.fl.runStore.isNone
  ({ s with fl := { s.fl with ledgerFault := bare } } : State).wr F.AO_FL_STATUS_LGR_A_CODE a.code
    |>.wr F.AO_FL_STATUS_LGR_B_CODE b.code |>.wrB F.AO_FL_STATUS_BARE bare |>.wr F.AO_FL_STATUS_STORE (s.fl.runStore.getD 0)
    |>.wrB F.AO_FL_STATUS_LEDGER_OK (!bare)

/-- The shadow and the tills take the running store (step 7, R107, Table 01-7): all of them after a selection, and after a BOR those outside AO. -/
def State.loadStore (s : State) (select : Bool) : State :=
  let s := s.zeroMem shadowBase 0x10000
  match s.fl.runStore with
  | none => if select then { s with tills := [] } else s
  | some st =>
    let img := s.storeBytes st
    let s := s.store shadowBase img
    if select then { s with tills := sectionsOf img }
    else { s with tills := s.tills.map fun t => if t.owner = 0 then t else sectionOf img t.index }

/-- Step 8 of Table 01-2: AO's L fields, routing, Calendar settings (R81, R339, R440, R142). -/
def State.startAo (s : State) : State :=
  let s := aoBlocks.foldl State.loadL s
  let s := s.wr F.PWR_STATUS_ON 1 |>.wr F.PWR_WAKE_ON_DOMAIN s.firstLight
  (s.routingStart.calApply).calStart

/-- The Sequencer at steps 8 and 9 of Table 01-2 (R190, R191, R198, R207): it starts after POR, device WDR and an LDR with SEQ = 1, with the
policy at once after POR; after an LDR without SEQ its state maps onto the new graph; a BOR alone leaves it. Under the bare Ledger every rail
is off (Table 01-4). -/
def State.startSeq (s : State) (k : Nat) (seqP pfailHigh : Bool) (old : List StepRec) : State :=
  if seqP then
    let s := (s.seqStart pfailHigh).restartMonitors
    if bit k 0 then s.applyPolicy else s
  else if bit k 3 then
    let s := s.remapGraph old
    if s.fl.runStore.isNone then (s.wr F.SEQ_RAIL_EN_EN 0).wr F.SEQ_RAIL_ORPHAN_ORPHAN 0 else s
  else s

/-- A domain's power-good does not arrive in time (R172): it is off again, PWR_FAIL and PWR_FAULT say so, and FAN, FRAM and SEAL are retried
once after 1 ms. FAN's is the fan segment's switch (Table 20-12). -/
def State.powerFail (s : State) (d : Nat) : State :=
  let s := s.wr F.PWR_FAIL_FAIL (orBit (s.rd F.PWR_FAIL_FAIL) d) |>.raise 1
  let s := if d = 3 then s.clr F.AO_PAD_STAT_FN_OK else s
  if d ≠ 1 ∧ d ≠ 2 ∧ d ≠ 3 then s
  else if bit s.pwr.retried d then
    let s : State := { s with pwr := { s.pwr with retried := clrBit s.pwr.retried d } }
    if d = 3 then s
    else ({ s with pwr := { s.pwr with hardFail := orBit s.pwr.hardFail d, failNote := (s.word Reg.PWR_FAIL).toNat } } : State).updateGate
  else { s with pwr := { s.pwr with retryDue := orBit s.pwr.retryDue d, retried := orBit s.pwr.retried d } }

/-- The image in a half (Table 01-1). -/
def State.halfBytes (s : State) (h : Nat) : List Byte := s.load (flashBase + 0x100000 * h) 0x100000

/-- The code of a half (R24, R48), its keys those of the running Ledger. -/
def State.halfCode (s : State) (h : Nat) : Nat :=
  let base := flashBase + 0x100000 * h
  imageCode (s.halfBytes h) base (imageKey (s.tillBody 0x003)) (!s.noVerify) (s.eccIn base (memWord s.mem (base + 8)))

/-- The boot ROM reads a half to check it (R23, R160): its header, and what LENGTH covers with the signature when LENGTH is in range. -/
def State.halfRead (s : State) (h : Nat) : State :=
  let base := flashBase + 0x100000 * h
  let len := memWord s.mem (base + 8)
  s.flashReadRun base (if 0x40 ≤ len ∧ len ≤ 0xFFFC0 ∧ len % 64 = 0 then len + 64 else 0x20)

/-- The half that is started (R24): the valid one, and of two valid ones the higher SERIAL, else half 0. -/
def State.chooseHalf (s : State) (c0 c1 : Nat) : Option Nat :=
  if c0 = 0 ∧ c1 = 0 then some (if higher (memWord s.mem (flashBase + 0x100004)) (memWord s.mem (flashBase + 4)) then 1 else 0)
  else if c0 = 0 then some 0 else if c1 = 0 then some 1 else none

/-- ENTRY_A and ENTRY_B of the running half. -/
def State.entry (s : State) (c : Core) : Nat :=
  memWord s.mem (flashBase + 0x100000 * s.rd F.AO_FL_STATUS_HALF + (match c with | .a => 0x0C | .b => 0x10))

/-- Has an image half been selected to run firmware from (R24)? -/
def State.hasFirmware (s : State) : Bool := s.fl.half.isSome

/-- Steps 12 to 14 of Table 01-2 (R23, R24, R27, R28, R36): a half is selected and firmware starts, with core B when the half names an entry for it.
fw is AO_FL_TFW. bad names domains that fail at power-up. -/
def State.startFirmware (s : State) (bad fw : Nat) : State :=
  let c0 := s.halfCode 0
  let c1 := s.halfCode 1
  let h := s.chooseHalf c0 c1
  let s := (s.halfRead 0).halfRead 1
  let s : State := { s with fl := { s.fl with half := h } }
  let s := s.wr F.AO_FL_STATUS_IMG0_CODE c0 |>.wr F.AO_FL_STATUS_IMG1_CODE c1 |>.wrB F.AO_FL_STATUS_FW_NONE h.isNone
    |>.wr F.AO_FL_STATUS_HALF (h.getD 0)
  if h.isNone then s.raise 0
  else
    let s := s.wr F.AO_FL_TFW_T_FIRMWARE fw
    let s := if s.domOn 4 then s.coreStart .a (s.entry .a) false else s
    if s.entry .b = 0 then s
    else if !bit s.present 5 then (s.setOn F.PWR_FAIL_REFUSED).raise 2
    else if bit bad 5 then s.powerFail 5
    else (((s.countTies 0x20 bad).startDomains 0x20).coreStart .b (s.entry .b) false).setOn F.AO_FL_STATUS_CORE_B_ON

/-- t_READY and the START entry, followed by ROLLED_BACK when the bank choice rolled one back (R28, R49, R222, R229). -/
def State.reachReady (s : State) (tVerify tReady : Nat) : State :=
  let s := s.setOn F.AO_FL_STATUS_READY |>.wr F.AO_FL_TIME_T_VERIFY tVerify |>.wr F.AO_FL_TIME_T_READY tReady
  let s := s.updateLive
  let s := s.daybook 0x01 (s.word Reg.AO_RESET_CAUSE).toNat (s.word Reg.AO_FL_STATUS).toNat (s.word Reg.AO_FL_TIME).toNat
  if s.rd F.VLT_START_CODE = 1 then
    (s.daybook 0x03 (s.word Reg.VLT_FAILED_SERIAL).toNat (s.word Reg.VLT_START).toNat (s.word Reg.VLT_SERIAL).toNat).raise 89
  else s

/-- First light from step 2 (Table 01-2, R25-R33) as one effect, after a reset of a kind. The step times are free values within the table's bounds
(R28, R38). bad names the domains whose power-good does not arrive, and those on which it arrives at the limit (R172, R166). A freeze held until t_READY is applied there, and steps 12 to
14 wait for its release (R41). -/
def State.firstLightFrom (s : State) (k : Nat) (seqP pfailHigh : Bool) (bad : Nat) (old : List StepRec) : State :=
  let select := k != 2
  let tv := s.freeBelow 1401
  let tr := tv.2.freeBelow (1801 - tv.1)
  let tf := tr.2.freeBelow (8001 - tv.1 - tr.1)
  let s := ((tf.2.setOn F.CLK_STATUS_PLL_LOCK).setOn F.AO_PAD_STAT_FN_OK).wr F.AO_FL_TFW_T_FIRMWARE 0xFFFF
  let s := (s.chooseStore select).loadStore select
  let s := if select then s.startAo else s
  let on := s.firstLight - s.firstLight % 2
  let up := s.comesUp on bad
  let go := up.1
  let s := s.startDomains (go &&& 0x6)
  let s := if seqP then s.selectPolicy else s
  let s := (s.startSeq k seqP pfailHigh old).safeStart
  let s := s.startDomains (go &&& 0xFFFFF9)
  let s := (domainsOf up.2).foldl State.powerFail (s.countTies go bad)
  let s := if s.domOn 4 then s.coreStart .a 0 true else s
  let s := s.reachReady tv.1 (tv.1 + tr.1)
  if s.fl.runStore.isNone then (match s.aud.held with | some c => s.freezeStart c | none => s)
  else match s.aud.held with
    | some c => ({ s with fl := { s.fl with waitFreeze := true } } : State).freezeStart c
    | none => s.startFirmware bad (tv.1 + tr.1 + tf.1)

/-- VIN_AO_VALID (R21, R25, R26): VIN_AO rises through 2.90 V and first light runs. xt32 says that XT32 runs already, pfailHigh is PFAIL_N at step 9. -/
def execVinAoValid (xt32 : Bool) (pfailHigh : Bool) (bad : BitVec 48) (s : State) : Res :=
  .next (if s.fl.vinValid then s else
    let lost := s.cal.restarted
    let s : State := { s with
      fl := { vinValid := true }, cal := { s.cal with restarted := false }, pwr := { s.pwr with xt32Fail := !xt32 } }
    let s := (((s.modCal fun c => { c with locked := false }).wr F.PWR_STATUS_ON 1).wr F.CLK_STATUS_TRIM Config.oscTrim) |>.wrB F.CLK_STATUS_XT32_OK xt32
      |>.wrB F.CAL_STATUS_SUBST (!xt32)
    let s := if lost then (s.clr F.CAL_STATUS_VALID).setOn F.CAL_STATUS_LOST else s
    s.firstLightFrom 1 true pfailHigh bad.toNat [])

/-- POR (R21): VIN_AO stays below 2.80 V and everything but the ferroelectric memory, the flash and the backup cell is lost. -/
def execPor (s : State) : Res :=
  .next (if !s.fl.vinValid then s else
    let s := ({ s with fl := {} } : State).clearAll 1 true
    (s.setWord Reg.AO_RESET_CAUSE 1).reply .none)

/-- The reset kinds of the whole device among resets that wait, as a mask of RegTable. -/
def Deferred.kinds (d : Deferred) : Nat := (if d.cores.isEmpty then 0 else 4) + (if d.load.isSome then 8 else 0)

/-- Do they include the Sequencer state (R52, R191)? -/
def Deferred.seqP (d : Deferred) : Bool := !d.cores.isEmpty || d.load == some true

/-- The domains an SWR mask names that SWR resets: AO, the SRAM blocks and the bits above are reserved (R54, Table 01-14). -/
def swrDomains (mask : Nat) : List Nat := (domainsOf mask).filter fun d => d != 0 && (decide (d < 6) || decide (9 < d))

/-- AO_RESET_CAUSE after an SWR (Table 01-10). -/
def State.swrCause (s : State) (mask : Nat) : State :=
  let ds := swrDomains mask
  if ds.isEmpty then s else s.setOn F.AO_RESET_CAUSE_SWR |>.wr F.AO_RESET_CAUSE_SWR_LAST (ds.foldl max 0)

/-- Every reset of a union adds its bit to AO_RESET_CAUSE (R17, Table 01-7). -/
def State.addCauses (s : State) (d : Deferred) : State :=
  let s := if d.cores.isEmpty then s else s.setOn F.AO_RESET_CAUSE_WDR_DEV
  let s := if d.load.isSome then s.setOn F.AO_RESET_CAUSE_LDR else s
  s.swrCause d.mask

/-- BOR (R17, R45, R51, R150): VCORE falls below 0.78 V and every island outside AO restarts from cold; first light waits for VCORE. A reset that
waited for the commit which the BOR cuts off joins it. -/
def execBor (s : State) : Res :=
  .next (if !s.fl.vinValid || s.fl.vcoreLow then s else
    let d := s.fl.deferred
    let pfail := s.on F.SEQ_STATUS_PFAIL_PIN
    let s := s.clearAll (2 + d.kinds) d.seqP
    let s : State := { s with fl := { s.fl with
      vcoreLow := true, waitFreeze := false, deferred := .none, due := ⟨2 + d.kinds, d.seqP, pfail⟩ } }
    ((s.setOn F.AO_RESET_CAUSE_BOR).addCauses d).reply .none)

/-- VCORE_READY (R17, R38, R46, R150): VCORE is above 0.80 V again after a BOR, and first light runs from step 2 for the union of the resets
since. -/
def execVcoreReady (bad : BitVec 48) (s : State) : Res :=
  .next (if !s.fl.vinValid || !s.fl.vcoreLow then s else
    let u := s.fl.due
    let old := s.stepRecs
    ({ s with fl := { s.fl with vcoreLow := false, due := {} } } : State).firstLightFrom u.kinds u.seq u.pfailHigh bad.toNat old)

/-- An LDR, a device-scope WDR or both take effect (R17, R51, R52, R191), an LDR after the word writes in flight (R100). While VCORE is low they join
the first light that waits for it. -/
def State.deviceReset (s : State) (d : Deferred) (bad : Nat) : State :=
  let s := if d.load.isSome then (s.landWord .a).landWord .b else s
  let old := s.stepRecs
  let pfail := s.on F.SEQ_STATUS_PFAIL_PIN
  let u := s.fl.due
  let s := (s.clearAll d.kinds d.seqP).addCauses d
  let s : State := { s with fl := { s.fl with waitFreeze := false, deferred := .none } }
  if s.fl.vcoreLow then
    { s with fl := { s.fl with due := ⟨u.kinds ||| d.kinds, u.seq || d.seqP, if d.seqP && !u.seq then pfail else u.pfailHigh⟩ } }
  else s.firstLightFrom d.kinds d.seqP pfail bad old

/-- A core restarts in boot ROM, verifies the half already selected and reaches its entry, or stays in boot ROM when that half does not verify,
none is selected or it names no entry (R53, R36). The half's code and FW_NONE follow this verification (Table 01-11). -/
def State.coreRestart (s : State) (c : Core) : State :=
  if !s.domOn (domCore c) then s else
  let s := s.coreStart c 0 true
  match s.fl.half with
  | none => s
  | some h =>
    let code := s.halfCode h
    let s := (s.halfRead h).wr (if h = 0 then F.AO_FL_STATUS_IMG0_CODE else F.AO_FL_STATUS_IMG1_CODE) code |>.wrB F.AO_FL_STATUS_FW_NONE (code != 0)
    if code ≠ 0 then s.raise 0
    else if s.entry c = 0 then s
    else s.coreStart c (s.entry c) false

/-- SWR of one island (R54, Table 01-7): its tills and memories stay, its registers take their Reset values and it starts afresh. -/
def State.swrIsland (s : State) (d : Nat) : State :=
  if !s.domOn d then s
  else match d with
    | 4 => s.coreRestart .a
    | 5 => s.coreRestart .b
    | _ =>
      let s := (if d = 3 then s.fanAbort else s).stopIsland d
      let s := match domainBlock d with | some b => s.resetBlock b 16 | none => s
      s

/-- SWR (R54): every named island resets together; AO, the SRAM blocks and the bits above are reserved. FRAM chooses no bank again: VLT_START,
VLT_SERIAL and VLT_FAILED_SERIAL are no field of SWR (R9). -/
def State.swrNow (s : State) (mask : Nat) : State :=
  let ds := swrDomains mask
  if ds.isEmpty then s else
  let active := s.rd F.VLT_STATUS_ACTIVE
  let noBank := s.on F.VLT_STATUS_NO_BANK
  let s := ds.foldl State.swrIsland (s.swrCause mask)
  let s : State := { s with kx := { s.kx with levels := s.kx.levels.filter fun e => !ds.contains (sourceDomain e) } }
  ds.foldl (fun s d =>
    if !s.domOn d || d == 4 || d == 5 then s
    else if d = domFRAM then (s.reloadMirror active noBank).updateGate
    else s.startIsland (ds.contains domAREF) d) s

/-- A reset that waits for a commit joins those that wait already (R17, R45). -/
def Deferred.join (d e : Deferred) : Deferred :=
  { cores := d.cores ++ e.cores.filter fun c => !d.cores.contains c
    load := match d.load, e.load with | some x, some y => some (x || y) | Option.none, y => y | x, Option.none => x
    mask := d.mask ||| e.mask }

/-- A union of resets takes effect now, or after the Vault commit in progress (R17, R45). -/
def State.resetWhenIdle (s : State) (d : Deferred) (bad : Nat) : State :=
  if s.vlt.commit.isSome then { s with fl := { s.fl with deferred := s.fl.deferred.join d } }
  else if d.kinds ≠ 0 then s.deviceReset d bad
  else s.swrNow d.mask

/-- A write of AO_LDR (Table 01-15). -/
def State.ldrWrite (s : State) (w : Word) (bad : Nat) : State :=
  if F.AO_LDR_KEY.of w = 0xA5 ∧ F.AO_LDR_GO.has w then s.resetWhenIdle (.ldr (F.AO_LDR_SEQ.has w)) bad else s

/-- LDR (R45, R52, R57). -/
def execLdr (who : Agent) (key : BitVec 8) (seq : Bool) (bad : BitVec 48) (s : State) : Res :=
  .next (let w : Word := BitVec.ofNat 32 (key.toNat * 2 ^ 24 + 2 * b2n seq + 1)
    s.access who 0 Reg.AO_LDR w true fun s => s.ldrWrite w bad.toNat)

/-- A write of AO_SWR (Table 01-14): one that names FRAM waits for a commit (R45). -/
def State.swrWrite (s : State) (w : Word) : State :=
  if F.AO_SWR_KEY.of w ≠ 0x5A then s
  else if bit (F.AO_SWR_DOMAIN.of w) domFRAM then s.resetWhenIdle (.swr (F.AO_SWR_DOMAIN.of w)) 0
  else s.swrNow (F.AO_SWR_DOMAIN.of w)

/-- SWR (R54, R57). -/
def execSwr (who : Agent) (key : BitVec 8) (mask : BitVec 24) (s : State) : Res :=
  .next (let w : Word := BitVec.ofNat 32 (key.toNat * 2 ^ 24 + mask.toNat)
    s.access who 0 Reg.AO_SWR w true fun s => s.swrWrite w)

/-- Does a core's watchdog reset the device (R68)? -/
def State.wdrDevice (s : State) (c : Core) : Bool := bit (u32At (s.tillBody 0x004) 0) c.num

/-- A core's watchdog expires (R275, R276): a Daybook entry, and a WDR of core or device scope. -/
def State.watchdogReset (s : State) (c : Core) (bad : Nat) : State :=
  let u := s.core c
  let s := s.daybook 0x08 c.num (u.fatal.getD 1) u.lastPc
  if s.wdrDevice c then s.resetWhenIdle (.wdr c) bad
  else (s.setOn (match c with | .a => F.AO_RESET_CAUSE_WDR_A | .b => F.AO_RESET_CAUSE_WDR_B)).coreRestart c

/-- WATCHDOG_EXPIRY (R275, R276, R278): the count of a core's watchdog reaches TIMEOUT, or the core has met a fatal condition. tie says that a
kick lands on that edge, and is taken. -/
def execWatchdogExpiry (c : Core) (tie : Bool) (bad : BitVec 48) (s : State) : Res :=
  .next (
    let u := s.core c
    if !u.on || !s.live (domCore c) || s.fl.deferred.cores.contains c then s
    else if u.fatal.isSome then s.watchdogReset c bad.toNat
    else if !s.on (F.EVT_WDOG_CTL_EN.own c) then s
    else if tie then s.count (F.EVT_COINCIDE_COUNT.own c) 1
    else s.watchdogReset c bad.toNat)

/-- eSPI_RESET_N is asserted (Table 01-7, R345, R380): HOST's registers take their Reset values, its queues lose the eSPI requests and its wires
are deasserted; Teller RAM and the tills stay. AO's held wires take the values of POR (R195). -/
def State.hrstNow (s : State) : State :=
  let s : State := { s with seq := { s.seq with espiHigh := false, host := 0x0F } }
  let s := s.setOn F.AO_RESET_CAUSE_HRST
  if !s.domOn domHOST then s else
  let s := s.dropEspi
  let h := s.hst
  let s := s.hostClear
  let s : State := { s with hst := { queueA := h.queueA, queueB := h.queueB, held := h.held, consTx := h.consTx } }
  let s : State := { s with kx := { s.kx with levels := s.kx.levels.filter fun e => sourceDomain e != domHOST } }
  ((s.resetBlock 4 32).hostStart).refreshSusAck

/-- HRST (R43): eSPI_RESET_N falls. -/
def execHrst (s : State) : Res := .next (if !s.fl.vinValid || !s.seq.espiHigh then s else s.hrstNow)

/-- ESPI_RESET_DEASSERT (R43, R345, R353): eSPI_RESET_N rises while VIO_HOST is present (R657); HST_CAP_CFG is sampled and the link may answer. -/
def execEspiResetDeassert (s : State) : Res :=
  .next (if !s.fl.vinValid || s.seq.espiHigh || !s.on F.AO_PAD_STAT_HOST_OK then s else
    let s := (({ s with seq := { s.seq with espiHigh := true } } : State).wakeSource 1)
    if !s.domOn domHOST then s else
    let s := s.level 117 false
    let s : State := { s with hst := { s.hst with bootDue := true, cap := (s.word Reg.HST_CAP_CFG).toNat } }
    s.updateLive.refreshRoutedWires)

/-- BACKUP_CELL_RESTART (R414): the backup cell loses its supply, or XT32 while VIN_AO is not valid. -/
def execBackupCellRestart (s : State) : Res := .next (if s.fl.vinValid then s else s.cellRestart)

/-- The fields of a bank in AO_PAD_STAT: present, and 3.3 V levels. -/
def bankFields : Bank → Fld × Fld
  | .a => (F.AO_PAD_STAT_A_OK, F.AO_PAD_STAT_A_3V3)
  | .b => (F.AO_PAD_STAT_B_OK, F.AO_PAD_STAT_B_3V3)
  | .c => (F.AO_PAD_STAT_C_OK, F.AO_PAD_STAT_C_3V3)
  | .host => (F.AO_PAD_STAT_HOST_OK, F.AO_PAD_STAT_HOST_3V3)

/-- BANK_PRESENT (R657): a bank's supply has been above 1.50 V for 100 µs. high says that it is above 2.50 V. -/
def execBankPresent (bank : Bank) (high : Bool) (s : State) : Res :=
  .next (if !s.fl.vinValid || s.on (bankFields bank).1 then s else
    ((s.setOn (bankFields bank).1).wrB (bankFields bank).2 high).setOn F.AO_PAD_STAT_CHANGED)

/-- BANK_ABSENT (R657, R669): a bank's supply falls below 1.50 V; without VIO_HOST eSPI_RESET_N reads asserted. -/
def execBankAbsent (bank : Bank) (s : State) : Res :=
  .next (if !s.on (bankFields bank).1 then s else
    let s := ((s.clr (bankFields bank).1).clr (bankFields bank).2).setOn F.AO_PAD_STAT_CHANGED
    if bank = .host ∧ s.seq.espiHigh then s.hrstNow else s)

/-- SEQ_POLICY.LAST as the record now committed has it (R192). -/
def State.showLast (s : State) (carried : List (Nat × List Nat)) : State :=
  match carried.find? (fun r => bits r.1 15 0 == 1) with
  | some r => s.wrB F.SEQ_POLICY_LAST (bit (natAt r.2 0) 2)
  | none => s

/-- VAULT_COMMIT_DONE (R220, R221, R239, R45): the commit in progress reaches its commit point, or its read-back differs. Its consumers take the new
image, and a reset that waited for it takes effect. -/
def execVaultCommitDone (readBackOk : Bool) (bad : BitVec 48) (s : State) : Res :=
  .next (match s.vlt.commit with
    | none => s
    | some c =>
      if !s.live domFRAM then s else
      let s := s.commitDone readBackOk
      let s := if readBackOk then s.showLast c.carried else s
      let s := s.nvxAfterCommit c.carried (if readBackOk then 0 else 7)
      let d := s.fl.deferred
      ({ s with fl := { s.fl with deferred := .none } } : State).resetWhenIdle d bad.toNat)

end Sys2Proof.Machine
end

