-- ==== Sys2Proof/Machine/Power.lean ====
section
/-! DEFINITION. Domains, stop and wake (chapter 04): switching requests and their ends (R138-R142, R163, R167, R172), the stop request, stop entry,
the budget and the wake (R143-R155, R174). Wake sources are laid out as PWR_WAKE_CAUSE. -/

namespace Sys2Proof.Machine

/-- A PWR_SET or PWR_CLR request is refused (R138). -/
def State.refuseDomain (s : State) : State := (s.setOn F.PWR_FAIL_REFUSED).raise 2

/-- Where core B starts when it is powered in run: PWR_VEC_B, or ENTRY_B of the running half; 0 when both are (R141). -/
def State.coreBStart (s : State) : Nat :=
  let v := 4 * s.rd F.PWR_VEC_B_ADDR
  if v ≠ 0 then v else if s.hasFirmware then s.entry .b else 0

/-- Is a domain changing? -/
def State.changing (s : State) (d : Nat) : Bool := bit (s.rd F.PWR_TRANS_BUSY) d

/-- A write names a domain whose request is not refused for a change in progress (R163) or for the other core's contradictory request of the same
cycle, a domain of lost (R167). -/
def State.asks (s : State) (mask lost d : Nat) : Bool := bit mask d && !s.changing d && !bit lost d

/-- Is a prerequisite on and staying on, or does the same write switch it on? The bits of a write act together (Table 04-9). -/
def State.willBeOn (s : State) (mask lost d : Nat) : Bool :=
  (s.domOn d && !s.changing d) || (s.asks mask lost d && bit s.present d)

/-- One domain of a PWR_SET write (R138, R141, R163); was is the state before the write. -/
def State.setDomain (was : State) (mask lost : Nat) (s : State) (d : Nat) : State :=
  if !was.asks mask lost d then s.refuseDomain
  else if was.domOn d then s
  else if !bit was.present d || !((domainNeeds d).all (was.willBeOn mask lost)) || (d == 5 && was.coreBStart == 0) then s.refuseDomain
  else s.wr F.PWR_TRANS_BUSY (orBit (s.rd F.PWR_TRANS_BUSY) d)

/-- Is a domain a prerequisite of one that is on, changing, or asked for by the core that wins, and that the same write leaves on (R138)? -/
def State.needed (s : State) (mask lost d : Nat) : Bool :=
  (List.range 24).any fun e => (domainNeeds e).contains d && (s.domOn e || s.changing e || bit lost e) && !s.asks mask lost e

/-- One domain of a PWR_CLR write (R138, R140, R141, R163); was is the state before the write. -/
def State.clearDomain (was : State) (mask lost : Nat) (s : State) (d : Nat) : State :=
  if !was.asks mask lost d then s.refuseDomain
  else if !was.domOn d then s
  else if d ≤ 4 || was.needed mask lost d then s.refuseDomain
  else s.wr F.PWR_TRANS_BUSY (orBit (s.rd F.PWR_TRANS_BUSY) d)

/-- The domains a write is refused for under R167: those of core B's write that meet core A's contradictory one. -/
def contradicted (who : Agent) (met : Nat) : Nat := if who.isCore .b then met else 0

/-- A write of PWR_SET (Table 04-9). -/
def State.pwrSetWrite (s : State) (who : Agent) (w : Word) (met : Nat) : State :=
  if F.PWR_SET_KEY.of w ≠ 0x69 then s
  else
    let m := F.PWR_SET_DOMAIN.of w
    (domainsOf m).foldl (s.setDomain m (contradicted who met)) s

/-- Have all running cores requested stop (R143)? -/
def State.allRequested (s : State) : Bool :=
  (s.pwr.reqA.isSome || s.pwr.reqB.isSome) && (!s.coreA.on || s.pwr.reqA.isSome) && (!s.coreB.on || s.pwr.reqB.isSome)

/-- A stop request is accepted once every running core has made it: the blocks to retain are the union of RET (R143). -/
def State.stopAccept (s : State) : State :=
  if s.pwr.phase != .run || !s.allRequested then s
  else
    let ret (r : Option StopReq) : Nat := match r with | some x => x.ret | none => 0
    (({ s with pwr := { s.pwr with phase := .accepted, retained := ret s.pwr.reqA ||| ret s.pwr.reqB, wakeLevel := 0 } } : State).updateGate).stopWaiting

/-- A write of PWR_CLR (Table 04-9). Core B stops at once (R141); a stop request that waited for it alone is complete (R143). -/
def State.pwrClrWrite (s : State) (who : Agent) (w : Word) (met : Nat) : State :=
  if F.PWR_CLR_KEY.of w ≠ 0x69 then s
  else
    let m := F.PWR_CLR_DOMAIN.of w
    let stops := s.domOn 5 && !s.changing 5
    let s := (domainsOf m).foldl (s.clearDomain m (contradicted who met)) s
    if stops && s.changing 5 then (s.coreOff .b).stopAccept else s

/-- A write of PWR_SET or PWR_CLR reaches AO (R175); one that comes during a freeze is held for release even when AO runs on (R170). -/
def State.accessPwr (s : State) (who : Agent) (a : Nat) (w : Word) (act : State → State) : State :=
  if s.domOn 0 && !who.user && s.on F.AUD_STATUS_FROZEN && !s.frozen 0 then
    (if s.aud.queue.length < 16 then
      { s with aud := { s.aud with queue := s.aud.queue ++ [(a, w)] }, resp := .none } else s.busErr busTimeout)
  else s.access who 0 a w true act

/-- DOMAIN_SET (R138, R141, R163, R167, R175). met names the domains whose contradictory request from the other core comes in the same AO cycle. -/
def execDomainSet (who : Agent) (key : BitVec 8) (mask met : BitVec 24) (s : State) : Res :=
  .next (let w : Word := BitVec.ofNat 32 (key.toNat * 2 ^ 24 + mask.toNat)
    s.accessPwr who Reg.PWR_SET w fun s => s.pwrSetWrite who w met.toNat)

/-- DOMAIN_CLEAR (R138, R140, R163, R167, R175). -/
def execDomainClear (who : Agent) (key : BitVec 8) (mask met : BitVec 24) (s : State) : Res :=
  .next (let w : Word := BitVec.ofNat 32 (key.toNat * 2 ^ 24 + mask.toNat)
    s.accessPwr who Reg.PWR_CLR w fun s => s.pwrClrWrite who w met.toNat)

/-- A domain stops changing. -/
def State.settled (s : State) (d : Nat) : State := s.wr F.PWR_TRANS_BUSY (clrBit (s.rd F.PWR_TRANS_BUSY) d)

/-- DOMAIN_ON_COMPLETE (R139, R141, R166): a domain that switches on has its power-good, its tills are loaded and it answers. tie says that the
power-good came on the edge of the 200 µs limit. -/
def execDomainOnComplete (d : Fin 24) (tie : Bool) (s : State) : Res :=
  .next (if !s.changing d || s.domOn d || !(domainNeeds d).all s.domOn then s else
    let s := if tie then s.count F.PWR_COINCIDE_COUNT 1 else s
    let v := s.coreBStart
    let s := (s.settled d).powerUp (orBit 0 d)
    let s : State := { s with pwr := { s.pwr with retried := clrBit s.pwr.retried d } }
    if d.val = 5 ∧ v ≠ 0 then s.coreStart .b v false else s)

/-- DOMAIN_OFF_COMPLETE (R140): a domain has finished the accesses it accepted and is off. -/
def execDomainOffComplete (d : Fin 24) (s : State) : Res :=
  .next (if !s.changing d || !s.domOn d || s.coreA.strand == .waiting || (d.val != 5 && s.coreB.strand == .waiting) then s
    else
      (s.settled d).stopDomains powerOff (orBit 0 d))

/-- DOMAIN_POWER_FAIL (R172): the power-good of a domain that switches on does not arrive within 200 µs. -/
def execDomainPowerFail (d : Fin 24) (s : State) : Res :=
  .next (if !s.changing d || s.domOn d then s else (s.settled d).powerFail d)

/-- DOMAIN_RETRY (R172): 1 ms after its first failure FAN, FRAM or SEAL is switched on once more. -/
def execDomainRetry (d : Fin 24) (s : State) : Res :=
  .next (if !bit s.pwr.retryDue d || s.freezing then s else
    let s : State := { s with pwr := { s.pwr with retryDue := clrBit s.pwr.retryDue d } }
    if s.domOn d || s.changing d then s else s.wr F.PWR_TRANS_BUSY (orBit (s.rd F.PWR_TRANS_BUSY) d))

/-- A core's stop request (R143). -/
def State.stopRequest (s : State) (c : Core) (ret lim : Nat) : State :=
  let r : StopReq := ⟨ret, if lim = 0 then 10 else lim⟩
  if s.pwr.phase != .run then s
  else match c with
    | .a => ({ s with pwr := { s.pwr with reqA := some r } } : State).stopAccept
    | .b => ({ s with pwr := { s.pwr with reqB := some r } } : State).stopAccept

/-- Does a core run firmware: released from reset, and past the boot ROM (R36, R55)? -/
def State.runsFirmware (s : State) (c : Core) : Bool := (s.core c).on && !(s.core c).rom

/-- A write of PWR_STOP (Table 04-12); only firmware can request stop, and not before its first instruction (R55). -/
def State.pwrStopWrite (s : State) (who : Agent) (w : Word) : State :=
  if F.PWR_STOP_KEY.of w ≠ 0x5C || !F.PWR_STOP_GO.has w then s
  else match who with
    | .core c _ => if s.runsFirmware c then s.stopRequest c (F.PWR_STOP_RET.of w) (F.PWR_STOP_WAITLIM.of w) else s
    | .jtag => s

/-- A write of PWR_STOP with the tie of R166: the other core's request on the edge on which WAITLIM ends is taken and counted. A freeze that is being
applied abandons the request at once (R168). -/
def State.stopWrite (s : State) (who : Agent) (w : Word) (tie : Bool) : State :=
  let waits := s.pwr.reqA.isSome != s.pwr.reqB.isSome
  let t := s.pwrStopWrite who w
  if t.freezing && (t.pwr.reqA.isSome || t.pwr.reqB.isSome) then t.stopEnd 1
  else if tie && waits && t.pwr.phase == .accepted then t.count F.PWR_COINCIDE_COUNT 1 else t

/-- STOP_REQUEST (R143, R166, R175). tie says that this is the other core's request, on the edge on which WAITLIM ends: it is taken. -/
def execStopRequest (who : Agent) (key : BitVec 8) (ret : BitVec 4) (waitlim : BitVec 8) (tie : Bool) (s : State) : Res :=
  .next (let w : Word := BitVec.ofNat 32 (key.toNat * 2 ^ 24 + ret.toNat * 2 ^ 16 + waitlim.toNat * 2 ^ 8 + 1)
    s.access who 0 Reg.PWR_STOP w true fun s => s.stopWrite who w tie)

/-- STOP_PARTNER_TIMEOUT (R144): the other running core has not requested stop within WAITLIM. -/
def execStopPartnerTimeout (s : State) : Res :=
  .next (if s.pwr.phase == .run && (s.pwr.reqA.isSome || s.pwr.reqB.isSome) then s.stopEnd 2 else s)

/-- I_FLOOR of Table 04-4 at a temperature in °C, in µA, as a numerator and denominator (R148). -/
def stopFloor (t : Int) : Int × Nat :=
  let seg (t0 : Int) (w : Nat) (i0 i1 : Int) : Int × Nat := (i0 * w + (t - t0) * (i1 - i0), w)
  if t ≤ 25 then (120, 1) else if t ≤ 55 then seg 25 30 120 200 else if t ≤ 85 then seg 55 30 200 380
  else if t ≤ 105 then seg 85 20 380 660 else if t ≤ 115 then seg 105 10 660 880 else if t ≤ 125 then seg 115 10 880 1180
  else (1180, 1)

/-- The budget is evaluated at a die sensor reading in °C (R148, R149): EST_UA and TJ_USED, and whether it is exceeded. EST_UA in whole µA is rounded
freely: the spec states no rounding. retained is what the requests name at step 1 of stop entry, so that a block that is off counts there too
(DEDUCED, log entry 112), and the blocks retained in stop. -/
def State.budgetCheck (s : State) (die : Int) : Bool × State :=
  let t := die + 5
  let f := stopFloor t
  let num := f.1 + 45 * (popCount 4 s.pwr.retained : Int) * (f.2 : Int)
  let q := s.roundFree num f.2
  (decide (1350 * (f.2 : Int) < num),
    q.2.wr F.PWR_STOP_STAT_EST_UA (min 4095 q.1.toNat) |>.wr F.PWR_STOP_STAT_TJ_USED (wrapInt 8 t))

/-- Is a core's wake vector placed as R144 asks: inside the running half or a retained SRAM block? -/
def State.vecOk (s : State) (v : Nat) : Bool :=
  (s.hasFirmware && runIn v 4 (flashBase + 0x100000 * s.rd F.AO_FL_STATUS_HALF) 0x100000)
    || (List.range 4).any fun j => bit s.pwr.retained j && s.domOn (6 + j) && runIn v 4 (sramBase + 0x10000 * j) 0x10000

/-- The conditions of R144 at step 1 of stop entry, in its order: the refusal's code, 0 for none. -/
def State.stopRefusal (s : State) (die : Int) : Nat × State :=
  let va := 4 * s.rd F.PWR_VEC_A_ADDR
  let vb := 4 * s.rd F.PWR_VEC_B_ADDR
  if s.seq.espiHigh then (3, s)
  else if (s.word Reg.PWR_WAKE_EN).toNat % 65536 = 0 then (6, s)
  else if !s.vecOk va || (vb != 0 && !s.vecOk vb) then (5, s)
  else
    let b := s.budgetCheck die
    (if b.1 then 4 else 0, b.2)

/-- The wake sources that are active: those seen since acceptance, WAKE pins that are low, a level route to Wake, and XT32 without edges (Table
04-6; DEDUCED, log entry 112: a loss before stop counts too). -/
def State.wakeActive (s : State) : Nat :=
  s.pwr.wakeLevel ||| ((List.range 8).foldl (fun m i => if s.kx.levels.contains (16 + i) then orBit m (8 + i) else m) 0)
    ||| (if s.routeHolds 9 0 then 64 else 0) ||| (if s.pwr.xt32Fail then 2 ^ 17 else 0)

/-- Those of some wake sources that PWR_WAKE_EN enables; BUDGET, XT32_FAIL and FREEZE always are (R151). -/
def State.wakeEnabled (s : State) (m : Nat) : Nat := m &&& ((s.word Reg.PWR_WAKE_EN).toNat ||| 0x70000)

/-- Step 3 to 5 of stop entry (Table 04-3, R104, R129, R146, R409): timers are saved, the window closes, a reconcile ends, AO takes the keyboard
pads, and every domain but AO goes off. low names the sense lines that are low. -/
def State.enterStop (s : State) (low : Nat) : State :=
  let on := s.rd F.PWR_STATUS_ON
  let ret := (List.range 4).foldl (fun m j => if bit s.pwr.retained j && s.domOn (6 + j) then orBit m (6 + j) else m) 0
  let s := ((if s.domOn domTIME then s.tcSave else s).reconAbort.fanAbort).modFan fun c => { c with late := false }
  let s := ((s.clearWindow 0).clr F.LGR_STATUS_WR_OPEN).clr F.LGR_STATUS_WR_JTAG |>.clr F.LGR_WR_CTRL_OPEN
  let s := s.modKbd fun k => { k with maskSense := low }
  let s := (s.modCal fun c => { c with gapTicks := 0 }).wr F.PWR_TRANS_BUSY 0
  let s := s.stopDomains powerOff (on - on % 2 - ret)
  let s := s.wr F.PWR_STATUS_ON 1 |>.clr F.CLK_STATUS_PLL_LOCK
    |>.count F.PWR_STOP_STAT_STOPS 1
  { s with pwr := { s.pwr with
    phase := .stopped, reqA := none, reqB := none, retained := ret / 64, timeWasOn := bit on domTIME } }

/-- STOP_ENTRY (R144-R146, R162, R166, R637): step 1 refuses or goes on; once no commit, flash command or SEAL operation is in progress the entry
completes, unless an enabled wake source is active. edge names wake sources that become active on the edge of the end of step 3, which are taken;
low the keyboard sense lines that are low there. -/
def execStopEntry (die : Int) (edge : BitVec 19) (low : BitVec 16) (s : State) : Res :=
  .next (if s.pwr.phase != .accepted then s else
    let r := s.stopRefusal die
    let s := r.2
    if r.1 ≠ 0 then s.stopEnd r.1
    else if s.wakeEnabled s.wakeActive ≠ 0 then s.stopEnd 1
    else if s.vlt.commit.isSome || s.flash.cmd.isSome || s.sealEng.run.isSome || s.lc.run.isSome then s
    else if s.wakeEnabled edge.toNat ≠ 0 then (s.count F.PWR_COINCIDE_COUNT 1).stopEnd 1
    else s.enterStop ((List.range 16).foldl (fun m i => if low.getLsbD i && s.pinned (.kbdSns i) then orBit m i else m) 0))

/-- Domains of a mask come up at a wake, but for those whose power-good fails (R172) and those whose prerequisites are off (R134). -/
def State.wakeDomains (s : State) (mask bad : Nat) : State :=
  let up := s.comesUp (mask &&& s.present) bad
  (domainsOf up.2).foldl State.powerFail ((s.powerUp up.1).countTies up.1 bad)

/-- The wake of Table 04-7 (R152, R153, R168, R340), with its causes. A freeze request that woke the device is applied before the first
instruction. -/
def State.wakeNow (s : State) (cause bad : Nat) : State :=
  let E := s.cal.gapTicks
  let ret := 64 * s.pwr.retained
  let time := s.pwr.timeWasOn
  let s := s.setWord Reg.PWR_WAKE_CAUSE (s.word Reg.PWR_WAKE_CAUSE ||| BitVec.ofNat 32 cause)
  let s := s.wr F.PWR_STOP_TICKS_LO_E_LO E |>.wr F.PWR_STOP_TICKS_HI_E_HI (E / 2 ^ 32) |>.wr F.PWR_STOP_STAT_CODE 0
    |>.setOn F.CLK_STATUS_PLL_LOCK
  let s := s.wr F.PWR_STATUS_ON (1 ||| ret)
  let s : State := { s with pwr := { s.pwr with phase := .run, retained := 0, timeWasOn := false, wakeLevel := 0 } }
  let first := 0x41E ||| (if time then orBit 0 domTIME else 0)
  let s := s.wakeDomains first bad
  let s := if time && s.domOn domTIME then s.tcRestore E else s.modTim fun t => { t with keep := none }
  let on := s.rd F.PWR_WAKE_ON_DOMAIN
  let vb := 4 * s.rd F.PWR_VEC_B_ADDR
  let rest := on - (on &&& (first ||| ret ||| 1)) - (if bit on 5 && vb == 0 then 0x20 else 0)
  let s := s.wakeDomains rest bad
  let s := s.modKbd fun k => { k with maskSense := 0 }
  let s := if s.domOn 4 then s.coreStart .a (4 * s.rd F.PWR_VEC_A_ADDR) false else s
  let s := if s.domOn 5 then s.coreStart .b vb false else s
  let s := if s.routing then s.acceptEvents [] 0 (s.kx.pulses.filter fun e => sourceDomain e == domTIME) else s
  let s := s.raise 10
  match s.aud.held with | some c => (s.freezeStart c).freezeTaken | none => s

/-- WAKE (R146, R151, R152, R166): src names wake sources that are active now. Before the end of step 3 an enabled one abandons the entry; in stop it
wakes the device. die is given when a budget evaluation falls on the same edge. -/
def execWake (src : BitVec 19) (die : Option Int) (bad : BitVec 48) (s : State) : Res :=
  .next (match s.pwr.phase with
    | .run => s
    | .accepted => if s.wakeEnabled (src.toNat ||| s.wakeActive) ≠ 0 then s.stopEnd 1 else s
    | .stopped =>
      let m := s.wakeEnabled (src.toNat ||| s.wakeActive)
      if m = 0 then s else
      match die with
      | none => s.wakeNow m bad.toNat
      | some t =>
        let b := s.budgetCheck t
        (b.2.count F.PWR_COINCIDE_COUNT 1).wakeNow (if b.1 then orBit m 18 else m) bad.toNat)

/-- STOP_BUDGET_CHECK (R149): the evaluation of every 250 ms in stop; a budget that is exceeded wakes the device with BUDGET. -/
def execStopBudgetCheck (die : Int) (bad : BitVec 48) (s : State) : Res :=
  .next (if s.pwr.phase != .stopped then s else
    let b := s.budgetCheck die
    if b.1 then b.2.wakeNow (orBit (s.wakeEnabled s.wakeActive) 18) bad.toNat else b.2)

/-- XT32_FAIL (R174, R415): XT32 has given no edge for 128 µs in stop. The device wakes, and the elapsed count goes on from the AO oscillator. -/
def execXt32Fail (bad : BitVec 48) (s : State) : Res :=
  .next (if s.pwr.phase != .stopped then s else
    let s := if s.pwr.xt32Fail then s else s.xt32Lost
    s.wakeNow (orBit (s.wakeEnabled s.wakeActive) 17) bad.toNat)

end Sys2Proof.Machine
end

