-- ==== Sys2Proof/Machine/LedgerOps.lean ====
section
/-! DEFINITION. Writing a Ledger store (chapter 02): the write window (R87-R90), the store check (R91), recovery frames on the console (R93, R94, R35,
R37) and the JTAG load with the selection of JTAG instructions (R95, R96, R617). -/

namespace Sys2Proof.Machine

/-- Is a store the running one (R87)? -/
def State.runsFrom (s : State) (st : Nat) : Bool := !s.on F.AO_FL_STATUS_BARE && s.fl.runStore == some st

/-- A write of LGR_WR_CTRL (Table 02-12, R87, R90, R95). met says that core A's open request comes in the same AO cycle and wins (R102).
OPEN = 0 closes a core's window whoever at supervisor level writes it: DESIGN CHOICE, log entry 21. -/
def State.lgrCtrlWrite (s : State) (who : Agent) (w : Word) (met : Bool) : State :=
  if F.LGR_WR_CTRL_KEY.of w ≠ 0x3C then s
  else
    let st := F.LGR_WR_CTRL_STORE.of w
    let s := s.wr F.LGR_WR_CTRL_STORE st
    if !F.LGR_WR_CTRL_OPEN.has w then (if s.on F.LGR_STATUS_WR_JTAG then s else s.closeWindow)
    else match who with
      | .jtag => s.refuseLedger
      | .core c _ =>
        if s.runsFrom st || s.on F.LGR_STATUS_WR_OPEN || !s.on F.SEQ_STATUS_PFAIL_PIN || (met && c == .b) then s.refuseLedger
        else s.setOn F.LGR_WR_CTRL_OPEN |>.setOn F.LGR_STATUS_WR_OPEN |>.wr F.LGR_STATUS_WR_STORE st
          |>.wr F.LGR_STATUS_WR_OWNER c.num

/-- The word LGR_WR_CTRL is written with. -/
def lgrCtrlWord (key : BitVec 8) (store : Bool) (opn : Bool) : Word :=
  BitVec.ofNat 32 (key.toNat * 2 ^ 24 + 2 * b2n store + b2n opn)

/-- LEDGER_WINDOW_OPEN (R87, R102, R106). -/
def execLedgerWindowOpen (who : Agent) (key : BitVec 8) (store : Bool) (met : Bool) (s : State) : Res :=
  .next (s.access who 0 Reg.LGR_WR_CTRL (lgrCtrlWord key store true) true fun s =>
    s.lgrCtrlWrite who (lgrCtrlWord key store true) met)

/-- LEDGER_WINDOW_CLOSE (R90, R106). -/
def execLedgerWindowClose (who : Agent) (key : BitVec 8) (store : Bool) (s : State) : Res :=
  .next (s.access who 0 Reg.LGR_WR_CTRL (lgrCtrlWord key store false) true fun s =>
    s.lgrCtrlWrite who (lgrCtrlWord key store false) false)

/-- LEDGER_WORD_WRITE (R88, R89, R99, R106). tie says that it comes in the AO cycle in which the idle count ends: it is taken, and the window closes. -/
def execLedgerWordWrite (who : Agent) (w : Word) (tie : Bool) (s : State) : Res :=
  .next (s.access who 0 Reg.LGR_WR_DATA w true fun s => s.lgrDataWrite who w tie)

/-- LEDGER_WINDOW_IDLE (R90, R95, R105): 100 ms without a word write; the limit does not apply to a JTAG load, and the count rests in every freeze. -/
def execLedgerWindowIdle (s : State) : Res :=
  .next (if !s.domOn 0 || s.freezing || !s.on F.LGR_STATUS_WR_OPEN || s.on F.LGR_STATUS_WR_JTAG then s else s.closeWindow)

/-- A check ends with a code (R91, Table 02-9). -/
def State.checkEnd (s : State) (code : Nat) : State :=
  (((s.clr F.LGR_STATUS_CHECK_BUSY).wr F.LGR_STATUS_CHECK_CODE code).setOn F.LGR_STATUS_CHECK_DONE).raise 5

/-- A write of LGR_CHECK (Table 02-15, R91). -/
def State.lgrCheckWrite (s : State) (w : Word) : State :=
  let st := F.LGR_CHECK_STORE.of w
  let s := s.wr F.LGR_CHECK_STORE st
  if !F.LGR_CHECK_GO.has w || s.on F.LGR_STATUS_CHECK_BUSY then s
  else
    let s := s.wr F.LGR_STATUS_CHECK_STORE st
    if s.on F.LGR_STATUS_WR_OPEN && s.rd F.LGR_STATUS_WR_STORE == st then s.refuseLedger.checkEnd 0xE
    else s.setOn F.LGR_STATUS_CHECK_BUSY

/-- LEDGER_CHECK (R91, R106). -/
def execLedgerCheck (who : Agent) (store : Bool) (s : State) : Res :=
  .next (let w : Word := BitVec.ofNat 32 (2 * b2n store + 1)
    s.access who 0 Reg.LGR_CHECK w true fun s => s.lgrCheckWrite w)

/-- Can a store check go on: FRAM and SEAL run, or have failed for good? In stop and while VCORE is low it waits: DESIGN CHOICE, log entry 22. -/
def State.checkRuns (s : State) : Bool :=
  !s.frozen 0 && (s.live domFRAM || bit s.pwr.hardFail domFRAM) && (s.live domSEAL || bit s.pwr.hardFail domSEAL)

/-- LEDGER_CHECK_DONE (R91, R103): the check in progress ends. -/
def execLedgerCheckDone (s : State) : Res :=
  .next (if !s.on F.LGR_STATUS_CHECK_BUSY || !s.checkRuns then s else
    let st := s.rd F.LGR_STATUS_CHECK_STORE
    let r := s.storeCheck st
    (s.showCheck st r).checkEnd r.code)

/-- Does the boot-ROM recovery service hold the console: under the bare Ledger, or for images when CONS_BOOT binds it (Table 01-4, R36, R68)? -/
def State.recoveryOn (s : State) : Bool :=
  s.coreA.on && s.coreA.rom && s.live 4 &&
    (s.fl.runStore.isNone || (s.on F.AO_FL_STATUS_FW_NONE && bit (u32At (s.tillBody 0x004) 0) 4))

/-- A frame is refused with a code byte (R93). -/
def State.nak (s : State) (code : Nat) : State := s.reply (.bytes code [0x15, BitVec.ofNat 8 code])

/-- A frame is accepted (R93). -/
def State.ack (s : State) : State := s.reply (.bytes 0 [0x06])

/-- A Ledger received outside a store, as the 64 KB it would fill. -/
def padStore (img : List Byte) : List Byte := (img ++ List.replicate (0x10000 - img.length) 0).take 0x10000

/-- The checks of a Ledger received by recovery, and its code; LEN that is not LENGTH + 64 is out of range (R35, R93, R94). That this is judged after
the codes 1 to 4 and before the others is a DESIGN CHOICE, log entry 23. -/
def State.receivedCode (s : State) (img : List Byte) : Nat :=
  let r := s.ledgerCheck (padStore img) false
  if 1 ≤ r.code ∧ r.code ≤ 4 then r.code else if img.length ≠ u32At img 0x0C + 64 then 0xFC else r.code

/-- A Ledger that passes is written to store A, and first light runs as an LDR with the Sequencer (R35). -/
def State.takeLedger (s : State) (img : List Byte) (bad : Nat) : State :=
  (s.putBytes (storeBase 0) (img.take 0x10000)).resetWhenIdle (.ldr true) bad

/-- An image that recovery has written to a half is started when it passes R24 (R37); the step 14 time is free. -/
def State.startRecovered (s : State) (h bad : Nat) : State :=
  if s.halfCode h = 0 then
    let q := s.freeBelow 65536
    q.2.startFirmware bad q.1
  else s

/-- An image is written to the half that is not valid, or to half 1 (R37), and is started when it passes R24. -/
def State.takeImage (s : State) (img : List Byte) (bad : Nat) : State :=
  if !s.domOn domFLASH then s else
  let h := if s.halfCode 0 ≠ 0 ∧ s.halfCode 1 = 0 then 0 else 1
  let base := flashBase + 0x100000 * h
  ((s.eraseFlash (0x100000 * h) 0x100000).store base img).startRecovered h bad

/-- Does core A serve image recovery through JTAG: in boot ROM with no half valid, core B off (R36)? -/
def State.servesImages (s : State) : Bool :=
  s.coreA.on && s.coreA.rom && s.live 4 && s.fl.runStore.isSome && s.on F.AO_FL_STATUS_FW_NONE && !s.coreB.on

/-- FLASH_COMMAND_DONE (R36, R37, R158). Image recovery through JTAG is the Audit chain's flash commands (R157, R618): a row programmed while core A
serves recovery starts its half once it passes R24. DEDUCED, log entry 111. -/
def execFlashCommandDone (same : Bool) (s : State) : Res :=
  .next (match s.flash.cmd with
    | some c =>
      let t := s.flashDone same
      if c.op = 1 ∧ same ∧ s.live domFLASH ∧ s.servesImages then t.startRecovered (c.addr / 0x100000 % 2) 0 else t
    | none => s)

/-- Is LEN in the range of a frame's TYPE (R61, R94, Table 01-1)? -/
def frameLenOk (typ n : Nat) : Bool :=
  if typ = 1 then decide (0x140 ≤ n) && decide (n ≤ 0x10000) && n % 64 == 0
  else decide (0x80 ≤ n) && decide (n ≤ 0x100000) && n % 64 == 0

/-- RECOVERY_FRAME (R35, R37, R93, R94): a whole frame after its sync bytes, with its CRC word. LEN is the payload's length. -/
def execRecoveryFrame (typ : BitVec 8) (payload : List Byte) (crc : Word) (bad : BitVec 48) (s : State) : Res :=
  .next (if !s.recoveryOn then s.reply .none else
    let bare := s.fl.runStore.isNone
    if typ.toNat ≠ (if bare then 1 else 2) then s.nak 0xFD
    else if !frameLenOk typ.toNat payload.length then s.nak 0xFC
    else if crc32 (typ :: leBytes 4 payload.length ++ payload) ≠ crc.toNat then s.nak 0xFE
    else if bare then
      let code := s.receivedCode payload
      if code = 0 then (s.takeLedger payload bad.toNat).ack else s.nak code
    else (s.takeImage payload bad.toNat).ack)

/-- RECOVERY_BYTE_GAP (R93, R99): more than 1 s between the bytes of a frame. tie is a byte in the cycle in which the count ends, which is taken. -/
def execRecoveryByteGap (tie : Bool) (s : State) : Res :=
  .next (if !s.recoveryOn then s.reply .none
    else if tie then (s.count F.LGR_COINCIDE_COUNT 1).reply .none
    else s.nak 0xFE)

/-- A JTAG load that is not at its end is cut off, and its hold on the window ends (R95). -/
def State.cutLoad (s : State) : State :=
  if !s.lgr.loading then s
  else
    let s := if s.lgr.blocked then s else s.closeWindow
    { s with lgr := { cut := true, dead := true } }

/-- Does the lifecycle state allow a JTAG instruction (Table 19-3)? -/
def State.jtagState (s : State) (ir : Nat) : Bool :=
  if ir = 0x10 ∨ ir = 0x00 ∨ ir = 0x04 ∨ ir = 0x05 then s.rd F.AUD_LC_STATE_STATE != 2 || s.on F.AUD_LC_STATE_UNLOCKED
  else true

/-- Is a JTAG instruction taken now (R617, R622, R641, R642)? -/
def State.jtagTakes (s : State) (ir : Nat) : Bool :=
  s.jtagState ir
    && !(s.pwr.phase == .stopped && ir != 0x01 && ir != 0xFF && ir != 0x12 && ir != 0x10)
    && !((ir == 0x00 || ir == 0x04 || ir == 0x05) && !(s.on F.AUD_STATUS_FROZEN && s.frozen 0))
    && !(ir == 0x18 && s.on F.AUD_STATUS_FROZEN)

/-- A JTAG instruction is loaded: one that is refused acts as BYPASS and sets JREFUSED. A change of instruction cuts off a load and gives the pads
back (R95, R617, R622). -/
def State.jtagLoad (s : State) (ir : Nat) : State :=
  let ok := s.jtagTakes ir
  let now := if ok then ir else 0xFF
  let s := if now = 0x18 then s else s.cutLoad
  let s := if ok then s else s.setOn F.AUD_STATUS_JREFUSED
  { s with aud := { s.aud with tap := { s.aud.tap with ir := now, hold := 0 } } }

/-- LGR_LOAD (R96, R617): the instruction selects the load register; a load that was cut off can be begun again. -/
def execLgrLoad (s : State) : Res :=
  .next (if !s.fl.vinValid then s else
    let s := s.jtagLoad 0x18
    ({ s with lgr := { s.lgr with dead := false } } : State).reply .none)

/-- The store a JTAG load goes to (R95): the one that is not running, or store A under the bare Ledger. -/
def State.loadStoreNo (s : State) : Nat := match s.fl.runStore with | some 0 => 1 | _ => 0

/-- The first word of a load: the byte count, and the hold on the window unless a core has it or checks that store (R95). The store words go to
LGR_WR_ADDR as a core's do (R88), from 0 on: DESIGN CHOICE, log entry 24. -/
def State.loadFirst (s : State) (w : Word) : State :=
  let st := s.loadStoreNo
  let blocked := s.on F.LGR_STATUS_WR_OPEN || (s.on F.LGR_STATUS_CHECK_BUSY && s.rd F.LGR_STATUS_CHECK_STORE == st)
  let s : State := { s with lgr := { loading := true, blocked := blocked, count := w.toNat } }
  if blocked then s
  else s.setOn F.LGR_STATUS_WR_OPEN |>.setOn F.LGR_STATUS_WR_JTAG |>.wr F.LGR_STATUS_WR_STORE st |>.setOn F.LGR_WR_CTRL_OPEN
    |>.wr F.LGR_WR_ADDR_WORD 0

/-- A later word of a load: a word of the store, kept under the bare Ledger until it is checked, and at the end the CRC (R35, R88, R95, R96). -/
def State.loadNext (s : State) (w : Word) : State :=
  let k := s.lgr.taken
  if 4 * k < s.lgr.count then
    let s : State := { s with lgr := { s.lgr with taken := k + 1, words := w :: s.lgr.words } }
    if s.lgr.blocked || s.fl.runStore.isNone then s else s.storeWord w
  else { s with lgr := { s.lgr with taken := k + 1, crc := w.toNat } }

/-- LGR_LOAD_WORD (R88, R95, R96): a word is shifted into the load register. -/
def execLgrLoadWord (w : Word) (s : State) : Res :=
  .next (if s.aud.tap.ir ≠ 0x18 || !s.live domFRAM || s.lgr.dead then s
    else if s.lgr.loading then s.loadNext w else s.loadFirst w)

/-- The result of a load at its final capture (R95, R96). A CRC word that does not match has no code of its own: the code is a free value from 1 to 13.
A byte count that is not LENGTH + 64 has none either, and the store is judged as it stands: DESIGN CHOICE, log entry 24. -/
def State.loadCode (s : State) : Nat × State :=
  let l := s.lgr
  let bytes := wordsBytes l.words.reverse
  if l.cut then (0xF, s)
  else if !l.loading then (l.capture, s)
  else if l.blocked then (0xE, s)
  else if l.taken < (l.count + 3) / 4 + 1 then (0xF, s)
  else if crc32 (bytes.take l.count) ≠ l.crc then
    let q := s.freeBelow 13
    (q.1 + 1, q.2)
  else if s.fl.runStore.isNone then
    ((s.ledgerCheck (padStore bytes) false).code, s)
  else ((s.storeCheck s.loadStoreNo).code, s)

/-- LGR_LOAD_CAPTURE (R35, R95, R96): the final capture ends the load with its code, closes the window, and under the bare Ledger takes a Ledger that
passes. -/
def execLgrLoadCapture (bad : BitVec 48) (s : State) : Res :=
  .next (if s.aud.tap.ir ≠ 0x18 then s.reply .none else
    let r := s.loadCode
    let l := s.lgr
    let s := if l.loading && !l.blocked then r.2.closeWindow else r.2
    let s : State := { s with lgr := { capture := r.1 } }
    let s := if l.loading && r.1 == 0 && s.fl.runStore.isNone then s.takeLedger (wordsBytes l.words.reverse) bad.toNat else s
    s.reply (.bytes r.1 []))

end Sys2Proof.Machine
end

