-- ==== Sys2Proof/Machine/Bus.lean ====
section
/-! DEFINITION. The address map (Table 09-1, R313-R317): what a read and a write of every memory, window and register does, with the levels
each chapter asks of a write, and the rows REGISTER_WRITE and COUNTER_READ_CLEAR. -/

namespace Sys2Proof.Machine

/-- The bits of a written word that are 1 in W1C fields of a register. -/
def w1cBits (a : Nat) (w : Word) : Nat :=
  match findReg (regsOfBlock (a / 65536 % 256)) a with
  | some d => d.fields.foldl (fun m f => if f.acc == .w1c then m + bits w.toNat f.hi f.lo * 2 ^ f.lo else m) 0
  | none => 0

/-- Does a register lie in a run of n registers at a stride? -/
def inRun (a base stride n : Nat) : Bool := decide (base ≤ a) && decide (a < base + stride * n) && (a - base) % stride == 0

/-- Writes that must be a supervisor's, by block (R57, R106, R133, R175, R176, R208, R244, R342, R384, R411, R444, R473, R501, R528, R561, R580,
R608, R643, R644). -/
def supervisorWrite (s : State) (a : Nat) (w : Word) : Bool :=
  let some1 : Bool := w1cBits a w != 0
  match a / 65536 % 256 with
  | 0 =>
    [Reg.AO_SWR, Reg.AO_LDR, Reg.LGR_WR_CTRL, Reg.LGR_WR_DATA, Reg.LGR_CHECK, Reg.TIL_RECON, Reg.PWR_SET, Reg.PWR_CLR, Reg.PWR_STOP,
      Reg.PWR_WAKE_ON, Reg.PWR_VEC_A, Reg.PWR_VEC_B, Reg.FAN_SAFE_CFG, Reg.FAN_SAFE_CMD].contains a
      || ((a == Reg.TIL_DIV_LO || a == Reg.TIL_DIV_HI) && some1)
  | 1 => [Reg.VLT_COMMIT, Reg.VLT_DRAFT_DATA, Reg.VLT_DRAFT_CTL].contains a
  | 2 => [Reg.SEAL_CMD, Reg.SEAL_CFG, Reg.SEAL_SRC, Reg.SEAL_DST, Reg.SEAL_LEN].contains a || inRun a (Reg.SEAL_IV 0) 4 4
      || inRun a (Reg.SEAL_DIGEST 0) 4 8 || inRun a (Reg.SEAL_KEY 0) 4 8 || inRun a (Reg.SEAL_OPND 0) 4 32
  | 3 => some1 || (findReg regsBlock3 a).any fun d => d.fields.any fun f => f.acc == .rw || f.acc == .w1p
  | 4 => a == Reg.HST_CAP_CFG || inRun a (Reg.HST_VWG 0) 4 8 || inRun a (Reg.HST_ECI_QSRC 0) 4 8
  | 5 => [Reg.KBD_CFG, Reg.KBD_TIMING, Reg.KBD_CMD].contains a
  | 6 => inRun a (Reg.TWB_CFG 0) 0x100 6 || inRun a (Reg.TWB_SNS_CFG 0) 8 8
  | 7 => a == Reg.ADC_CFG || inRun a (Reg.ADC_SL_CFG 0) 4 8 || inRun a (Reg.ADC_ENT 0 0) 4 128 || inRun a (Reg.ADC_LIM 0) 4 8
      || (a == Reg.ADC_CMD && F.ADC_CMD_ROT_MS.of w != s.rd F.ADC_CMD_ROT_MS)
  | 8 => inRun a (Reg.TC_CTRL 0) 0x80 16 || inRun a (Reg.TC_PRESC 0) 0x80 16
  | 9 => [Reg.LMX_CFG, Reg.LMX_FRAME, Reg.LMX_COLOUR_LO, Reg.LMX_COLOUR_HI, Reg.LMX_TSRC].contains a || some1
  | 10 => [Reg.LST_CFG, Reg.LST_TSRC, Reg.LST_CMD].contains a || inRun a (Reg.LST_SCFG 0) 0x10 4 || some1
  | 11 => inRun a (Reg.LCH_CFG 0) 0x20 4 || inRun a (Reg.LCH_FRAME 0) 0x20 4 || a == Reg.LCH_TSRC || some1
  | 12 => inRun a (Reg.LOOP_CFG 0) 0x40 2 || inRun a (Reg.LOOP_MAP 0) 0x40 2 || inRun a (Reg.LOOP_OP 0) 0x40 2 || some1
  | 13 => [Reg.DSP_CTRL, Reg.DSP_XSPI_CFG, Reg.DSP_XSPI_CMD].contains a
  | 14 => [Reg.FLC_CMD, Reg.FLC_ADDR, Reg.FLC_SCRUB_CFG].contains a || inRun a (Reg.FLC_BUF 0) 4 4 || (a == Reg.FLC_STATUS && some1)
  | 15 => a == Reg.KX_FORCE || ((a == Reg.KX_STATUS || inRun a (Reg.KX_SEEN 0) 4 10) && some1)
  | 16 => a == Reg.SEQ_CMD || a == Reg.SEQ_WIRE_DEF
  | 17 => a == Reg.AUD_CFG || a == Reg.AUD_LC_CMD || inRun a (Reg.AUD_LC_BUF 0) 4 33
  | 18 => [Reg.CAL_SET_LO, Reg.CAL_SET_HI, Reg.CAL_CMD, Reg.CAL_RATE, Reg.CAL_CFG].contains a
  | 19 => a == Reg.RSV_CFG || a == Reg.RSV_MEASURE
  | _ => false

/-- A write in the AO block. -/
def State.aoWrite (s : State) (n : BusNote) (who : Agent) (a : Nat) (w : Word) : State :=
  if a = Reg.AO_SWR then s.swrWrite w
  else if a = Reg.AO_LDR then s.ldrWrite w n.bad
  else if a = Reg.LGR_WR_CTRL then s.lgrCtrlWrite who w n.tie
  else if a = Reg.LGR_WR_DATA then s.lgrDataWrite who w n.tie
  else if a = Reg.LGR_CHECK then s.lgrCheckWrite w
  else if a = Reg.TIL_RECON then s.tilReconWrite who w n.tie
  else if a = Reg.TIL_DIV_LO then s.tilDivWrite false w
  else if a = Reg.TIL_DIV_HI then s.tilDivWrite true w
  else if a = Reg.PWR_SET then s.pwrSetWrite who w n.met
  else if a = Reg.PWR_CLR then s.pwrClrWrite who w n.met
  else if a = Reg.PWR_STOP then s.stopWrite who w n.tie
  else if a = Reg.PWR_WAKE_ON then s.wr F.PWR_WAKE_ON_DOMAIN (F.PWR_WAKE_ON_DOMAIN.of w &&& s.present)
  else if a = Reg.FAN_SAFE_HB then s.heartbeat who w n.tie
  else if a = Reg.FAN_SAFE_CMD then s.safeCmdWrite w
  else s.accWrite a w

/-- A write in the Vault block. -/
def State.vaultWrite (s : State) (n : BusNote) (who : Agent) (a : Nat) (w : Word) : State :=
  if a = Reg.VLT_COMMIT then s.vltCommitWrite who w n.met
  else if a = Reg.VLT_DRAFT_DATA then s.draftAppend w
  else if a = Reg.VLT_DRAFT_CTL then s.draftClear w
  else if a = Reg.VLT_FIND then s.vltFindWrite w
  else if a = Reg.VLT_LOG then s.vltLogWrite w
  else s.accWrite a w

/-- A write in the SEAL block; SEAL_KEY is write-only (R635). -/
def State.sealWrite (s : State) (a : Nat) (w : Word) : State :=
  if a = Reg.SEAL_CMD then s.sealCmdWrite w
  else if inRun a (Reg.SEAL_KEY 0) 4 8 then s.setWord a w
  else s.accWrite a w

/-- A write in the FAN block. -/
def State.fanWrite (s : State) (a : Nat) (w : Word) : State :=
  if a = Reg.FAN_LEARN then s.learnWrite w
  else if inRun a (Reg.FAN_CFG 0) 0x40 8 then s.fanCfgWrite ((a - Reg.FAN_CFG 0) / 0x40) w
  else s.accWrite a w

/-- A write in the HOST block. -/
def State.hostWrite (s : State) (n : BusNote) (who : Agent) (a : Nat) (w : Word) : State :=
  if inRun a (Reg.HST_VWG 0) 4 8 then s.hstVwgWrite a w
  else if a = Reg.HST_KBC_CMD then s.kbcCmdWrite w
  else if a = Reg.HST_KBC_PUT then s.kbcPutWrite w
  else if a = Reg.HST_ECI_QUERY then s.eciQueryWrite w
  else if a = Reg.HST_ECI_CMD then s.eciCmdWrite w
  else if a = Reg.HST_ECI_PUT then s.eciPutWrite w
  else if a = Reg.TLR_RSP_A then s.tlrRspWrite who .a w n.tie
  else if a = Reg.TLR_RSP_B then s.tlrRspWrite who .b w n.tie
  else if a = Reg.HST_OOB_CTL then s.hstOobCtlWrite w
  else if a = Reg.HST_CONS_TX then s.consTxWrite w
  else s.accWrite a w

/-- A write in the KBD block. -/
def State.kbdWrite (s : State) (a : Nat) (w : Word) : State :=
  if a = Reg.KBD_CFG then s.kbdCfgWrite w
  else if a = Reg.KBD_CMD then s.kbdCmdWrite w
  else s.accWrite a w

/-- A write in the TWB block. -/
def State.twbWrite (s : State) (a : Nat) (w : Word) : State :=
  let p := (a - Reg.TWB_CFG 0) / 0x100
  if inRun a (Reg.TWB_CFG 0) 0x100 6 then s.twCfgWrite p w
  else if inRun a (Reg.TWB_CMD 0) 0x100 6 then s.twCmdWrite p w
  else if inRun a (Reg.TWB_TGT 0) 0x100 6 then s.twTgtWrite p w
  else s.accWrite a w

/-- A write in the ADC block. -/
def State.adcWrite (s : State) (a : Nat) (w : Word) : State :=
  if a = Reg.ADC_CMD then s.adcCmdWrite w
  else if inRun a (Reg.ADC_SL_CFG 0) 4 8 then s.slCfgWrite ((a - Reg.ADC_SL_CFG 0) / 4) w
  else s.accWrite a w

/-- A write in the TIME block. A change of a channel's control takes effect after the source events it has seen. -/
def State.timeWrite (s : State) (b : BusNote) (who : Agent) (a : Nat) (w : Word) : State :=
  if a = Reg.TC_SNAP then (if F.TC_SNAP_GO.has w then ((List.range 16).foldl (fun s n => s.tcRun n (natAt b.advs n)) s).tcSnapshot else s)
  else if Reg.TC_CTRL 16 ≤ a then s.accWrite a w
  else
    let n := (a - Reg.TC_CTRL 0) / 0x80
    let o := (a - Reg.TC_CTRL 0) % 0x80
    let m : Fin 4 := Fin.ofNat 4 ((o - 0x20) / 0x10)
    let s := if o = 0x14 ∨ (0x20 ≤ o ∧ o < 0x60 ∧ o % 0x10 = 8) then s else s.tcRun n (natAt b.advs n)
    if o = 0x0C then s.tcCommand n ((F.TC_CMD_START n).has w) ((F.TC_CMD_STOP n).has w || bit b.met 1) ((F.TC_CMD_CLEAR n).has w || bit b.met 2)
    else if o = 0x10 then s.tcLoWrite who n none w
    else if o = 0x14 then s.tcHiWrite who (Reg.TC_CNT_LO n) w.toNat
    else if o < 0x20 ∨ 0x60 ≤ o then s.accWrite a w
    else if o % 0x10 = 0 then s.tcCfgWrite n m w
    else if o % 0x10 = 4 then s.tcLoWrite who n (some m) w
    else if o % 0x10 = 8 then s.tcHiWrite who (Reg.TC_CC_LO n m) w.toNat
    else s.tcStepWrite n m w

/-- A write in the LAMPS block. -/
def State.lampsWrite (s : State) (a : Nat) (w : Word) : State :=
  if a = Reg.LST_CFG then s.lampCfgWrite w
  else if a = Reg.LST_CMD then s.lampCmdWrite w
  else if inRun a (Reg.LST_SCFG 0) 0x10 4 then s.scfgWrite ((a - Reg.LST_SCFG 0) / 0x10) w
  else s.accWrite a w

/-- A write in the LOOP block. -/
def State.loopWrite (s : State) (a : Nat) (w : Word) : State :=
  if inRun a (Reg.LOOP_CFG 0) 0x40 2 then s.loopCfgWrite ((a - Reg.LOOP_CFG 0) / 0x40) w
  else if inRun a (Reg.LOOP_OP 0) 0x40 2 then s.loopOpWrite ((a - Reg.LOOP_OP 0) / 0x40) w
  else s.accWrite a w

/-- A write of SEQ_CMD (Table 05-10): bits 0 to 3 of met as RUN_SET has them, bit 4 a COND_CLR of the same latch in the
same AO cycle, which wins (R205). -/
def State.seqCmdWrite (s : State) (w : Word) (met : Nat) : State :=
  let arg := F.SEQ_CMD_ARG.of w
  if F.SEQ_CMD_KEY.of w ≠ 0x96 then s
  else match F.SEQ_CMD_CODE.of w with
    | 1 | 2 | 3 | 4 => s.runCommand (F.SEQ_CMD_CODE.of w) met
    | 5 => s.stepRequest arg
    | 6 => if s.stepState arg = 3 then s.idleStep arg else s
    | 7 => if s.railOn arg then s.addDrop (orBit 0 arg) else s
    | 8 => s.addDrop (s.rd F.SEQ_RAIL_EN_EN)
    | 9 => s.condLatch arg (!bit met 4)
    | 10 => s.condLatch arg false
    | _ => s

/-- A write of a register of an island block, by the block's own rules. -/
def State.blockWrite (s : State) (n : BusNote) (who : Agent) (a : Nat) (w : Word) : State :=
  match a / 65536 % 256 with
  | 0 => s.aoWrite n who a w
  | 1 => s.vaultWrite n who a w
  | 2 => s.sealWrite a w
  | 3 => s.fanWrite a w
  | 4 => s.hostWrite n who a w
  | 5 => s.kbdWrite a w
  | 6 => s.twbWrite a w
  | 7 => s.adcWrite a w
  | 8 => s.timeWrite n who a w
  | 9 => if a = Reg.LMX_CMD then s.matrixCmdWrite w else s.accWrite a w
  | 10 => s.lampsWrite a w
  | 11 => if inRun a (Reg.LCH_CMD 0) 0x20 4 then s.chainCmdWrite ((a - Reg.LCH_CMD 0) / 0x20) w else s.accWrite a w
  | 12 => s.loopWrite a w
  | 13 => if a = Reg.DSP_COMMIT then s.commitWrite w else if a = Reg.DSP_XSPI_CMD then s.xspiCmdWrite w else s.accWrite a w
  | 14 => if a = Reg.FLC_CMD then s.flcCmdWrite w else s.accWrite a w
  | 15 => if a = Reg.KX_SWEV then s.swevWrite w else if a = Reg.KX_FORCE then s.forceWrite w else s.accWrite a w
  | 16 => if a = Reg.SEQ_CMD then s.seqCmdWrite w n.met else s.accWrite a w
  | 17 => if a = Reg.AUD_LC_CMD then s.lcCmdWrite w else s.accWrite a w
  | 18 => if a = Reg.CAL_CMD then s.calCmdWrite w else if a = Reg.CAL_RATE then s.calRateWrite w else s.accWrite a w
  | 19 => if a = Reg.RSV_MEASURE then s.rsvMeasureWrite w else if a = Reg.RSV_CFG then (s.accWrite a w).updateGate
      else s.accWrite a w
  | _ => s

/-- A write to an island register block reaches its domain (R19, R266, R315, R619). -/
def State.regWrite (s : State) (n : BusNote) (who : Agent) (a : Nat) (w : Word) : State :=
  if a / 65536 % 256 = 17 then
    (if supervisorWrite s a w && who.user then s.busErr busLevel else (s.reply .none).blockWrite n who a w)
  else if a = Reg.PWR_SET ∨ a = Reg.PWR_CLR then s.accessPwr who a w fun s => s.blockWrite n who a w
  else s.access who (blockDomain (a / 65536 % 256)) a w (supervisorWrite s a w) fun s => s.blockWrite n who a w

/-- What a core's read of a register gives beside the registers that only show a value (Table 00-6, R422, R432). -/
def State.readActive (s : State) (n : BusNote) (who : Agent) (a : Nat) : Word × State :=
  if a = Reg.CAL_NOW_LO then s.calNowLo who
  else if a = Reg.CAL_NOW_HI then s.calNowHi who
  else if a = Reg.KBD_FIFO then s.keyFifoRead who
  else if inRun a (Reg.TWB_ARA 0) 0x100 6 then s.araRead who ((a - Reg.TWB_ARA 0) / 0x100)
  else if Reg.TC_CTRL 0 ≤ a ∧ a < Reg.TC_CTRL 16 then
    let k := (a - Reg.TC_CTRL 0) / 0x80
    let o := (a - Reg.TC_CTRL 0) % 0x80
    let m : Fin 4 := Fin.ofNat 4 ((o - 0x20) / 0x10)
    let s := s.tcCatchUp k (natAt n.advs k)
    if o = 0x10 then s.tcLoRead who k none
    else if o = 0x14 then s.tcHiRead who k none
    else if 0x20 ≤ o ∧ o < 0x60 ∧ o % 0x10 = 4 then s.tcLoRead who k (some m)
    else if 0x20 ≤ o ∧ o < 0x60 ∧ o % 0x10 = 8 then s.tcHiRead who k (some m)
    else (s.peek a, s)
  else (s.peek a, s.readClear a)

/-- A read of an island register block. A read by the Audit chain, and a read of a frozen island, changes nothing (R12, R615, R618). -/
def State.regRead (s : State) (n : BusNote) (who : Agent) (a : Nat) : State :=
  let d := blockDomain (a / 65536 % 256)
  if !s.domOn d then s.busErr busDomainOff
  else if who.coreOf.isNone || (s.frozen d && a / 65536 % 256 != 17) then s.reply (.word (s.peek a))
  else if a = Reg.SEAL_RNG then s.rngRead who
  else let r := s.readActive n who a; r.2.reply (.word r.1)

/-- A write of a core's private block (Table 07-17, R276, R334). -/
def State.evtWrite (s : State) (c : Core) (a : Nat) (w : Word) : State :=
  if a = Reg.EVT_PEND_LO ∨ a = Reg.EVT_PEND_HI then
    let base := if a = Reg.EVT_PEND_LO then 0 else 32
    let held (v : Nat) : Bool := s.routeHolds (c.num + 1) v
    s.modCore c fun u => { u with
      pulses := u.pulses.filter fun p => !(decide (base ≤ p.1) && decide (p.1 < base + 32) && bit w.toNat (p.1 - base) && !held p.1) }
  else if a = Reg.EVT_WDOG_CTL then
    if s.on (F.EVT_WDOG_CTL_EN.own c) || (F.EVT_WDOG_CTL_EN.has w && F.EVT_WDOG_CTL_TIMEOUT.of w == 0) then s
    else s.wr (F.EVT_WDOG_CTL_EN.own c) (F.EVT_WDOG_CTL_EN.of w) |>.wr (F.EVT_WDOG_CTL_TIMEOUT.own c) (F.EVT_WDOG_CTL_TIMEOUT.of w)
  else match findReg regsBlockEvt a with
    | some d => s.setWord (a + evtBase c) (BitVec.ofNat 32 (accWord d.fields (s.word (a + evtBase c)).toNat w.toNat))
    | none => s

/-- Does the core-private block name a register here (R314)? -/
def evtNamed (a : Nat) : Bool := (findReg regsBlockEvt a).isSome

/-- A read of a core's private block: its RS counters clear on a core's own read. -/
def State.evtRead (s : State) (c : Core) (a : Nat) (own : Bool) : State :=
  if !evtNamed a then s.reply (.word 0)
  else
    let v := s.evtPeek c a
    let s := if own && (a == Reg.EVT_COINCIDE || a == Reg.EVT_ECC) then s.setWord (a + evtBase c) 0 else s
    s.reply (.word v)

/-- A run of n bytes as a little-endian word. -/
def wordOf (b : List Byte) : Word := BitVec.ofNat 32 (b.foldr (fun x m => x.toNat + 256 * m) 0)

/-- The rows of the flash and of SRAM that a read meets with an error: 1 corrected, 2 uncorrectable. An error that is known is met again. -/
def State.dataEcc (s : State) (n : BusNote) (a k : Nat) : Nat := if s.eccIn (a - a % 4) k || s.eccIn (a - a % 16) 16 && runIn a k flashBase 0x200000
  then 2 else if n.ecc = 2 then 2 else if n.ecc = 1 || (runIn a k flashBase 0x200000 && s.flash.weak.contains ((a - flashBase) / 16)) then 1 else 0

/-- The core a private-block access of the Audit chain reaches (AUD_CFG.JCORE, R620). -/
def State.jcore (s : State) : Core := if s.on F.AUD_CFG_JCORE then .b else .a

/-- The core an agent's private-block access reaches. -/
def State.privateOf (s : State) (who : Agent) : Core := who.coreOf.getD s.jcore

/-- A read of memory that holds an uncorrectable error gives the Audit chain no stated word: a free one. A core takes ECC_FAULT. -/
def State.replyEcc (s : State) (e : Nat) (b : List Byte) : State :=
  if e = 2 then let q := s.freeWord; q.2.reply (.word (BitVec.ofNat 32 q.1)) else s.reply (.word (wordOf b))

/-- A read of k bytes, aligned, at an address (Table 09-1, R314). In the Vault window n.ecc tells of an error in the image mirror (R240). The answer is the word read, or a bus error. -/
def State.busRead (s : State) (n : BusNote) (who : Agent) (a k : Nat) : State :=
  if a < 0x8000 then s.reply (.word (wordOf ((List.range k).map fun i => Config.bootRom (a + i))))
  else if runIn a k flashBase 0x200000 then
    if !s.domOn domFLASH then s.busErr busDomainOff
    else if s.halfBusy ((a - flashBase) / 0x100000) then s.busErr Machine.busBusy
    else
      let e := s.dataEcc n a k
      (s.flashRead ((a - flashBase) / 16) (e == 1) (e == 2)).replyEcc e (s.load a k)
  else if runIn a k sramBase 0x40000 then
    if s.sramOn a k then s.replyEcc (s.dataEcc n a k) (s.load a k) else s.busErr busDomainOff
  else if runIn a k tellerRam 0x4000 then if s.domOn domHOST then s.reply (.word (wordOf (s.load a k))) else s.busErr busDomainOff
  else if runIn a k shadowBase 0x10000 then s.reply (.word (wordOf (s.load a k)))
  else if runIn a k displayRam 0x80000 then if s.domOn domDISP then s.reply (.word (wordOf (s.load a k))) else s.busErr busDomainOff
  else if runIn a k 0x38000000 0x4000000 then
    let t := s.xspiWindow (a - 0x38000000)
    match t.resp with
    | .word w => t.reply (.word (wordOf (((leBytes 4 w.toNat).drop (a % 4)).take k)))
    | _ => t
  else if runIn a k 0x40000000 0x140000 then if k = 4 then s.regRead n who a else s.busErr busSize
  else if runIn a k 0x50000000 0x10000 then
    if k ≠ 4 then s.busErr busSize
    else if !s.domOn domFRAM then s.busErr busDomainOff
    else
      let s := match n.ecc == 2, recordAt (recordsOf s.vlt.mirror) (a - 0x50000000) with | true, some id => s.mirrorError id | _, _ => s
      s.reply (.word (wordOf (s.getBytes a 4)))
  else if runIn a k 0xE0000000 0x1000 then
    if k ≠ 4 then s.busErr busSize
    else if who.user then s.busErr busLevel
    else s.evtRead (s.privateOf who) a who.coreOf.isSome
  else s.busErr busUnmapped

/-- A write of bytes, aligned, at an address (Table 09-1, R314, R619). -/
def State.busWrite (s : State) (n : BusNote) (who : Agent) (a : Nat) (b : List Byte) : State :=
  let k := b.length
  let mem (d : Nat) : State := if s.domOn d then (s.putBytes a b).reply .none else s.busErr busDomainOff
  if a < 0x8000 ∨ runIn a k flashBase 0x200000 ∨ runIn a k 0x38000000 0x4000000 then s.busErr busReadOnly
  else if runIn a k sramBase 0x40000 then if s.sramOn a k then (s.putBytes a b).reply .none else s.busErr busDomainOff
  else if runIn a k tellerRam 0x4000 then (mem domHOST).kbcStored a k
  else if runIn a k shadowBase 0x10000 then mem 0
  else if runIn a k displayRam 0x80000 then mem domDISP
  else if runIn a k 0x40000000 0x140000 then if k = 4 then s.regWrite n who a (wordOf b) else s.busErr busSize
  else if runIn a k 0x50000000 0x10000 then s.busErr (if k = 4 then busReadOnly else busSize)
  else if runIn a k 0xE0000000 0x1000 then
    if k ≠ 4 then s.busErr busSize
    else if who.user then s.busErr busLevel
    else (s.evtWrite (s.privateOf who) a (wordOf b)).reply .none
  else s.busErr busUnmapped

/-- The domain an address belongs to, none when it is mapped to none or to the accessing core itself (Table 09-1). -/
def addrDomain (a : Nat) : Option Nat :=
  if runIn a 1 flashBase 0x200000 then some domFLASH
  else if runIn a 1 sramBase 0x40000 then some (6 + (a - sramBase) / 0x10000)
  else if runIn a 1 tellerRam 0x4000 then some domHOST
  else if runIn a 1 shadowBase 0x10000 then some 0
  else if runIn a 1 displayRam 0x80000 ∨ runIn a 1 0x38000000 0x4000000 then some domDISP
  else if runIn a 1 0x40000000 0x140000 then some (blockDomain ((a - 0x40000000) / 0x10000))
  else if runIn a 1 0x50000000 0x10000 then some domFRAM
  else none

/-- Does a write have to wait for the snapshot of a reconcile (R110)? -/
def State.writeStalls (s : State) (a k : Nat) : Bool := runIn a k shadowBase 0x10000 && s.shadowStalls (a - shadowBase) k

/-- REGISTER_WRITE (R11, R18, R19): a word is written to an address of an island register block. A shadow write that meets a snapshot waits for it
(R110). -/
def execRegisterWrite (who : Agent) (a : BitVec 32) (w : Word) (note : BusNote) (s : State) : Res :=
  let x := a.toNat - a.toNat % 4
  .next (if runIn x 4 0x40000000 0x140000 then s.regWrite note who x w else if s.writeStalls x 4 then ({ s with recon := { s.recon with stalled := s.recon.stalled ++ [(x, w)] } } : State).reply .none
    else s.busWrite note who x (leBytes 4 w.toNat))

/-- COUNTER_READ_CLEAR (R12, R16, R330): a register is read; its RS fields clear after it. -/
def execCounterReadClear (who : Agent) (a : BitVec 32) (s : State) : Res :=
  .next (s.busRead {} who (a.toNat - a.toNat % 4) 4)

end Sys2Proof.Machine
end

