-- ==== Sys2Proof/Machine/K4Control.lean ====
section
/-! DEFINITION. The K4's control registers (Tables 07-10 to 07-15): what MFC reads, which moves are illegal or privileged, and what MTC
writes (R258, R260, R263, R264, R267, R299). -/

namespace Sys2Proof.Machine

/-- Is a control number one of Table 07-10? -/
def ctlKnown (n : Nat) : Bool :=
  n == 0 || n == 2 || (decide (4 ≤ n) && decide (n ≤ 0x0D)) || (decide (0x10 ≤ n) && decide (n ≤ 0x30)) || n == 0x34 || n == 0x38
    || n == 0x39 || n == 0x3C || n == 0x3D

/-- Control registers that only read (R299). -/
def ctlReadOnly (n : Nat) : Bool := [0x02, 0x07, 0x0A, 0x0D, 0x38, 0x39, 0x3C, 0x3D].contains n

/-- Control registers a user-level move may name (R264). -/
def ctlUser (n : Nat) : Bool := [0x00, 0x38, 0x39, 0x3C, 0x3D].contains n

/-- STK as a word (Table 07-13). -/
def CoreUnit.stk (u : CoreUnit) : Nat := 4 * b2n u.stkLock + 2 * b2n u.stkStrict + b2n u.stkMode

/-- A control register as MFC reads it. -/
def CoreUnit.ctl (u : CoreUnit) (c : Core) (n : Nat) : Word :=
  let w : Nat :=
    if n = 0x00 then u.psw.toNat
    else if n = 0x02 then 65536 * u.frames.length + 256 * u.resident + b2n u.low
    else if n = 0x04 then u.wsb
    else if n = 0x05 then u.wsl
    else if n = 0x06 then u.wsw
    else if n = 0x07 then u.wsp
    else if n = 0x08 then u.rsb
    else if n = 0x09 then u.rsl
    else if n = 0x0A then u.rsp
    else if n = 0x0B then (u.rstack.headD 0).toNat
    else if n = 0x0C then u.stk
    else if n = 0x0D then u.rstack.length
    else if 0x10 ≤ n ∧ n < 0x20 then (u.mpuBase.getD (n - 0x10) 0).toNat
    else if 0x20 ≤ n ∧ n < 0x30 then (u.mpuLim.getD (n - 0x20) 0).toNat
    else if n = 0x30 then 4 * b2n u.mpuLock + 2 * b2n u.mpuBg + b2n u.mpuEn
    else if n = 0x34 then b2n u.cacheEn
    else if n = 0x38 then u.cycle % 2 ^ 32
    else if n = 0x39 then u.cycleHi
    else if n = 0x3C then 0x04010000 + c.num
    else if n = 0x3D then 0x1E102040
    else 0
  BitVec.ofNat 32 w

/-- Does an MTC of a value raise ILLEGAL_OP (R258, R263, R299)? A locked STK ignores the write. -/
def CoreUnit.mtcIllegal (u : CoreUnit) (n : Nat) (v : Word) : Bool :=
  !ctlKnown n || ctlReadOnly n || ((n == 4 || n == 5) && u.wsp != u.wsb)
    || (n == 0x0C && !u.stkLock && v.getLsbD 0 != u.stkMode && !(u.frames.isEmpty && u.nest == 0))

/-- An MTC writes its control register; locked fields and PSW.S keep their values (R260, R264, R267). -/
def CoreUnit.setCtl (u : CoreUnit) (n : Nat) (v : Word) : CoreUnit :=
  if n = 0x00 then
    let u := u.setFlags (pswFlags v)
    if u.sup then { u with lvl := bits v.toNat 23 20, ie := v.getLsbD 1 } else u
  else if n = 0x04 then { u with wsb := 16 * (v.toNat / 16), wsp := 16 * (v.toNat / 16) }
  else if n = 0x05 then { u with wsl := 16 * (v.toNat / 16) }
  else if n = 0x06 then { u with wsw := 16 * (v.toNat / 16) }
  else if n = 0x08 then (if u.stkLock then u else { u with rsb := 32 * (v.toNat / 32), rsp := 32 * (v.toNat / 32) })
  else if n = 0x09 then (if u.stkLock then u else { u with rsl := 32 * (v.toNat / 32) })
  else if n = 0x0B then (match u.rstack with | [] => u | _ :: r => { u with rstack := v :: r })
  else if n = 0x0C then
    (if u.stkLock then u else { u with stkLock := v.getLsbD 2, stkStrict := v.getLsbD 1, stkMode := v.getLsbD 0 })
  else if 0x10 ≤ n ∧ n < 0x20 then (if u.mpuLock then u else { u with mpuBase := u.mpuBase.set (n - 0x10) v })
  else if 0x20 ≤ n ∧ n < 0x30 then
    (if u.mpuLock then u else { u with mpuLim := u.mpuLim.set (n - 0x20) (BitVec.ofNat 32 (256 * (v.toNat / 256))) })
  else if n = 0x30 then
    (if u.mpuLock then u else { u with mpuLock := v.getLsbD 2, mpuBg := v.getLsbD 1, mpuEn := v.getLsbD 0 })
  else if n = 0x34 then { u with cache := if v.getLsbD 1 then [] else u.cache, cacheEn := v.getLsbD 0 }
  else u

end Sys2Proof.Machine
end

