-- ==== Sys2Proof/Machine/K4Memory.lean ====
section
/-! DEFINITION. The K4's memory side: fetching a bundle (R246, R252, R265, R283), and the access of an M syllable through the store buffer, to boot
ROM and flash, or over the Strand (R251, R262, R265, R266, R296-R298). -/

namespace Sys2Proof.Machine

/-- A fault exception found: its code, the UNIT of its syllable, its bus error code and the information word. -/
structure Fail where
  code : Nat
  unit : Nat
  bus : Nat
  info : Nat
  deriving DecidableEq, Repr

/-- A line of flash goes into the instruction cache (R252): 128 sets of two lines; which line of a full set goes is a free value. -/
def State.cacheFill (s : State) (c : Core) (line : Nat) : State :=
  let u := s.core c
  if !u.cacheEn then s
  else
    let same (l : CacheLine) : Bool := l.addr / 32 % 128 == line / 32 % 128
    let mine := u.cache.filter same
    let new : CacheLine := ⟨line, s.load line 32⟩
    if mine.length < 2 then s.modCore c fun u => { u with cache := new :: u.cache }
    else
      let q := s.freeBelow 2
      let kept := (mine.getD (1 - q.1) new)
      q.2.modCore c fun u => { u with cache := new :: kept :: u.cache.filter fun l => !same l }

/-- The fetch of one syllable: its word, or the fault. e is 1 for a corrected error in what it reads, 2 for an uncorrectable one. -/
def State.fetchSyl (s : State) (c : Core) (a e : Nat) : (Nat ⊕ Fail) × State :=
  let u := s.core c
  let fail (code bus : Nat) : Nat ⊕ Fail := .inr ⟨code, 0, bus, a⟩
  if !u.allows a 2 then (fail 4 0, s)
  else if a < 0x8000 then (.inl (ofBe ((List.range 4).reverse.map fun i => Config.bootRom (a + i))), s)
  else if runIn a 4 sramBase 0x40000 then
    if !s.sramOn a 4 then (fail 9 busDomainOff, s)
    else if e = 2 ∨ s.eccIn a 4 then (fail 0xA 0, s)
    else (.inl (memWord s.mem a), (if e = 1 then s.eccCount c else s).serve c a)
  else if runIn a 4 flashBase 0x200000 then
    match u.cache.find? fun l => u.cacheEn && l.addr == a - a % 32 with
    | some l => (.inl (u32At l.bytes (a % 32)), s)
    | none =>
      if !s.domOn domFLASH then (fail 9 busDomainOff, s)
      else if s.halfBusy ((a - flashBase) / 0x100000) then (fail 9 Machine.busBusy, s)
      else
        let line := a - a % 32
        let s := if e = 1 ∨ e = 2 then s.meetError line 32 a (e == 2) else s
        let met := (s.badRows line 32).length
        let bad := s.eccIn line 32
        let s := s.flashReadRun line 32
        if bad then (fail 0xA 0, s)
        else (.inl (memWord s.mem a), (s.count (F.EVT_ECC_COUNT.own c) met).cacheFill c line)
  else (fail 4 0, s)

/-- The fetch of a bundle: syllables up to the first with STOP, four at most (R246, R247). -/
def State.fetchFrom (s : State) (c : Core) (a e : Nat) : Nat → (List Nat ⊕ Fail) × State
  | 0 => (.inl [], s)
  | k + 1 =>
    match s.fetchSyl c a e with
    | (.inr f, t) => (.inr f, t)
    | (.inl w, t) =>
      if sylStop w then (.inl [w], t)
      else match t.fetchFrom c ((a + 4) % 2 ^ 32) 0 k with
        | (.inl r, t') => (.inl (w :: r), t')
        | (.inr f, t') => (.inr f, t')

/-- The bundle at a core's PC. -/
def State.fetchBundle (s : State) (c : Core) (e : Nat) : (List Nat ⊕ Fail) × State := s.fetchFrom c (s.core c).pc e 4

/-- Does an M syllable load? -/
def sylLoads (w : Syl) : Bool := decide (opMC w ≤ 4) || opMC w == 8 || opMC w == 10
/-- Does an M syllable store? -/
def sylStores (w : Syl) : Bool := (decide (5 ≤ opMC w) && decide (opMC w ≤ 7)) || opMC w == 9 || opMC w == 10

/-- The size of an M syllable's access in bytes (Table 08-4). -/
def sylSize (w : Syl) : Nat :=
  match opMC w with
  | 1 => 2 | 2 => 2 | 6 => 2 | 3 => 1 | 4 => 1 | 7 => 1 | _ => 4

/-- The effective address of an M syllable (R296). -/
def CoreUnit.effective (u : CoreUnit) (w : Syl) : Nat :=
  let a := u.reg (raM w)
  (match opMC w with
  | 8 | 9 => a + (u.reg (rbM w) <<< bits w 8 7)
  | 10 => a
  | _ => a + BitVec.ofInt 32 (sext 14 (bits w 13 0))).toNat

/-- The bytes an M syllable stores. -/
def CoreUnit.stored (u : CoreUnit) (w : Syl) : List Byte :=
  leBytes (sylSize w) (u.reg (if opMC w = 10 then rbM w else rM w)).toNat

/-- A load's value in its register: bytes and halfwords extended (Table 08-4). -/
def loadValue (w : Syl) (v : Word) : Word :=
  match opMC w with
  | 1 => (v.truncate 16).signExtend 32
  | 3 => (v.truncate 8).signExtend 32
  | _ => v

/-- Is an address in a locked return-stack area (R262)? -/
def State.lockedArea (s : State) (a : Nat) : Bool :=
  [s.coreA, s.coreB].any fun u => u.on && u.stkLock && decide (u.rsl ≤ a) && decide (a < u.rsb)

/-- The faults of an M access that are found before it is made, in the order of R268; an XCHG counts as a load and a store. -/
def State.accessFail (s : State) (c : Core) (w : Syl) : Option Fail :=
  let u := s.core c
  let a := u.effective w
  let fail (code bus : Nat) : Option Fail := some ⟨code, 2, bus, a⟩
  if a % sylSize w ≠ 0 then fail 8 0
  else if sylLoads w && (!u.allows a 0 || (!u.sup && s.lockedArea a)) then fail 5 0
  else if sylStores w && !u.allows a 1 then fail 6 0
  else if sylStores w && s.lockedArea a then fail 7 0
  else if opMC w = 10 ∧ !runIn a 4 sramBase 0x40000 then fail 9 busUnmapped
  else none

/-- Does an access leave the core on the Strand (Table 07-2)? Boot ROM and flash loads and SRAM do not. -/
def strandAccess (w : Syl) (a : Nat) : Bool :=
  !(runIn a 1 sramBase 0x40000) && (sylStores w || !(decide (a < 0x8000) || runIn a 1 flashBase 0x200000))

/-- A store goes into the store buffer; when it is full, the oldest goes to SRAM first (R251). -/
def State.bufStore (s : State) (c : Core) (a : Nat) (b : List Byte) : State :=
  let s := match (s.core c).sbuf with
    | e :: r => if 3 ≤ r.length then (s.corePut c e.1 e.2).modCore c fun u => { u with sbuf := r } else s
    | [] => s
  s.modCore c fun u => { u with sbuf := u.sbuf ++ [(a, b)] }

/-- Does the store buffer hold all the bytes of a run? -/
def CoreUnit.buffered (u : CoreUnit) (a n : Nat) : Bool :=
  (List.range n).all fun i => u.sbuf.any fun e => decide (e.1 ≤ a + i) && decide (a + i < e.1 + e.2.length)

/-- An access in SRAM: its old value (for a load), or its fault. -/
def State.sramAccess (s : State) (n : BusNote) (c : Core) (w : Syl) (a : Nat) : (Word ⊕ Fail) × State :=
  let u := s.core c
  let k := sylSize w
  let b := u.stored w
  if !s.sramOn a k then (.inr ⟨9, 2, busDomainOff, a⟩, s)
  else if !sylLoads w then (.inl 0, s.bufStore c a b)
  else
    let e := if u.buffered a k then 0 else s.dataEcc n a k
    if e = 2 then (.inr ⟨0xA, 2, 0, a⟩, s)
    else
      let s := (if e = 1 then s.eccCount c else s).serve c a
      let v := wordOf (s.coreBytes c a k)
      (.inl v, if opMC w = 10 then (s.drainBuf c).corePut c a b else s)

/-- The access of an M syllable over the bus, with the level of R266. -/
def State.busAccess (s : State) (n : BusNote) (c : Core) (w : Syl) (a : Nat) : (Word ⊕ Fail) × State :=
  let u := s.core c
  let k := sylSize w
  let who : Agent := .core c (u.userAt a)
  let e := if runIn a k flashBase 0x200000 && sylLoads w && s.domOn domFLASH && !s.halfBusy ((a - flashBase) / 0x100000) then s.dataEcc n a k else 0
  let t := if sylLoads w then s.busRead n who a k else s.busWrite n who a (u.stored w)
  let t := if e = 1 then t.eccCount c else t
  match t.resp with
  | .busError e => (.inr ⟨9, 2, e, a⟩, t.reply .none)
  | .word v => (if e = 2 then .inr ⟨0xA, 2, 0, a⟩ else .inl v, t.reply .none)
  | _ => (.inl 0, t)

/-- The access an M syllable makes. -/
def State.mAccess (s : State) (n : BusNote) (c : Core) (w : Syl) : (Word ⊕ Fail) × State :=
  let a := (s.core c).effective w
  if runIn a 1 sramBase 0x40000 then s.sramAccess n c w a else s.busAccess n c w a

end Sys2Proof.Machine
end

