-- ==== Sys2Proof/Machine/K4Issue.lean ====
section
/-! DEFINITION. A K4 core's steps: issuing a bundle (R245-R312), its Strand access, a divide's end, entries (R270-R275), WAIT and the watchdog. -/

namespace Sys2Proof.Machine

/-- Do the units of a bundle rise strictly, with STOP on the last syllable (R246)? -/
def unitsRise : List Nat → Bool
  | a :: b :: r => decide (sylUnit a < sylUnit b) && unitsRise (b :: r)
  | [a] => sylStop a
  | [] => false

/-- Do two syllables write one register other than x0, or both the flags (R247, R306)? -/
def bundleClash (b : List Nat) : Bool :=
  let regs := (b.map sylWrites).filter (· != 0)
  regs.eraseDups.length != regs.length || decide (2 ≤ (b.filter sylFlags).length)

/-- Is a syllable one of a supervisor (R264, Table 08-5)? -/
def sylPriv (w : Syl) : Bool :=
  match sylUnit w with
  | 2 => (opMC w == 13 || opMC w == 14) && !ctlUser (bits w 7 0)
  | 3 => opMC w == 7 || (decide (10 ≤ opMC w) && decide (opMC w ≤ 13))
  | _ => false

/-- Does a syllable raise ILLEGAL_OP (R288, R299)? -/
def CoreUnit.sylIllegal (u : CoreUnit) (w : Syl) : Bool :=
  match sylUnit w with
  | 2 => !legalM w || (opMC w == 13 && !ctlKnown (bits w 7 0)) || (opMC w == 14 && u.mtcIllegal (bits w 7 0) (u.reg (rM w)))
  | 3 => !legalC w
  | _ => !legalXY w

/-- Does a return raise FRAME_ERROR (Table 07-4)? -/
def CoreUnit.frameError (u : CoreUnit) (w : Syl) : Bool :=
  sylUnit w == 3 &&
    ((opMC w == 6 && (u.frames.head? != some false || (u.stkMode && !u.canPop 1)))
      || (opMC w == 7 && (u.frames.head? != some true || (u.stkMode && !u.canPop 2))))

/-- The entry a pop gives, with e the ECC outcome of the load it may need (R261): none where that load is fatal. -/
def State.topReturn (s : State) (c : Core) (e : Nat) : Option Word :=
  let q := s.popReturn c e
  if (q.2.core c).fatal.isSome then none else some q.1

/-- Does a return raise RETURN_MISMATCH (R260, R302)? -/
def State.returnMismatch (s : State) (c : Core) (e : Nat) (w : Syl) : Bool :=
  let u := s.core c
  sylUnit w == 3 && opMC w == 6 && u.stkMode && u.stkStrict &&
    (match s.topReturn c e with | some t => t.toNat / 4 != (u.reg 8).toNat / 4 | none => false)

/-- The first fault of a bundle that is found before its M access, in the order of R268. e is the ECC outcome of a return-stack load. -/
def State.issueFail (s : State) (c : Core) (b : List Nat) (e : Nat) : Option Fail :=
  let u := s.core c
  let at' (code : Nat) (w : Syl) : Option Fail := some ⟨code, sylUnit w, 0, 0⟩
  if !unitsRise b || bundleClash b then some ⟨1, 0, 0, 0⟩
  else match b.find? u.sylIllegal with
  | some w => at' 2 w
  | none =>
    match b.find? (fun w => !u.sup && sylPriv w) with
    | some w => at' 3 w
    | none =>
      match b.find? (fun w => decide (sylUnit w ≤ 1) && arithXY w (u.reg (raXY w)) (u.reg (rbXY w))) with
      | some w => at' 0xB w
      | none =>
        match b.find? u.frameError with
        | some w => at' 0xD w
        | none => match b.find? (s.returnMismatch c e) with
          | some w => at' 0xC w
          | none => none

/-- The M syllable that accesses memory, if the bundle has one. -/
def memSyl (b : List Nat) : Option Syl := b.find? fun w => sylUnit w == 2 && (sylLoads w || sylStores w)

/-- Does a divide in progress hold the bundle at issue (R249, R295)? -/
def CoreUnit.divHolds (u : CoreUnit) (b : List Nat) : Bool :=
  match u.div with
  | none => false
  | some d => b.any fun w => isDivide w || ((sylWrites w :: sylReads w).any fun r => r != 0 && u.phys r == d.phys)

/-- The result of an X or Y syllable goes to its register; a divide's waits for the divider (R295). -/
def writeXY (old : CoreUnit) (u : CoreUnit) (w : Syl) : CoreUnit :=
  let r := execXY w old.flags (old.reg (raXY w)) (old.reg (rbXY w)) (old.reg (rdXY w))
  let u := if sylF w && formXY (opXY w) != .k then u.setFlags r.2 else u
  if isDivide w then { u with div := some ⟨if rdXY w = 0 then 0 else old.phys (rdXY w), r.1.toNat⟩ }
  else if opXY w = 0x18 then u
  else u.setReg (rdXY w) r.1

/-- An M syllable's part that needs no access: MFC, and a load's value (R297, R299). -/
def writeM (c : Core) (old : CoreUnit) (v : Word) (u : CoreUnit) (w : Syl) : CoreUnit :=
  if sylLoads w then u.setReg (rM w) (loadValue w v)
  else if opMC w = 13 then
    let n := bits w 7 0
    let u := u.setReg (rM w) (old.ctl c n)
    if n = 0x38 then { u with cycleHi := old.cycle / 2 ^ 32 } else u
  else u

/-- MTC after the other syllables (R299); EI and DI win over it (R309). -/
def controlsAfter (old : CoreUnit) (b : List Nat) (u : CoreUnit) : CoreUnit :=
  let u := b.foldl (fun u w => if sylUnit w == 2 && opMC w == 14 then u.setCtl (bits w 7 0) (old.reg (rM w)) else u) u
  b.foldl (fun u w => if sylUnit w == 3 && opMC w == 10 then { u with ie := true }
    else if sylUnit w == 3 && opMC w == 11 then { u with ie := false } else u) u

/-- A call (R253, R254, R259, R260, R302): back is the address of the next bundle. -/
def State.doCall (s : State) (c : Core) (target back : Nat) : State :=
  let u := s.core c
  if 65535 ≤ u.frames.length then s.coreFatal c 2
  else
    let s := s.modCore c fun u => u.setReg 28 (BitVec.ofNat 32 back)
    let s := s.spillFor c 5
    let s := if u.stkMode && (s.core c).fatal.isNone then s.pushReturn c (BitVec.ofNat 32 back) else s
    if (s.core c).fatal.isSome then s
    else s.modCore c fun u => { u with
      base := (u.base + 5) % 30, resident := u.resident + 5, frames := false :: u.frames, pc := target }

/-- A return slides the window back by n quads and fills what is not resident (R253, R255); e is the ECC outcome of the first load. -/
def State.slideBack (s : State) (c : Core) (n e : Nat) : State :=
  (s.modCore c fun u => { u with base := (u.base + 30 - n) % 30, resident := u.resident - n, frames := u.frames.tail }).fillFrame c e

/-- What is left of the ECC outcome e of the first load of a return after a pop in divided mode. -/
def CoreUnit.afterPop (u : CoreUnit) (e : Nat) : Nat := if u.stkMode && u.rstack.isEmpty then 0 else e

/-- RET (R259, R260); x8 as it stood before the bundle, and e the ECC outcome of its first load. -/
def State.doRet (s : State) (c : Core) (x8 : Word) (e : Nat) : State :=
  let q := if (s.core c).stkMode then s.popReturn c e else (x8, s)
  let e := (s.core c).afterPop e
  if (q.2.core c).fatal.isSome then q.2
  else (q.2.modCore c fun u => { u with pc := 4 * (q.1.toNat / 4) }).slideBack c 5 e

/-- RETI (R259, R260, R274): PC and PSW come back, NEST falls by one. -/
def State.doReti (s : State) (c : Core) (x8 x9 : Word) (e : Nat) : State :=
  let q := if (s.core c).stkMode then s.popReturn c e else (x9, s)
  let e := (s.core c).afterPop e
  let p := if (q.2.core c).stkMode then q.2.popReturn c e else (x8, q.2)
  let e := (q.2.core c).afterPop e
  if (p.2.core c).fatal.isSome then p.2
  else
    let w := q.1
    (p.2.modCore c fun u => { (u.setFlags (pswFlags w)) with
      lvl := bits w.toNat 23 20, ie := w.getLsbD 1, sup := w.getLsbD 0, nest := u.nest - 1, pc := 4 * (p.1.toNat / 4) }).slideBack c 6 e

/-- The target of a displacement in words from the bundle (R301). -/
def CoreUnit.disp (u : CoreUnit) (width v : Nat) : Nat := (BitVec.ofInt 32 ((u.pc : Int) + 4 * sext width v)).toNat

/-- The C syllable acts after the rest of the bundle (R301-R304); back is the address of the next bundle, where the PC stands already, and e the ECC
outcome of the first load of a return. TRAP and BREAK are no faulting syllables, so x10 has no UNIT code (R270, R303). -/
def State.coreTransfer (s : State) (c : Core) (old : CoreUnit) (w : Syl) (back e : Nat) : State :=
  let go (t : Nat) : State := s.modCore c fun u => { u with pc := t }
  let ra := old.reg (rM w)
  match opMC w with
  | 0 => if condHolds (bits w 23 20) old.flags then go (old.disp 20 (bits w 19 0)) else s
  | 1 => if ra = 0 then go (old.disp 19 (bits w 18 0)) else s
  | 2 => if ra = 0 then s else go (old.disp 19 (bits w 18 0))
  | 3 => s.doCall c (old.disp 24 (bits w 23 0)) back
  | 4 => s.doCall c (4 * (ra.toNat / 4)) back
  | 5 => go (4 * (ra.toNat / 4))
  | 6 => s.doRet c (old.reg 8) e
  | 7 => s.doReti c (old.reg 8) (old.reg 9) e
  | 8 => s.coreRaise c 0x10 4 0 back 0
  | 9 => s.coreRaise c 0x11 4 0 back 0
  | 12 => s.modCore c fun u => { u with waiting := true }
  | _ => s

/-- A bundle completes with the value its load got (R248): results, PARK, controls, the transfer, then WINDOW_LOW (R257, R268). An MTC comes after
every other syllable and before a window slide (R299). -/
def State.finishBundle (s : State) (c : Core) (b : List Nat) (v : Word) (e : Nat) : State :=
  let old := s.core c
  let back := (old.pc + 4 * b.length) % 2 ^ 32
  let s := s.modCore c fun u =>
    let u := b.foldl (fun u w => if sylUnit w ≤ 1 then writeXY old u w else if sylUnit w = 2 then writeM c old v u w else u) u
    { u with pc := back, first := none, strand := .none, inFlight := [], lgrWord := none }
  let s := if b.any (fun w => sylUnit w == 2 && opMC w == 12) then s.drainBuf c else s
  let s := if b.any (fun w => sylUnit w == 3 && opMC w == 13) then s.spillFor c 24 else s
  let s := s.modCore c (controlsAfter old b)
  let s := match b.find? (fun w => sylUnit w == 3) with | some w => s.coreTransfer c old w back e | none => s
  let u := s.core c
  if u.lowDue && u.fatal.isNone then
    let s := s.modCore c fun u => { u with lowDue := false }
    if u.exc.isSome then s else s.coreRaise c 0xE 4 0 u.pc 0
  else s

/-- A bundle ends in a fault (R268): the exception waits for its entry and points at the bundle. -/
def State.failBundle (s : State) (c : Core) (f : Fail) : State :=
  let u := s.core c
  (s.coreRaise c f.code f.unit f.bus u.pc (BitVec.ofNat 32 f.info)).modCore c fun u => { u with strand := .none, inFlight := [], lgrWord := none }

/-- The bundle's access is made now, and the bundle ends. -/
def State.accessBundle (s : State) (n : BusNote) (c : Core) (b : List Nat) (w : Syl) : State :=
  match s.mAccess n c w with
  | (.inr f, t) => t.failBundle c f
  | (.inl v, t) => t.finishBundle c b v n.fill

/-- Does a core run: released from reset, not in a boot-ROM service, not frozen, in no fatal condition? -/
def State.coreRuns (s : State) (c : Core) : Bool :=
  let u := s.core c
  u.on && !u.rom && u.fatal.isNone && s.live (domCore c)

/-- Can a core issue its next bundle (R248, R280, R281, R286, R304)? Not with an access outstanding, an exception to enter, a WAIT, or an
interrupt to take, which the first bundle of a handler goes before; a core stops at the bundle boundary at which a freeze finds it. -/
def State.canIssue (s : State) (c : Core) : Bool :=
  let u := s.core c
  s.coreRuns c && !s.freezing && u.strand == .none && u.exc.isNone && !u.waiting && !(u.ie && u.first.isNone && (s.qualifying c).isSome)

/-- The word a Strand access would write into the Ledger's window: a supervisor's store to LGR_WR_DATA (R90, R100). -/
def CoreUnit.ledgerWord (u : CoreUnit) (w : Syl) : Option Word :=
  if sylStores w && sylSize w == 4 && u.effective w == Reg.LGR_WR_DATA && !u.userAt Reg.LGR_WR_DATA then some (u.reg (rM w)) else none

/-- BUNDLE_ISSUE (R248, R268): a core issues the bundle at its PC. cyc is the core cycles since its last step; fe and note.ecc tell of an error
met by the fetch and by the data access. A bundle whose access leaves on the Strand ends with STRAND_ACCESS_COMPLETE. A bundle that does not get its
turn at an SRAM block stays to be issued (R137). -/
def execBundleIssue (c : Core) (cyc fe : Nat) (note : BusNote) (s : State) : Res :=
  .next (if !s.canIssue c || s.turnWaits c note.turn then s else
    let s := s.modCore c fun u => { u with cycle := (u.cycle + cyc) % 2 ^ 64 }
    match s.fetchBundle c fe with
    | (.inr f, t) => t.failBundle c f
    | (.inl b, t) =>
      if (t.core c).divHolds b then t
      else
        let t := t.modCore c fun u => { u with lastPc := u.pc }
        match t.issueFail c b note.fill with
        | some f => t.failBundle c f
        | none =>
          match memSyl b with
          | none => t.finishBundle c b 0 note.fill
          | some w =>
            match t.accessFail c w with
            | some f => t.failBundle c f
            | none =>
              if strandAccess w ((t.core c).effective w) then
                t.modCore c fun u => { u with strand := .waiting, inFlight := b, lgrWord := u.ledgerWord w }
              else t.accessBundle note c b w)

/-- The core whose PWR_STOP write has made a request that stands (R143). -/
def State.stopAsked (s : State) (c : Core) : Bool := match c with | .a => s.pwr.reqA.isSome | .b => s.pwr.reqB.isSome

/-- STRAND_ACCESS_COMPLETE (R136, R143): the outstanding access is made and the bundle ends. A write the reconcile snapshot holds waits (R110), and
a PWR_STOP write stays incomplete while its request stands. -/
def execStrandAccessComplete (c : Core) (note : BusNote) (s : State) : Res :=
  .next (
    let u := s.core c
    match u.strand, memSyl u.inFlight with
    | .waiting, some w =>
      let a := u.effective w
      if sylStores w && s.writeStalls a (sylSize w) then s
      else if sylStores w && a == Reg.PWR_STOP then
        match s.mAccess note c w with
        | (.inr f, t) => t.failBundle c f
        | (.inl v, t) =>
          if !s.stopAsked c && t.stopAsked c then t.modCore c fun u => { u with strand := .stopping }
          else t.finishBundle c u.inFlight v note.fill
      else s.accessBundle note c u.inFlight w
    | .finished, _ => s.finishBundle c u.inFlight 0 note.fill
    | _, _ => s)

/-- STRAND_TIMEOUT (R173, R284): the access is not acknowledged within 2 µs. -/
def execStrandTimeout (c : Core) (s : State) : Res :=
  .next (
    let u := s.core c
    match u.strand, memSyl u.inFlight with
    | .waiting, some w =>
      let a := u.effective w
      let s := match addrDomain a with
        | some d => s.wr F.PWR_FAIL_FAIL (orBit (s.rd F.PWR_FAIL_FAIL) d)
        | none => s
      s.failBundle c ⟨9, 2, busTimeout, a⟩
    | _, _ => s)

/-- STORE_BUFFER_WRITE_BACK (R251, R283): the oldest buffered store reaches SRAM; an error marks its word. Where the other core accesses
its block in the same core cycle it waits unless it is its turn (R137). -/
def execStoreBufferWriteBack (c : Core) (note : WriteBack) (s : State) : Res :=
  .next (match (s.core c).sbuf with
    | [] => s
    | e :: r =>
      if note.turn && s.turnWaits c (2 ^ ((e.1 - sramBase) / 0x10000)) then s else
      let s := (s.corePut c e.1 e.2).modCore c fun u => { u with sbuf := r }
      if note.bad then { s with eccBad := insertNat s.eccBad (e.1 - e.1 % 4) } else s)

/-- DIVIDE_COMPLETE (R295): the divider writes its result. -/
def execDivideComplete (c : Core) (s : State) : Res :=
  .next (if s.coreRuns c then s.modCore c CoreUnit.endDivide else s)

/-- Is a core at a bundle boundary with nothing to enter first (R280, R281)? -/
def State.atBoundary (s : State) (c : Core) : Bool :=
  let u := s.core c
  s.coreRuns c && !s.freezing && u.strand == .none && u.exc.isNone && u.first.isNone

/-- INTERRUPT_ENTRY (R271, R272, R278, Table 07-4): the vector R271 chooses is taken. One with no handler raises NO_HANDLER. Its spill
may have to wait a turn (R282). -/
def execInterruptEntry (e : EntryNote) (s : State) : Res :=
  let c := e.c
  .next (match s.qualifying c with
    | none => s
    | some (v, l) =>
      if !s.atBoundary c || !(s.core c).ie || s.turnWaits c e.turn.toNat then s else
      let ret := (s.core c).pc
      let s := if e.tie then s.count (F.EVT_COINCIDE_COUNT.own c) 1 else s
      let s := s.modCore c fun u => { u with pulses := u.pulses.filter fun p => p.1 != v }
      let h := 4 * s.rd ((F.EVT_VEC_ADDR v).own c)
      if h = 0 then (s.modCore c fun u => { u with lvl := l, waiting := false }).coreRaise c 0xF 4 0 ret 0
      else s.coreEnter c ret (BitVec.ofNat 32 (2 ^ 31 + v)) (BitVec.ofNat 32 l) (some l) h 0)

/-- EXCEPTION_ENTRY (R270, R275): the exception that is raised is entered. Its spill may have to wait a turn (R282). -/
def execExceptionEntry (note : EntryTurn) (s : State) : Res :=
  let c := note.c
  .next (match (s.core c).exc with
    | none => s
    | some e =>
      if !s.coreRuns c || s.turnWaits c note.turn.toNat then s else
      let h := 4 * s.rd ((F.EVT_EXC_ADDR e.code).own c)
      if h = 0 then s.coreFatal c 4
      else s.coreEnter c e.ret (BitVec.ofNat 32 e.x10) (BitVec.ofNat 32 e.x11) none h e.code)

/-- WAIT_RELEASE (R304, R311): an enabled vector above PSW.LVL is pending, and the WAIT ends. -/
def execWaitRelease (c : Core) (s : State) : Res :=
  .next (if s.coreRuns c && (s.core c).waiting && (s.qualifying c).isSome then s.modCore c fun u => { u with waiting := false } else s)

/-- WATCHDOG_START (R276): EVT_WDOG_CTL is written with EN = 1. -/
def execWatchdogStart (who : Agent) (timeout : BitVec 24) (s : State) : Res :=
  .next (if (s.core (s.privateOf who)).on then
    s.busWrite {} who Reg.EVT_WDOG_CTL (leBytes 4 (2 ^ 31 + timeout.toNat)) else s.busErr busDomainOff)

/-- WATCHDOG_KICK (R276, R278): EVT_WDOG_KICK is written; the count, which is not held here, restarts. tie says that it lands on the edge on which
the count ends, and is taken. -/
def execWatchdogKick (who : Agent) (key : BitVec 8) (tie : Bool) (s : State) : Res :=
  .next (if (s.core (s.privateOf who)).on then
    let c := s.privateOf who
    let s := s.busWrite {} who Reg.EVT_WDOG_KICK (leBytes 4 (key.toNat * 2 ^ 24))
    if tie && key == 0xD2 && !who.user && s.on (F.EVT_WDOG_CTL_EN.own c) then s.count (F.EVT_COINCIDE_COUNT.own c) 1 else s
  else s.busErr busDomainOff)

end Sys2Proof.Machine
end

