-- ==== Sys2Proof/Machine/Audit.lean ====
section
/-! DEFINITION. The JTAG port and the Audit chain (R617-R622), the release of a freeze (R623), and lifecycle commands by either path (R628-R630). -/

namespace Sys2Proof.Machine

/-- Is the Audit chain's access refused by the lifecycle state (R625, Table 19-3)? -/
def State.auditLocked (s : State) : Bool := s.rd F.AUD_LC_STATE_STATE == 2 && !s.on F.AUD_LC_STATE_UNLOCKED

/-- Does an address lie among the private views (Table 19-5)? -/
def privateView (a : Nat) : Bool :=
  runIn a 4 0xE0000800 0x200 || runIn a 4 0xE0000A00 0x80 || a == 0xE0000B00 || runIn a 4 0xE0000C00 0x200

/-- A private view as it reads. -/
def CoreUnit.viewRead (u : CoreUnit) (c : Core) (a : Nat) : Word :=
  if a < 0xE0000A00 then u.ctl c ((a - 0xE0000800) / 4)
  else if a < 0xE0000B00 then u.reg ((a - 0xE0000A00) / 4)
  else if a = 0xE0000B00 then BitVec.ofNat 32 u.pc
  else u.getPhys ((a - 0xE0000C00) / 4)

/-- A private view written: the held state takes it at once (R620); read-only and locked control registers keep their values. -/
def CoreUnit.viewWrite (u : CoreUnit) (a : Nat) (w : Word) : CoreUnit :=
  if a < 0xE0000A00 then { ({ u with sup := true }.setCtl ((a - 0xE0000800) / 4) w) with sup := u.sup }
  else if a < 0xE0000B00 then u.setReg ((a - 0xE0000A00) / 4) w
  else if a = 0xE0000B00 then { u with pc := 4 * (w.toNat / 4) }
  else u.setPhys ((a - 0xE0000C00) / 4) w

/-- Is a write of the Audit chain held for release (R170, R619)? -/
def State.auditQueues (s : State) (a : Nat) : Bool :=
  match regBlock a with
  | none => false
  | some n => n != 17 && s.domOn (blockDomain n) &&
      (s.frozen (blockDomain n) || (s.on F.AUD_STATUS_FROZEN && (a == Reg.PWR_SET || a == Reg.PWR_CLR)))

/-- What an access of the Audit chain gives: its result code (Table 19-4), the word read, and the state after it. -/
def State.auditAccess (s : State) (n : BusNote) (op a : Nat) (w : Word) : Nat × Word × State :=
  let c := s.jcore
  let ans (t : State) : Nat × Word × State :=
    match t.resp with
    | .word v => (0, v, t)
    | .busError e => (e, 0, t)
    | _ => (0, 0, t)
  if s.auditLocked then (8, 0, s)
  else if privateView a then
    (if !((s.core c).on && s.frozen (domCore c)) then (0xA, 0, s)
    else if op = 2 then (0, 0, s.modCore c fun u => u.viewWrite a w)
    else (0, (s.core c).viewRead c a, s))
  else if op = 2 then
    (if s.auditQueues a && decide (16 ≤ s.aud.queue.length) then (0xC, 0, s)
    else
      let t := s.busWrite n .jtag a (leBytes 4 w.toNat)
      if s.auditQueues a then (0xB, 0, t) else ans t)
  else if op = 3 ∧ (regBlock a).any (fun b => (snapBlocks s.aud.snapOf).contains b) then (0, rfGet s.aud.snap a, s)
  else ans (s.busRead n .jtag a 4)

/-- AUD_ACCESS is selected and Update-DR starts an access (R618). One that is in progress goes on. -/
def State.auditStart (s : State) (op : Nat) (a : BitVec 32) (w : Word) : State :=
  if !s.fl.vinValid then s else
  let s := (if s.aud.tap.ir = 0x14 then s else s.jtagLoad 0x14).reply .none
  if s.aud.tap.ir ≠ 0x14 ∨ s.aud.tap.busy then s
  else { s with aud := { s.aud with tap := { s.aud.tap with addr := a.toNat - a.toNat % 4, data := w, op := op, busy := true, code := 9 } } }

/-- AUD_ACCESS_READ (R618). -/
def execAudAccessRead (a : BitVec 32) (s : State) : Res := .next (s.auditStart 1 a 0)

/-- AUD_ACCESS_WRITE (R618, R619). -/
def execAudAccessWrite (a : BitVec 32) (w : Word) (s : State) : Res := .next (s.auditStart 2 a w)

/-- AUD_ACCESS_SNAPSHOT (R618, R621). -/
def execAudAccessSnapshot (a : BitVec 32) (s : State) : Res := .next (s.auditStart 3 a 0)

/-- AUD_ACCESS_DONE (R618): the access is made, and the next Capture-DR takes its data and code. A write the reconcile snapshot holds waits (R110). -/
def execAudAccessDone (note : BusNote) (s : State) : Res :=
  .next (
    let t := s.aud.tap
    if !t.busy || (t.op == 2 && s.writeStalls t.addr 4) then s.reply .none else
    let r := s.auditAccess note t.op t.addr t.data
    let s := r.2.2
    let s : State := { s with aud := { s.aud with tap := { s.aud.tap with busy := false, code := r.1, value := r.2.1 } } }
    s.reply (.bytes r.1 (leBytes 4 r.2.1.toNat)))

/-- TAP_RESET (R617): TRST_N or Test-Logic-Reset; a load that is not at its end is cut off (R95). -/
def execTapReset (s : State) : Res :=
  .next (let s := s.cutLoad.reply .none
    { s with aud := { s.aud with tap := { s.aud.tap with ir := 1, hold := 0 } } })

/-- A JTAG instruction loaded while the device has supply. -/
def State.jtagGo (s : State) (ir : Nat) (act : State → State) : State :=
  if !s.fl.vinValid then s
  else
    let s := (s.jtagLoad ir).reply .none
    if s.aud.tap.ir = ir then act s else s

/-- The pads held by an instruction (R622): 1 EXTEST, 2 CLAMP, 3 HIGHZ. -/
def State.holdPads (s : State) (k : Nat) : State := { s with aud := { s.aud with tap := { s.aud.tap with hold := k } } }

/-- Cells shifted into the boundary-scan register, 633 of them (R664), with the cells captured as the answer. -/
def State.scanCells (s : State) (cells : Option (List Bool)) (seen : List Bool) : State :=
  let s := match cells with
    | some b => { s with aud := { s.aud with tap := { s.aud.tap with bsr := (List.range 633).map fun i => b.getD i false } } }
    | none => s
  s.reply (.bytes 0 (((List.range 633).map fun i => seen.getD i false).map fun b => if b then 1 else 0))

/-- EXTEST (R622): the pads are held from the boundary-scan register; cells are shifted in when a scan follows, seen are the cells it captures. -/
def execExtest (cells : Option (List Bool)) (seen : List Bool) (s : State) : Res :=
  .next (s.jtagGo 0x00 fun s => (s.holdPads 1).scanCells cells seen)

/-- IDCODE (R617, Table 19-2). -/
def execIdcode (s : State) : Res := .next (s.jtagGo 0x01 fun s => s.reply (.word 0x1730074B))

/-- SAMPLE/PRELOAD (R617): the boundary-scan register captures the balls and takes the cells shifted in. -/
def execSamplePreload (cells : Option (List Bool)) (seen : List Bool) (s : State) : Res :=
  .next (s.jtagGo 0x02 fun s => s.scanCells cells seen)

/-- CLAMP (R622). -/
def execClamp (s : State) : Res := .next (s.jtagGo 0x04 fun s => s.holdPads 2)

/-- HIGHZ (R622). -/
def execHighz (s : State) : Res := .next (s.jtagGo 0x05 fun s => s.holdPads 3)

/-- AUD_FREEZE (R609): a freeze request at Update-IR. -/
def execAudFreeze (s : State) : Res := .next (s.jtagGo 0x10 fun s => s.freezeRequest 3)

/-- AUD_RELEASE (R623). -/
def execAudRelease (s : State) : Res := .next (s.jtagGo 0x11 fun s => s.releaseBy 1)

/-- AUD_STAT (R617): AUD_STATUS at Capture-DR. -/
def execAudStat (s : State) : Res := .next (s.jtagGo 0x12 fun s => s.reply (.word (s.word Reg.AUD_STATUS)))

/-- LC_NONCE (R630): a new nonce at Capture-DR. -/
def execLcNonce (s : State) : Res :=
  .next (s.jtagGo 0x20 fun s => let t := s.makeNonce; t.reply (.bytes 0 t.nonceBytes))

/-- LC_CMD (R629): a command block of 33 words is shifted in and submitted. -/
def execLcCmd (words : List Word) (s : State) : Res :=
  .next (s.jtagGo 0x21 fun s => s.lcSubmit ((List.range 33).map fun i => words.getD i 0))

/-- LC_RESULT (R617): AUD_LC_RESULT at Capture-DR. -/
def execLcResult (s : State) : Res := .next (s.jtagGo 0x22 fun s => s.reply (.word (s.word Reg.AUD_LC_RESULT)))

/-- The instruction codes of Table 19-2. -/
def jtagCodes : List Nat := [0x00, 0x01, 0x02, 0x04, 0x05, 0x10, 0x11, 0x12, 0x14, 0x18, 0x20, 0x21, 0x22, 0xFF]

/-- BYPASS (R617): the code 0xFF, one that Table 19-2 does not name, or one that is refused now. Any other code is its own instruction's. -/
def execBypass (code : BitVec 8) (s : State) : Res :=
  .next (
    let ir := code.toNat
    if ir != 0xFF && jtagCodes.contains ir then (if s.jtagTakes ir then s else s.jtagGo ir id)
    else s.jtagGo 0xFF fun s => s.reply (.word 0))

/-- The writes held during a freeze are applied in order before any island resumes (R619). -/
def State.applyQueue (s : State) : State :=
  let q := s.aud.queue
  q.foldl (fun s p => if s.domOn (blockDomain (p.1 / 65536 % 256)) then s.blockWrite {} .jtag p.1 p.2 else s)
    { s with aud := { s.aud with queue := [] } }

/-- What a release brings back, each island under its own rule (R410, R472, R560, R607). A SEAL operation goes on from
where it stopped (R637). -/
def State.resumeIslands (s : State) (kbd : Bool) : State :=
  let s := s.lampFreeze.chainRelease.panelRelease.adcRelease
  let s := if kbd then s.kbdRelease else s
  s.releaseHits

/-- Steps 12 to 14 of first light, when a freeze held them (R41). -/
def State.startHeld (s : State) (bad fw : Nat) : State :=
  if s.fl.waitFreeze then ({ s with fl := { s.fl with waitFreeze := false } } : State).startFirmware bad fw else s

/-- FREEZE_RELEASE_APPLY (R611, R619, R623, R640): a release that has begun waits for an access in progress, applies the held writes, and the islands
resume; a request held meanwhile is then applied. fw is AO_FL_TFW and bad the domains that fail, where firmware starts after the freeze. -/
def execFreezeReleaseApply (bad : BitVec 48) (fw : BitVec 16) (s : State) : Res :=
  .next (match s.aud.releasing with
    | none => s
    | some cause =>
      if !s.on F.AUD_STATUS_FROZEN || s.aud.tap.busy then s else
      let kbd := s.domOn domKBD && s.frozen domKBD
      let s := ((s.applyQueue.freezeEnd cause).resumeIslands kbd).startHeld bad.toNat fw.toNat
      match s.aud.held with
      | some c => if s.ready then s.freezeStart c else s
      | none => s)

/-- A block comes by firmware, which fills AUD_LC_BUF and writes GO, or by the JTAG instruction LC_CMD. -/
def State.lcBy (s : State) (path : Option Agent) (w : List Word) : State :=
  match path with
  | none => s.jtagGo 0x21 fun s => s.lcSubmit w
  | some who => s.accessAud who fun s =>
    let s := (List.range 33).foldl (fun s i => s.setWord (Reg.AUD_LC_BUF i) (w.getD i 0)) s
    s.lcCmdWrite 0x7A000001

/-- INSTALL_KEY (R628): payload is key X and key Y. -/
def execInstallKey (path : Option Agent) (slot signer : BitVec 8) (payload sig : List Word) (s : State) : Res :=
  .next (s.lcBy path (blockOf 1 slot signer payload sig))

/-- REVOKE (R628). -/
def execRevoke (path : Option Agent) (slot signer : BitVec 8) (sig : List Word) (s : State) : Res :=
  .next (s.lcBy path (blockOf 2 slot signer [] sig))

/-- ADVANCE (R624, R628). -/
def execAdvance (path : Option Agent) (state signer : BitVec 8) (sig : List Word) (s : State) : Res :=
  .next (s.lcBy path (blockOf 3 state signer [] sig))

/-- RAISE_EPOCH (R631). -/
def execRaiseEpoch (path : Option Agent) (epoch signer : BitVec 8) (sig : List Word) (s : State) : Res :=
  .next (s.lcBy path (blockOf 4 epoch signer [] sig))

/-- UNLOCK (R628). -/
def execUnlock (path : Option Agent) (signer : BitVec 8) (sig : List Word) (s : State) : Res :=
  .next (s.lcBy path (blockOf 5 0 signer [] sig))

/-- LOCK (R628). -/
def execLock (path : Option Agent) (s : State) : Res := .next (s.lcBy path (blockOf 6 0 0xFF [] []))

/-- NONCE (R630): AUD_LC_CMD.NONCE. -/
def execNonce (who : Agent) (key : BitVec 8) (s : State) : Res :=
  .next (s.accessAud who fun s => s.lcCmdWrite (BitVec.ofNat 32 (key.toNat * 2 ^ 24 + 2)))

end Sys2Proof.Machine
end

