-- ==== Sys2Proof/Machine/Reconcile.lean ====
section
/-! DEFINITION. The switch of a reconcile at its section's safe point and its wait limit (R112-R117, R126, R127, R130, Table 03-1). -/

namespace Sys2Proof.Machine

/-- Is the state one in which the section's safe point can come (Table 03-1)? What comes with a clock, a frame, a tick or a blanking is what the
row RECONCILE_SWITCH itself reports. -/
def State.safePoint (s : State) (code : Nat) : Bool :=
  match code with
  | 0x010 => s.activeMask == 0
  | 0x028 => s.fan.watched
  | 0x030 => s.hst.defer.isNone && s.twb.ports.all fun t => t.pec.isNone && t.tgt.isNone
  | 0x038 => !s.kbd.inFrame
  | 0x048 | 0x049 | 0x04A => s.atTransfer
  | 0x070 => s.vlt.commit.isNone
  | _ => true

/-- The registers of a block whose L fields have no more than their own word behind them; the write of any other register acts on more. -/
def loadsPlain (a : Nat) : Bool :=
  (decide (Reg.TC_CTRL 0 ≤ a) && decide (a < Reg.TC_CTRL 16) && decide (0x20 ≤ a % 0x80) && a % 0x10 != 0) || a == Reg.ADC_CMD

/-- One entry of a REGSET switch: the register's L fields take VALUE (Table 03-1), and what the register governs follows as for a
write. Read-only fields that show another section are no part of it. -/
def State.regsetEntry (s : State) (a v : Nat) : State :=
  match findReg (regsOfBlock (a / 65536 % 256)) a with
  | none => s
  | some d =>
    let old := (s.word a).toNat
    let fs := d.fields.filter fun f => f.isL && f.acc != .ro
    let put (x : Nat) : Nat := fs.foldl (fun x f => setBits x f.hi f.lo (bits v f.hi f.lo)) x
    if fs.isEmpty then s
    else if loadsPlain a then s.setWord a (BitVec.ofNat 32 (put old))
    else
      let quiet := d.fields.foldl (fun x f => if f.acc == .w1c || f.acc == .w1p then setBits x f.hi f.lo 0 else x) old
      s.blockWrite {} .jtag a (BitVec.ofNat 32 (put quiet))

/-- A REGSET section takes effect in its block. -/
def State.regsetApply (s : State) (t : SecTill) : State :=
  (List.range (u16At t.body 0)).foldl (fun s i =>
    s.regsetEntry (0x40000000 + 0x10000 * t.inst + u16At t.body (4 + 8 * i)) (u32At t.body (8 + 8 * i))) s

/-- The effect of a switch (Table 03-1), the new section being in its till; steps are the step records of the old SEQGRAPH. -/
def State.switched (s : State) (t : SecTill) (steps : List StepRec) : State :=
  match t.typ % 4096 with
  | 0x010 => s.remapGraph steps
  | 0x018 => s.calApply
  | 0x020 => s.routesChanged
  | 0x030 => s.tellersSwitched
  | 0x038 => s.kbdKeymap
  | 0x048 => s.pclkActual.judgePlanes.fetchLine 0
  | 0x04A => s.takeFields
  | 0x050 => s.lampPrioApply
  | 0x060 => s.regsetApply t
  | _ => s

/-- RECONCILE_SWITCH (R112, R113, R126, R130): the safe point has come, and the island switches to the staging copy. tie says that it comes on
the edge of the wait limit: it is taken. A TELLERS switch first releases the two-wire requests with FALLBACK, which its safe point waits for (R379). -/
def execReconcileSwitch (tie : Bool) (s : State) : Res :=
  .next (if !s.on F.TIL_STATUS_WAITING || s.on F.AUD_STATUS_FROZEN then s else
    match s.section' (s.rd F.TIL_STATUS_INDEX) with
    | none => s
    | some t =>
      if !s.domOn t.owner then s
      else if !s.safePoint (t.typ % 4096) then (if t.typ % 4096 = 0x030 ∧ s.hst.defer.isNone then s.releaseTwoWire else s)
      else
      let t : SecTill := { t with body := s.recon.stage, crc := s.recon.stageCrc }
      let s := if tie && s.recon.limit != 0 then s.count F.TIL_COINCIDE_COUNT 1 else s
      ((s.putSection t).switched t s.stepRecs).reconEnd 0 0xFFFF)

/-- RECONCILE_LIMIT (R114, R126, R130): LIMIT × 10 ms have passed since the snapshot. tie says that the owning island has sampled its safe point
before the withdrawal or on the same edge: the switch stands and RECONCILE_SWITCH reports it. -/
def execReconcileLimit (tie : Bool) (s : State) : Res :=
  .next (if !s.on F.TIL_STATUS_WAITING || s.recon.limit = 0 || s.on F.AUD_STATUS_FROZEN || tie then s else s.reconEnd 5 0xFFFF)

end Sys2Proof.Machine
end

