-- ==== Sys2Proof/Machine/Dispatch.lean ====
section
/-! DEFINITION. The dispatch of a command to its meaning: one arm for each constructor. -/

namespace Sys2Proof.Machine

def exec (i : Instr) (s : State) : Host.Outcome State Fault Refusal :=
  match i with
  | .vinAoValid xt32 pfailHigh bad => Sys2Proof.Machine.execVinAoValid xt32 pfailHigh bad s
  | .por => Sys2Proof.Machine.execPor s
  | .bor => Sys2Proof.Machine.execBor s
  | .watchdogExpiry c tie bad => Sys2Proof.Machine.execWatchdogExpiry c tie bad s
  | .ldr who key seq bad => Sys2Proof.Machine.execLdr who key seq bad s
  | .swr who key mask => Sys2Proof.Machine.execSwr who key mask s
  | .hrst => Sys2Proof.Machine.execHrst s
  | .espiResetDeassert => Sys2Proof.Machine.execEspiResetDeassert s
  | .backupCellRestart => Sys2Proof.Machine.execBackupCellRestart s
  | .bankPresent bank high => Sys2Proof.Machine.execBankPresent bank high s
  | .bankAbsent bank => Sys2Proof.Machine.execBankAbsent bank s
  | .recoveryFrame typ payload crc bad => Sys2Proof.Machine.execRecoveryFrame typ payload crc bad s
  | .recoveryByteGap tie => Sys2Proof.Machine.execRecoveryByteGap tie s
  | .ledgerWindowOpen who key store met => Sys2Proof.Machine.execLedgerWindowOpen who key store met s
  | .ledgerWindowClose who key store => Sys2Proof.Machine.execLedgerWindowClose who key store s
  | .ledgerWordWrite who w tie => Sys2Proof.Machine.execLedgerWordWrite who w tie s
  | .ledgerWindowIdle => Sys2Proof.Machine.execLedgerWindowIdle s
  | .ledgerCheck who store => Sys2Proof.Machine.execLedgerCheck who store s
  | .ledgerCheckDone => Sys2Proof.Machine.execLedgerCheckDone s
  | .lgrLoad => Sys2Proof.Machine.execLgrLoad s
  | .lgrLoadWord w => Sys2Proof.Machine.execLgrLoadWord w s
  | .lgrLoadCapture bad => Sys2Proof.Machine.execLgrLoadCapture bad s
  | .reconcileRequest who key limit arg => Sys2Proof.Machine.execReconcileRequest who key limit arg s
  | .reconcileSnapshot => Sys2Proof.Machine.execReconcileSnapshot s
  | .reconcileSwitch tie => Sys2Proof.Machine.execReconcileSwitch tie s
  | .reconcileLimit tie => Sys2Proof.Machine.execReconcileLimit tie s
  | .divergenceAudit => Sys2Proof.Machine.execDivergenceAudit s
  | .domainSet who key mask met => Sys2Proof.Machine.execDomainSet who key mask met s
  | .domainOnComplete d tie => Sys2Proof.Machine.execDomainOnComplete d tie s
  | .domainClear who key mask met => Sys2Proof.Machine.execDomainClear who key mask met s
  | .domainOffComplete d => Sys2Proof.Machine.execDomainOffComplete d s
  | .domainPowerFail d => Sys2Proof.Machine.execDomainPowerFail d s
  | .domainRetry d => Sys2Proof.Machine.execDomainRetry d s
  | .strandTimeout c => Sys2Proof.Machine.execStrandTimeout c s
  | .stopRequest who key ret waitlim tie => Sys2Proof.Machine.execStopRequest who key ret waitlim tie s
  | .stopPartnerTimeout => Sys2Proof.Machine.execStopPartnerTimeout s
  | .stopEntry die edge low => Sys2Proof.Machine.execStopEntry die edge low s
  | .wake src die bad => Sys2Proof.Machine.execWake src die bad s
  | .stopBudgetCheck die bad => Sys2Proof.Machine.execStopBudgetCheck die bad s
  | .xt32Fail bad => Sys2Proof.Machine.execXt32Fail bad s
  | .program who key => Sys2Proof.Machine.execProgram who key s
  | .eraseSector who key => Sys2Proof.Machine.execEraseSector who key s
  | .eraseHalf who key => Sys2Proof.Machine.execEraseHalf who key s
  | .blankCheck who key => Sys2Proof.Machine.execBlankCheck who key s
  | .flashAbort who key => Sys2Proof.Machine.execFlashAbort who key s
  | .flashCommandDone same => Sys2Proof.Machine.execFlashCommandDone same s
  | .flashScrubRead corrected bad => Sys2Proof.Machine.execFlashScrubRead corrected bad s
  | .sequencerCycle pg => Sys2Proof.Machine.execSequencerCycle pg s
  | .stepDelayElapsed n => Sys2Proof.Machine.execStepDelayElapsed n s
  | .railSettled n => Sys2Proof.Machine.execRailSettled n s
  | .pgLate n => Sys2Proof.Machine.execPgLate n s
  | .pgStuck n => Sys2Proof.Machine.execPgStuck n s
  | .seqFallLate n => Sys2Proof.Machine.execSeqFallLate n s
  | .dischargeTimeout rail => Sys2Proof.Machine.execDischargeTimeout rail s
  | .railRetryRestart rail => Sys2Proof.Machine.execRailRetryRestart rail s
  | .monitorSample m code => Sys2Proof.Machine.execMonitorSample m code s
  | .runSet who key met => Sys2Proof.Machine.execRunSet who key met s
  | .runClr who key met => Sys2Proof.Machine.execRunClr who key met s
  | .runToggle who key met => Sys2Proof.Machine.execRunToggle who key met s
  | .clearLock who key met => Sys2Proof.Machine.execClearLock who key met s
  | .stepReq who key arg => Sys2Proof.Machine.execStepReq who key arg s
  | .rearm who key arg => Sys2Proof.Machine.execRearm who key arg s
  | .forceOff who key arg => Sys2Proof.Machine.execForceOff who key arg s
  | .allOff who key => Sys2Proof.Machine.execAllOff who key s
  | .condSet who key arg met => Sys2Proof.Machine.execCondSet who key arg met s
  | .condClr who key arg => Sys2Proof.Machine.execCondClr who key arg s
  | .pfailFall => Sys2Proof.Machine.execPfailFall s
  | .pfailHoldElapsed tie => Sys2Proof.Machine.execPfailHoldElapsed tie s
  | .pfailRise => Sys2Proof.Machine.execPfailRise s
  | .pfailRecover => Sys2Proof.Machine.execPfailRecover s
  | .policyApply => Sys2Proof.Machine.execPolicyApply s
  | .vaultCommitRequest who arg => Sys2Proof.Machine.execVaultCommitRequest who arg s
  | .vaultGateOpen tie => Sys2Proof.Machine.execVaultGateOpen tie s
  | .vaultCommitDone readBackOk bad => Sys2Proof.Machine.execVaultCommitDone readBackOk bad s
  | .vaultWaitExpired => Sys2Proof.Machine.execVaultWaitExpired s
  | .hwCommitRetry => Sys2Proof.Machine.execHwCommitRetry s
  | .vaultDraftAppend who w => Sys2Proof.Machine.execVaultDraftAppend who w s
  | .vaultDraftClear who w => Sys2Proof.Machine.execVaultDraftClear who w s
  | .vaultFind who w bad => Sys2Proof.Machine.execVaultFind who w bad s
  | .daybookLog who w => Sys2Proof.Machine.execDaybookLog who w s
  | .daybookAppend => Sys2Proof.Machine.execDaybookAppend s
  | .reserveSample mv ma pfailHigh => Sys2Proof.Machine.execReserveSample mv ma pfailHigh s
  | .rsvMeasure who w => Sys2Proof.Machine.execRsvMeasure who w s
  | .reservePeriodElapsed => Sys2Proof.Machine.execReservePeriodElapsed s
  | .reserveMeasureStart => Sys2Proof.Machine.execReserveMeasureStart s
  | .reserveMeasureDone tNs tie => Sys2Proof.Machine.execReserveMeasureDone tNs tie s
  | .reserveMeasureTimeout => Sys2Proof.Machine.execReserveMeasureTimeout s
  | .bundleIssue c cyc fe note => Sys2Proof.Machine.execBundleIssue c cyc fe note s
  | .strandAccessComplete c note => Sys2Proof.Machine.execStrandAccessComplete c note s
  | .divideComplete c => Sys2Proof.Machine.execDivideComplete c s
  | .interruptEntry e => Sys2Proof.Machine.execInterruptEntry e s
  | .exceptionEntry e => Sys2Proof.Machine.execExceptionEntry e s
  | .waitRelease c => Sys2Proof.Machine.execWaitRelease c s
  | .watchdogStart who timeout => Sys2Proof.Machine.execWatchdogStart who timeout s
  | .watchdogKick who key tie => Sys2Proof.Machine.execWatchdogKick who key tie s
  | .eventAccept evs low contended edges => Sys2Proof.Machine.execEventAccept evs low contended edges s
  | .kxSwev who sw => Sys2Proof.Machine.execKxSwev who sw s
  | .kxForce who key src => Sys2Proof.Machine.execKxForce who key src s
  | .espiIoRead port n bad => Sys2Proof.Machine.execEspiIoRead port n bad s
  | .espiIoWrite port data us bad => Sys2Proof.Machine.execEspiIoWrite port data us bad s
  | .espiMemRead a n bad => Sys2Proof.Machine.execEspiMemRead a n bad s
  | .espiMemWrite a data bad => Sys2Proof.Machine.execEspiMemWrite a data bad s
  | .setConfiguration freq io pin od crc ch bad => Sys2Proof.Machine.execSetConfiguration freq io pin od crc ch bad s
  | .putVwire sys gen bad => Sys2Proof.Machine.execPutVwire sys gen bad s
  | .getVwire => Sys2Proof.Machine.execGetVwire s
  | .hostRstAck => Sys2Proof.Machine.execHostRstAck s
  | .oobRstAck => Sys2Proof.Machine.execOobRstAck s
  | .putOob pkt bad => Sys2Proof.Machine.execPutOob pkt bad s
  | .getOob => Sys2Proof.Machine.execGetOob s
  | .oobRxDeliver => Sys2Proof.Machine.execOobRxDeliver s
  | .oobSend who teller => Sys2Proof.Machine.execOobSend who teller s
  | .oobRelease who teller => Sys2Proof.Machine.execOobRelease who teller s
  | .tellerResponse who c w tie => Sys2Proof.Machine.execTellerResponse who c w tie s
  | .tellerDeadline d => Sys2Proof.Machine.execTellerDeadline d s
  | .kbcConsume => Sys2Proof.Machine.execKbcConsume s
  | .kbdResetComplete => Sys2Proof.Machine.execKbdResetComplete s
  | .kbcFirmwareRelease who eci w tie => Sys2Proof.Machine.execKbcFirmwareRelease who eci w tie s
  | .kbcPut who w => Sys2Proof.Machine.execKbcPut who w s
  | .kbcOutputLoad => Sys2Proof.Machine.execKbcOutputLoad s
  | .eciConsume => Sys2Proof.Machine.execEciConsume s
  | .eciQueryPush who w => Sys2Proof.Machine.execEciQueryPush who w s
  | .eciPut who w => Sys2Proof.Machine.execEciPut who w s
  | .nvxLoadDone => Sys2Proof.Machine.execNvxLoadDone s
  | .consoleRx b => Sys2Proof.Machine.execConsoleRx b s
  | .consoleTx who w => Sys2Proof.Machine.execConsoleTx who w s
  | .kbdFrameStart rows dt => Sys2Proof.Machine.execKbdFrameStart rows dt s
  | .kbdFrameBoundary => Sys2Proof.Machine.execKbdFrameBoundary s
  | .kbdLineMeasure rise => Sys2Proof.Machine.execKbdLineMeasure rise s
  | .kbdMeasurePeriod => Sys2Proof.Machine.execKbdMeasurePeriod s
  | .measure who => Sys2Proof.Machine.execMeasure who s
  | .typematicRepeat due => Sys2Proof.Machine.execTypematicRepeat due s
  | .clearKbc who => Sys2Proof.Machine.execClearKbc who s
  | .clearFw who => Sys2Proof.Machine.execClearFw who s
  | .kbcStagingMove => Sys2Proof.Machine.execKbcStagingMove s
  | .kbdFifoRead who => Sys2Proof.Machine.execKbdFifoRead who s
  | .kbdHostcfgWrite who w => Sys2Proof.Machine.execKbdHostcfgWrite who w s
  | .kbdWakeDetect sense => Sys2Proof.Machine.execKbdWakeDetect sense s
  | .kbdSenseUnmask sense => Sys2Proof.Machine.execKbdSenseUnmask sense s
  | .calendarTick => Sys2Proof.Machine.execCalendarTick s
  | .calendarSecond => Sys2Proof.Machine.execCalendarSecond s
  | .alarmMatch k => Sys2Proof.Machine.execAlarmMatch k s
  | .ppsEdge since tie => Sys2Proof.Machine.execPpsEdge since tie s
  | .holdover => Sys2Proof.Machine.execHoldover s
  | .calendarSet who key => Sys2Proof.Machine.execCalendarSet who key s
  | .calRateWrite who w => Sys2Proof.Machine.execCalRateWrite who w s
  | .calNowLoRead who => Sys2Proof.Machine.execCalNowLoRead who s
  | .calNowHiRead who => Sys2Proof.Machine.execCalNowHiRead who s
  | .vbatSample mv => Sys2Proof.Machine.execVbatSample mv s
  | .xt32Loss => Sys2Proof.Machine.execXt32Loss s
  | .xt32Return => Sys2Proof.Machine.execXt32Return s
  | .timerWrap n => Sys2Proof.Machine.execTimerWrap n s
  | .compareMatch n m => Sys2Proof.Machine.execCompareMatch n m s
  | .start who note => Sys2Proof.Machine.execStart who note s
  | .stop who n adv => Sys2Proof.Machine.execStop who n adv s
  | .clear who n => Sys2Proof.Machine.execClear who n s
  | .timerHiWrite who n u w => Sys2Proof.Machine.execTimerHiWrite who n u w s
  | .timerLoWrite who n u v => Sys2Proof.Machine.execTimerLoWrite who n u v s
  | .timerLoRead who n u adv => Sys2Proof.Machine.execTimerLoRead who n u adv s
  | .timerHiRead who n u adv => Sys2Proof.Machine.execTimerHiRead who n u adv s
  | .capture n m rising adv tie => Sys2Proof.Machine.execCapture n m rising adv tie s
  | .captureTimeout n m => Sys2Proof.Machine.execCaptureTimeout n m s
  | .snapshot who advs => Sys2Proof.Machine.execSnapshot who advs s
  | .adcTrigger who lists => Sys2Proof.Machine.execAdcTrigger who lists s
  | .adcPassStart => Sys2Proof.Machine.execAdcPassStart s
  | .adcEntryDone x raw raw2 tie => Sys2Proof.Machine.execAdcEntryDone x raw raw2 tie s
  | .adcPassDone x => Sys2Proof.Machine.execAdcPassDone x s
  | .adcSwap => Sys2Proof.Machine.execAdcSwap s
  | .reliefCalibrationDone x vz lo hi => Sys2Proof.Machine.execReliefCalibrationDone x vz lo hi s
  | .badSliceRetry x => Sys2Proof.Machine.execBadSliceRetry x s
  | .survey who => Sys2Proof.Machine.execSurvey who s
  | .surveyPeriod => Sys2Proof.Machine.execSurveyPeriod s
  | .surveyDone raws => Sys2Proof.Machine.execSurveyDone raws s
  | .sensorFaultSet c => Sys2Proof.Machine.execSensorFaultSet c s
  | .sensorFaultClear c => Sys2Proof.Machine.execSensorFaultClear c s
  | .twbGo who p => Sys2Proof.Machine.execTwbGo who p s
  | .twbTransactionStart p => Sys2Proof.Machine.execTwbTransactionStart p s
  | .twbTransactionEnd p e => Sys2Proof.Machine.execTwbTransactionEnd p e s
  | .twbRetry p => Sys2Proof.Machine.execTwbRetry p s
  | .abort who p => Sys2Proof.Machine.execAbort who p s
  | .busClear who p => Sys2Proof.Machine.execBusClear who p s
  | .twbClockLowTimeout p cut tie => Sys2Proof.Machine.execTwbClockLowTimeout p cut tie s
  | .twbTargetTimeout p tie => Sys2Proof.Machine.execTwbTargetTimeout p tie s
  | .twbStuckTimeout p scl sda freed => Sys2Proof.Machine.execTwbStuckTimeout p scl sda freed s
  | .twbBusFree p alertLow => Sys2Proof.Machine.execTwbBusFree p alertLow s
  | .twbTargetTransaction p addr read wrote n sr won => Sys2Proof.Machine.execTwbTargetTransaction p addr read wrote n sr won s
  | .hostNotify p b => Sys2Proof.Machine.execHostNotify p b s
  | .twbAlertWrite who p w => Sys2Proof.Machine.execTwbAlertWrite who p w s
  | .autoAra p alertLow => Sys2Proof.Machine.execAutoAra p alertLow s
  | .twbAraRead who p => Sys2Proof.Machine.execTwbAraRead who p s
  | .sensorSlotPoll k => Sys2Proof.Machine.execSensorSlotPoll k s
  | .fanLoopPeriod n => Sys2Proof.Machine.execFanLoopPeriod n s
  | .fanTachEdge n dt rel phase tie => Sys2Proof.Machine.execFanTachEdge n dt rel phase tie s
  | .fanTachLapse n => Sys2Proof.Machine.execFanTachLapse n s
  | .fanKickEnd n => Sys2Proof.Machine.execFanKickEnd n s
  | .fanStall n => Sys2Proof.Machine.execFanStall n s
  | .fanStallClear n => Sys2Proof.Machine.execFanStallClear n s
  | .fanPumpLow n => Sys2Proof.Machine.execFanPumpLow n s
  | .fanPumpRecover n => Sys2Proof.Machine.execFanPumpRecover n s
  | .fanSafetyPeriod => Sys2Proof.Machine.execFanSafetyPeriod s
  | .fanHeartbeat who key tie => Sys2Proof.Machine.execFanHeartbeat who key tie s
  | .fanHeartbeatTimeout => Sys2Proof.Machine.execFanHeartbeatTimeout s
  | .force who key => Sys2Proof.Machine.execForce who key s
  | .unforce who key => Sys2Proof.Machine.execUnforce who key s
  | .fanLearn who key ch => Sys2Proof.Machine.execFanLearn who key ch s
  | .fanLearnAbort who key => Sys2Proof.Machine.execFanLearnAbort who key s
  | .fanLearnPoint rpm => Sys2Proof.Machine.execFanLearnPoint rpm s
  | .fanAgeingSample n tie => Sys2Proof.Machine.execFanAgeingSample n tie s
  | .fanAgeingWindow n => Sys2Proof.Machine.execFanAgeingWindow n s
  | .lampPeriodBoundary => Sys2Proof.Machine.execLampPeriodBoundary s
  | .headroomSample x vsnk vf => Sys2Proof.Machine.execHeadroomSample x vsnk vf s
  | .boostUpdate vbst => Sys2Proof.Machine.execBoostUpdate vbst s
  | .lampCompensation b => Sys2Proof.Machine.execLampCompensation b s
  | .dropoutEnter x tie => Sys2Proof.Machine.execDropoutEnter x tie s
  | .dropoutExit x tie => Sys2Proof.Machine.execDropoutExit x tie s
  | .shedTick ties => Sys2Proof.Machine.execShedTick ties s
  | .lampOpen x => Sys2Proof.Machine.execLampOpen x s
  | .lampShort x k => Sys2Proof.Machine.execLampShort x k s
  | .clearOpen who key strings => Sys2Proof.Machine.execClearOpen who key strings s
  | .boostOvp vbst dt => Sys2Proof.Machine.execBoostOvp vbst dt s
  | .boostWeak => Sys2Proof.Machine.execBoostWeak s
  | .bstRestart who key => Sys2Proof.Machine.execBstRestart who key s
  | .matrixSync sync => Sys2Proof.Machine.execMatrixSync sync s
  | .matrixFrameTimer => Sys2Proof.Machine.execMatrixFrameTimer s
  | .matrixArm who => Sys2Proof.Machine.execMatrixArm who s
  | .matrixRowSlot => Sys2Proof.Machine.execMatrixRowSlot s
  | .matrixFrameEnd => Sys2Proof.Machine.execMatrixFrameEnd s
  | .chainSync n sync => Sys2Proof.Machine.execChainSync n sync s
  | .chainFrameTimer n => Sys2Proof.Machine.execChainFrameTimer n s
  | .chainArm n who => Sys2Proof.Machine.execChainArm n who s
  | .chainFrameEnd n rx last rt stuck => Sys2Proof.Machine.execChainFrameEnd n rx last rt stuck s
  | .chainRetTimeout n rx last rt stuck tie => Sys2Proof.Machine.execChainRetTimeout n rx last rt stuck tie s
  | .loopUpdate c => Sys2Proof.Machine.execLoopUpdate c s
  | .complianceEnter c tie => Sys2Proof.Machine.execComplianceEnter c tie s
  | .complianceExit c tie => Sys2Proof.Machine.execComplianceExit c tie s
  | .loopTrimStep c => Sys2Proof.Machine.execLoopTrimStep c s
  | .overSet c => Sys2Proof.Machine.execOverSet c s
  | .overClear c => Sys2Proof.Machine.execOverClear c s
  | .measStale c => Sys2Proof.Machine.execMeasStale c s
  | .retry c who key => Sys2Proof.Machine.execRetry c who key s
  | .trimClear c who key => Sys2Proof.Machine.execTrimClear c who key s
  | .displayLineStart underBase underOver seen ctrlBad ties => Sys2Proof.Machine.execDisplayLineStart underBase underOver seen ctrlBad ties s
  | .frameCommit who => Sys2Proof.Machine.execFrameCommit who s
  | .lineCommit who => Sys2Proof.Machine.execLineCommit who s
  | .displayEnableWrite who w => Sys2Proof.Machine.execDisplayEnableWrite who w s
  | .xspiCommand who w => Sys2Proof.Machine.execXspiCommand who w s
  | .xspiCommandDone rx => Sys2Proof.Machine.execXspiCommandDone rx s
  | .xspiStrobeTimeout who => Sys2Proof.Machine.execXspiStrobeTimeout who s
  | .xspiWindowRead who off => Sys2Proof.Machine.execXspiWindowRead who off s
  | .freezeRequest pin route => Sys2Proof.Machine.execFreezeRequest pin route s
  | .freezeApplied => Sys2Proof.Machine.execFreezeApplied s
  | .freezeWindowExpiry tie => Sys2Proof.Machine.execFreezeWindowExpiry tie s
  | .freezePinRelease => Sys2Proof.Machine.execFreezePinRelease s
  | .freezeReleaseApply bad fw => Sys2Proof.Machine.execFreezeReleaseApply bad fw s
  | .tapReset => Sys2Proof.Machine.execTapReset s
  | .extest cells seen => Sys2Proof.Machine.execExtest cells seen s
  | .idcode => Sys2Proof.Machine.execIdcode s
  | .samplePreload cells seen => Sys2Proof.Machine.execSamplePreload cells seen s
  | .clamp => Sys2Proof.Machine.execClamp s
  | .highz => Sys2Proof.Machine.execHighz s
  | .audFreeze => Sys2Proof.Machine.execAudFreeze s
  | .audRelease => Sys2Proof.Machine.execAudRelease s
  | .audStat => Sys2Proof.Machine.execAudStat s
  | .audAccessRead a => Sys2Proof.Machine.execAudAccessRead a s
  | .audAccessWrite a w => Sys2Proof.Machine.execAudAccessWrite a w s
  | .audAccessSnapshot a => Sys2Proof.Machine.execAudAccessSnapshot a s
  | .audAccessDone note => Sys2Proof.Machine.execAudAccessDone note s
  | .lcNonce => Sys2Proof.Machine.execLcNonce s
  | .lcCmd words => Sys2Proof.Machine.execLcCmd words s
  | .lcResult => Sys2Proof.Machine.execLcResult s
  | .bypass code => Sys2Proof.Machine.execBypass code s
  | .installKey path slot signer payload sig => Sys2Proof.Machine.execInstallKey path slot signer payload sig s
  | .revoke path slot signer sig => Sys2Proof.Machine.execRevoke path slot signer sig s
  | .advance path state signer sig => Sys2Proof.Machine.execAdvance path state signer sig s
  | .raiseEpoch path epoch signer sig => Sys2Proof.Machine.execRaiseEpoch path epoch signer sig s
  | .unlock path signer sig => Sys2Proof.Machine.execUnlock path signer sig s
  | .lock path => Sys2Proof.Machine.execLock path s
  | .nonce who key => Sys2Proof.Machine.execNonce who key s
  | .nonceLapse => Sys2Proof.Machine.execNonceLapse s
  | .lifecycleWriteDone okA okB => Sys2Proof.Machine.execLifecycleWriteDone okA okB s
  | .hashStart who key => Sys2Proof.Machine.execHashStart who key s
  | .hashData who key => Sys2Proof.Machine.execHashData who key s
  | .hashEnd who key => Sys2Proof.Machine.execHashEnd who key s
  | .verify who key => Sys2Proof.Machine.execVerify who key s
  | .encrypt who key => Sys2Proof.Machine.execEncrypt who key s
  | .decrypt who key => Sys2Proof.Machine.execDecrypt who key s
  | .random who key => Sys2Proof.Machine.execRandom who key s
  | .keyStore who key => Sys2Proof.Machine.execKeyStore who key s
  | .keyLock who key => Sys2Proof.Machine.execKeyLock who key s
  | .sealDeferredStart => Sys2Proof.Machine.execSealDeferredStart s
  | .sealOperationDone => Sys2Proof.Machine.execSealOperationDone s
  | .wipe who key => Sys2Proof.Machine.execWipe who key s
  | .sealRngRead who => Sys2Proof.Machine.execSealRngRead who s
  | .rngFailure => Sys2Proof.Machine.execRngFailure s
  | .counterReadClear who a => Sys2Proof.Machine.execCounterReadClear who a s
  | .registerWrite who a w note => Sys2Proof.Machine.execRegisterWrite who a w note s
  | .vcoreReady bad => Sys2Proof.Machine.execVcoreReady bad s
  | .storeBufferWriteBack c note => Sys2Proof.Machine.execStoreBufferWriteBack c note s
  | .rngRefill => Sys2Proof.Machine.execRngRefill s
  | .consoleByteSent => Sys2Proof.Machine.execConsoleByteSent s
  | .twbStartCondition p alertLow tie => Sys2Proof.Machine.execTwbStartCondition p alertLow tie s
  | .twbStopCondition p alertLow => Sys2Proof.Machine.execTwbStopCondition p alertLow s

end Sys2Proof.Machine
end

