-- ==== Sys2Proof/Machine/Pads.lean ====
section
/-! DEFINITION. The pads as the board sees them (chapter 20): which function each ball carries, what drives it and at what level, and its PINS
fields (R651, R655-R661, R664, R666, R669, Tables 20-5, 20-8 and 20-9). They are read off the state; no command stores them. -/

namespace Sys2Proof.Machine

/-- What a digital ball does (Table 20-9). -/
inductive PadState where
  | off                    -- Z: output off, input buffer off and no pull
  | input                  -- an input, always live
  | pulled (up : Bool)     -- a JTAG input with its own pull
  | function (f : PinFn)   -- the function PINS gives it
  | fixed                  -- the function of a fixed-function ball
  | held                   -- the level its frozen island holds (R616)
  | keyScan                -- a keyboard ball that AO has taken (R409)
  | freezeDuty             -- a fan's PWM from the pad-ring generator (R527)
  | pwm (duty : Nat)       -- a fan's PWM: released for that many 0.1 % of each period (R502)
  | low                    -- driven low
  | high                   -- driven high
  | released               -- open-drain, not driven
  | noLoad                 -- an analogue ball that loads its net with nothing
  | scan (how : Nat)       -- under EXTEST (1), CLAMP (2) or HIGHZ (3) (R622)
  deriving DecidableEq, Repr

/-- The domain that owns a function. -/
def PinFn.owner : PinFn → Nat
  | .kbdDrv _ | .kbdSns _ | .kbdLed _ => domKBD
  | .twScl _ | .twSda _ | .twAlert _ => domTWB
  | .tcClk _ | .tcIn _ _ | .tcOut _ _ => domTIME
  | .lmxCol _ | .lmxRow _ | .lmxSync => domLAMPM
  | .lchDo _ | .lchRet _ => domLAMPC
  | .seqEn _ | .seqDis _ | .seqPg _ | .seqSw _ | .wake _ | .consTxd | .consRxd | .ppsIn => 0

/-- The PINS entry of a ball (R66). -/
def State.pinEntry (s : State) (ball : Nat) : Option Nat := s.pinEntries.find? fun w => bits w 9 0 == ball

/-- The function PINS gives a ball; ALT 0 leaves it unused. -/
def State.ballFunction (s : State) (ball : Nat) : Option PinFn := (s.pinEntry ball).bind fun w => ballFn ball (bits w 27 24)

/-- Has the boundary-scan register cells that can drive a ball (R664)? FREEZE_N, PFAIL_N, the JTAG and the FN balls have none. -/
def scannedBall (ball : Nat) : Bool := ball < 144 || (160 ≤ ball && ball < 208) || ball == 227

/-- A ball in the hands of a domain: off without the domain or the bank's supply, and held while the island is frozen (R658, Table 20-9). -/
def State.ownedPad (s : State) (ball d : Nat) (p : PadState) : PadState :=
  if !s.domOn d || !s.bankUp ball then .off else if s.frozen d then .held else p

/-- A multi-function ball (R652, R653, R658). In stop AO has the drive and sense lines (R409). -/
def State.multiPad (s : State) (ball : Nat) : PadState :=
  match s.ballFunction ball with
  | none => .off
  | some f =>
    match f with
    | .kbdDrv _ | .kbdSns _ => if s.pwr.phase = .stopped then .keyScan else s.ownedPad ball domKBD (.function f)
    | _ => s.ownedPad ball f.owner (.function f)

/-- A fan output at a duty: 100 % is a released pad and 0 % a pad driven low throughout (R502). -/
def fanLevel (d : Nat) : PadState := if 1000 ≤ d then .released else if d = 0 then .low else .pwm d

/-- A ball of the fan segment (R47, R514, R516, R527): the tachs are inputs, and a PWM output is released while the segment has no supply, VCORE is
low, the device is in stop, or nothing drives it. -/
def State.fanPad (s : State) (ball : Nat) : PadState :=
  let k := (ball - 144) / 2
  if ball % 2 = 1 then .input
  else if !s.on F.AO_PAD_STAT_FN_OK || s.fl.vcoreLow || s.pwr.phase == .stopped then .released
  else if s.aoDrivesFan k then (if s.frozen 0 then .freezeDuty else fanLevel s.safeDuty)
  else if !s.domOn domFAN then .released
  else if s.pwmFrozen k then .freezeDuty
  else fanLevel (s.fanDuty k)

/-- ESPI_ALERT_N (R343, R351, R361, R700): low while alert is signalled on the pin; otherwise high in push-pull mode and released in open-drain or in
band mode. -/
def State.alertPad (s : State) : PadState :=
  if !s.on F.HST_LINK_ALERT_PIN then .released
  else if s.hst.alert then .low else if s.on F.HST_LINK_ALERT_OD then .released else .high

/-- A driven level. -/
def padLevel (high : Bool) : PadState := if high then .high else .low

/-- A panel or xSPI ball of bank C while DISP has it (R582-R584): data pads that BUS leaves out stay at their default, and while the raster is disabled
the clock and the data are low and the control signals inactive. -/
def State.displayPad (s : State) (ball : Nat) : PadState :=
  let run := s.on F.DSP_STATUS_RUNNING
  let inactive (flag : Nat) : PadState := if run then .fixed else padLevel (!bit (u32At (s.tillBody 0x048) 0x14) flag)
  if ball < 184 then
    if !bit s.busBits (16 - 8 * ((ball - 160) / 8) + (ball - 160) % 8) then .off else if run then .fixed else .low
  else match ball with
    | 184 => if run then .fixed else .low
    | 185 => inactive 0
    | 186 => inactive 1
    | 187 => inactive 2
    | _ => .fixed

/-- An analogue, high-voltage or crystal ball (Table 20-9): the inputs load nothing without AREF, TH_EXC carries the reference while a thermistor
entry converts (R453), a loop output drives from its first update (R577), taps are off without LAMPS (R559), and the boost gate is low unless it
switches (R538, R560). -/
def State.analogPad (s : State) (f : FixedBall) : PadState :=
  let owned (d : Nat) (p out : PadState) : PadState := if !s.domOn d then out else if s.frozen d then .held else p
  match f with
  | .rmon _ => .input
  | .ain _ | .th _ | .rdP _ | .rdN _ | .loopV _ | .loopSns _ => owned domAREF .input .noLoad
  | .bstCs | .bstFb => owned domLAMPS .input .noLoad
  | .thExc => owned domAREF (if s.thExc then .high else .off) .off
  | .loopDrv c => owned domLOOP (if (s.loopCh c).drv then .fixed else .released) .released
  | .tap _ _ => owned domLAMPS .fixed .off
  | .bstGate => if s.domOn domLAMPS && s.boostOn then .fixed else .low
  | _ => .fixed

/-- What a ball does, none for a supply, ground or keep-out ball (Tables 20-5 and 20-9). Nothing is driven before VIN_AO is valid. -/
def State.padState (s : State) (ball : Nat) : Option PadState :=
  if 228 ≤ ball ∨ (208 ≤ ball ∧ ball < 220) then
    match fixedBall ball with
    | none | some (.supply _) | some (.ground _) | some .keepOut => none
    | some f => some (if !s.fl.vinValid then .off else s.analogPad f)
  else if !s.fl.vinValid then some .off
  else if ball = 225 ∨ ball = 226 ∨ ball = 207 then some .input
  else if ball = 220 ∨ ball = 224 then some (.pulled false)
  else if ball = 221 ∨ ball = 222 then some (.pulled true)
  else if ball = 223 then some .fixed
  else if s.aud.tap.hold ≠ 0 ∧ scannedBall ball then some (.scan s.aud.tap.hold)
  else if ball < 144 then some (s.multiPad ball)
  else if ball < 160 then some (s.fanPad ball)
  else if ball < 200 then some (s.ownedPad ball domDISP (s.displayPad ball))
  else if ball < 206 then some (s.ownedPad ball domHOST .fixed)
  else if ball = 206 then some (s.ownedPad ball domHOST s.alertPad)
  else some (if s.fl.ledgerFault then .low else .released)

/-- Is a rail's enable active low (R69)? -/
def State.enLow (s : State) (n : Nat) : Bool := ((s.railRec n).map (·.enLow)).getD false

/-- The level a function's output holds where the state keeps it (R69, R188, R195, R401, R429). -/
def State.pinLevel (s : State) (f : PinFn) : Option Bool :=
  match f with
  | .seqEn n => some (s.railOn n != s.enLow n)
  | .seqDis n => some (s.rail' n).dis
  | .seqSw n => some (bit (s.rd F.SEQ_WIRE_SW) n)
  | .kbdLed n => some (bit (s.rd F.KBD_HOSTCFG_LED) n)
  | .tcOut n m => some (bit (s.word (tcOutReg n)).toNat (4 * (n % 8) + m))
  | _ => none

/-- How a pad type takes its PINS fields (Table 20-8). -/
inductive PadKind where
  | pushPull | openDrain | input | sink
  deriving DecidableEq, Repr

/-- The kind of a function (Table 20-8). -/
def PinFn.kind : PinFn → PadKind
  | .seqEn _ | .seqDis _ | .seqSw _ | .consTxd | .kbdLed _ | .tcOut _ _ | .lmxRow _ | .lchDo _ => .pushPull
  | .kbdDrv _ | .twScl _ | .twSda _ | .twAlert _ => .openDrain
  | .seqPg _ | .wake _ | .ppsIn | .consRxd | .kbdSns _ | .tcClk _ | .tcIn _ _ | .lmxSync | .lchRet _ => .input
  | .lmxCol _ => .sink

/-- Does the 10 kΩ scan pull-up act on a ball: a scanned drive or sense line while KBD is on (R385)? -/
def State.scanPull (s : State) (ball : Nat) : Bool :=
  s.domOn domKBD && match s.ballFunction ball with
    | some (.kbdDrv d) => decide (d < s.drives)
    | some (.kbdSns i) => decide (i < s.senses)
    | _ => false

/-- The PULL, DRIVE and OD a ball has in force by its function's kind; a field that is ignored reads 0, and so does the pull of a keyboard
line while its scan pull-up acts (R656, Table 20-8). -/
def State.padFields (s : State) (ball : Nat) : Nat × Nat × Nat :=
  match s.pinEntry ball with
  | none => (0, 0, 0)
  | some w =>
    let pull := if s.scanPull ball then 0 else bits w 23 22
    match (ballFn ball (bits w 27 24)).map PinFn.kind with
    | some .pushPull => (bits w 23 22, bits w 21 20, bits w 19 19)
    | some .openDrain => (pull, bits w 21 20, 0)
    | some .input => (pull, 0, 0)
    | some .sink => (0, 0, 0)
    | none =>
      -- a fixed-function ball: FN and LEDGER_FAULT_N are open-drain, FREEZE_N, PFAIL_N and the tachs inputs, ESPI_ALERT_N pulled only while it is
      -- not driven (R700), eSPI and bank C
      -- outputs take DRIVE alone, JTAG nothing
      if 144 ≤ ball ∧ ball < 160 then (if ball % 2 = 0 then (bits w 23 22, bits w 21 20, 0) else (bits w 23 22, 0, 0))
      else if ball = 206 then ((if s.padState 206 = some .released then bits w 23 22 else 0), bits w 21 20, 0)
      else if ball = 227 then (bits w 23 22, bits w 21 20, 0)
      else if ball = 225 ∨ ball = 226 then (bits w 23 22, 0, 0)
      else if 160 ≤ ball ∧ ball < 206 then (0, bits w 21 20, 0)
      else (0, 0, 0)

end Sys2Proof.Machine
end

