-- ==== Sys2Proof/WellFormed.lean ====
section
/-! DEFINITION. When a command's operands are ones its outside party can give: counts, lengths and indices held to the spec's ranges.
A bit vector or a Fin holds its range by its type; what is left is checked here. -/

namespace Sys2Proof

/-- A byte list of one of the lengths from lo to hi. -/
def lenIn {α : Type} (lo hi : Nat) (l : List α) : Bool := decide (lo ≤ l.length) && decide (l.length ≤ hi)

/-- What a bus access meets is in range: one count for each of 16 timer channels at most, masks of its domains, and an ECC outcome. -/
def BusNote.ok (n : BusNote) : Bool :=
  decide (n.advs.length ≤ 16) && decide (n.met < 2 ^ 24) && decide (n.bad < 2 ^ 48) && decide (n.ecc ≤ 2) && decide (n.fill ≤ 2)
    && decide (n.turn < 16)

/-- The end of a two-wire transaction is in range: no transaction moves more than 2 + 255 + 1 + 255 + 1 bytes and no read more than 256 (R478). -/
def TwEnd.ok : TwEnd → Bool
  | .done rx => decide (rx.length ≤ 256)
  | .nack k => decide (k < 1024)
  | .lost k => decide (k < 1024)
  | .cut k rx => decide (k < 1024) && decide (rx.length ≤ 256)
  | .stuck => true

/-- A queued request of a core is one of four (R362). -/
def DeadlineOf.ok : DeadlineOf → Bool
  | .queued _ k => decide (k < 4)
  | .held _ => true
  | .kbc => true
  | .eci => true

/-- The 633 cells of the boundary-scan register, when cells are shifted in, and as captured. -/
def scanOk (cells : Option (List Bool)) (seen : List Bool) : Bool :=
  (match cells with | none => true | some c => decide (c.length = 633)) && decide (seen.length = 633)

/-- A signature is 16 words. -/
def sigOk (sig : List Word) : Bool := decide (sig.length = 16)

/-- Are the operands of a command in the ranges the spec gives? -/
def WellFormed : Instr → Bool
  | .recoveryFrame _ payload _ _ => decide (payload.length < 2 ^ 32)
  | .stepDelayElapsed n => decide (n < 64)
  | .railSettled n => decide (n < 64)
  | .pgLate n => decide (n < 64)
  | .pgStuck n => decide (n < 64)
  | .seqFallLate n => decide (n < 64)
  | .dischargeTimeout r => decide (r < 32)
  | .railRetryRestart r => decide (r < 32)
  | .reserveSample mv ma _ => decide (mv < 2 ^ 16) && decide (ma < 2 ^ 16)
  | .bundleIssue _ cyc fe note => decide (cyc < 2 ^ 64) && decide (fe ≤ 2) && note.ok
  | .strandAccessComplete _ note => note.ok
  | .eventAccept evs _ contended edges => evs.all (fun e => decide (e < 320)) && decide (contended ≤ 320) && decide (edges.advs.length ≤ 16)
  | .espiIoRead _ n _ => n == 1 || n == 2 || n == 4
  | .espiIoWrite _ d _ _ => d.length == 1 || d.length == 2 || d.length == 4
  | .espiMemRead _ n _ => decide (1 ≤ n) && decide (n ≤ 64)
  | .espiMemWrite _ d _ => lenIn 1 64 d
  | .tellerDeadline d => d.ok
  | .kbdFrameStart rows _ => decide (rows.length ≤ 20)
  | .reliefCalibrationDone _ vz lo hi => decide (vz < 2 ^ 25) && decide (lo < 2 ^ 25) && decide (hi < 2 ^ 25)
  | .twbTransactionEnd _ e => e.ok
  | .snapshot _ advs => decide (advs.length ≤ 16)
  | .headroomSample _ _ vf => decide (vf.length ≤ 8)
  | .chainFrameEnd _ rx _ _ _ => decide (rx < 2 ^ 32)
  | .chainRetTimeout _ rx _ _ _ _ => decide (rx < 2 ^ 32)
  | .extest cells seen => scanOk cells seen
  | .samplePreload cells seen => scanOk cells seen
  | .audAccessDone note => note.ok
  | .lcCmd words => decide (words.length = 33)
  | .installKey _ _ _ payload sig => decide (payload.length = 16) && sigOk sig
  | .revoke _ _ _ sig => sigOk sig
  | .advance _ _ _ sig => sigOk sig
  | .raiseEpoch _ _ _ sig => sigOk sig
  | .unlock _ _ sig => sigOk sig
  | .registerWrite _ _ _ note => note.ok
  | .vinAoValid _ _ _ => true
  | .por => true
  | .bor => true
  | .watchdogExpiry _ _ _ => true
  | .ldr _ _ _ _ => true
  | .swr _ _ _ => true
  | .hrst => true
  | .espiResetDeassert => true
  | .backupCellRestart => true
  | .bankPresent _ _ => true
  | .bankAbsent _ => true
  | .recoveryByteGap _ => true
  | .ledgerWindowOpen _ _ _ _ => true
  | .ledgerWindowClose _ _ _ => true
  | .ledgerWordWrite _ _ _ => true
  | .ledgerWindowIdle => true
  | .ledgerCheck _ _ => true
  | .ledgerCheckDone => true
  | .lgrLoad => true
  | .lgrLoadWord _ => true
  | .lgrLoadCapture _ => true
  | .reconcileRequest _ _ _ _ => true
  | .reconcileSnapshot => true
  | .reconcileSwitch _ => true
  | .reconcileLimit _ => true
  | .divergenceAudit => true
  | .domainSet _ _ _ _ => true
  | .domainOnComplete _ _ => true
  | .domainClear _ _ _ _ => true
  | .domainOffComplete _ => true
  | .domainPowerFail _ => true
  | .domainRetry _ => true
  | .strandTimeout _ => true
  | .stopRequest _ _ _ _ _ => true
  | .stopPartnerTimeout => true
  | .stopEntry _ _ _ => true
  | .wake _ _ _ => true
  | .stopBudgetCheck _ _ => true
  | .xt32Fail _ => true
  | .program _ _ => true
  | .eraseSector _ _ => true
  | .eraseHalf _ _ => true
  | .blankCheck _ _ => true
  | .flashAbort _ _ => true
  | .flashCommandDone _ => true
  | .flashScrubRead _ _ => true
  | .sequencerCycle _ => true
  | .monitorSample _ _ => true
  | .runSet _ _ _ => true
  | .runClr _ _ _ => true
  | .runToggle _ _ _ => true
  | .clearLock _ _ _ => true
  | .stepReq _ _ _ => true
  | .rearm _ _ _ => true
  | .forceOff _ _ _ => true
  | .allOff _ _ => true
  | .condSet _ _ _ _ => true
  | .condClr _ _ _ => true
  | .pfailFall => true
  | .pfailHoldElapsed _ => true
  | .pfailRise => true
  | .pfailRecover => true
  | .policyApply => true
  | .vaultCommitRequest _ _ => true
  | .vaultGateOpen _ => true
  | .vaultCommitDone _ _ => true
  | .vaultWaitExpired => true
  | .hwCommitRetry => true
  | .vaultDraftAppend _ _ => true
  | .vaultDraftClear _ _ => true
  | .vaultFind _ _ _ => true
  | .daybookLog _ _ => true
  | .daybookAppend => true
  | .rsvMeasure _ _ => true
  | .reservePeriodElapsed => true
  | .reserveMeasureStart => true
  | .reserveMeasureDone tNs _ => decide (tNs ≤ 20000000)
  | .reserveMeasureTimeout => true
  | .divideComplete _ => true
  | .interruptEntry _ => true
  | .exceptionEntry _ => true
  | .waitRelease _ => true
  | .watchdogStart _ _ => true
  | .watchdogKick _ _ _ => true
  | .kxSwev _ _ => true
  | .kxForce _ _ _ => true
  | .setConfiguration _ _ _ _ _ _ _ => true
  | .putVwire _ _ _ => true
  | .getVwire => true
  | .hostRstAck => true
  | .oobRstAck => true
  | .putOob pkt _ => decide (4 ≤ pkt.length) && decide (pkt.length ≤ 68)
  | .getOob => true
  | .oobRxDeliver => true
  | .oobSend _ _ => true
  | .oobRelease _ _ => true
  | .tellerResponse _ _ _ _ => true
  | .kbcConsume => true
  | .kbdResetComplete => true
  | .kbcFirmwareRelease _ _ _ _ => true
  | .kbcPut _ _ => true
  | .kbcOutputLoad => true
  | .eciConsume => true
  | .eciQueryPush _ _ => true
  | .eciPut _ _ => true
  | .nvxLoadDone => true
  | .consoleRx _ => true
  | .consoleTx _ _ => true
  | .kbdFrameBoundary => true
  | .kbdLineMeasure _ => true
  | .kbdMeasurePeriod => true
  | .measure _ => true
  | .typematicRepeat _ => true
  | .clearKbc _ => true
  | .clearFw _ => true
  | .kbcStagingMove => true
  | .kbdFifoRead _ => true
  | .kbdHostcfgWrite _ _ => true
  | .kbdWakeDetect _ => true
  | .kbdSenseUnmask _ => true
  | .calendarTick => true
  | .calendarSecond => true
  | .alarmMatch _ => true
  | .ppsEdge _ _ => true
  | .holdover => true
  | .calendarSet _ _ => true
  | .calRateWrite _ _ => true
  | .calNowLoRead _ => true
  | .calNowHiRead _ => true
  | .vbatSample _ => true
  | .xt32Loss => true
  | .xt32Return => true
  | .timerWrap _ => true
  | .compareMatch _ _ => true
  | .start _ _ => true
  | .stop _ _ _ => true
  | .clear _ _ => true
  | .timerHiWrite _ _ _ _ => true
  | .timerLoWrite _ _ _ _ => true
  | .timerLoRead _ _ _ _ => true
  | .timerHiRead _ _ _ _ => true
  | .capture _ _ _ _ _ => true
  | .captureTimeout _ _ => true
  | .adcTrigger _ _ => true
  | .adcPassStart => true
  | .adcEntryDone _ _ _ _ => true
  | .adcPassDone _ => true
  | .adcSwap => true
  | .badSliceRetry _ => true
  | .survey _ => true
  | .surveyPeriod => true
  | .surveyDone _ => true
  | .sensorFaultSet _ => true
  | .sensorFaultClear _ => true
  | .twbGo _ _ => true
  | .twbTransactionStart _ => true
  | .twbRetry _ => true
  | .abort _ _ => true
  | .busClear _ _ => true
  | .twbClockLowTimeout _ cut _ => decide (cut.rx.length ≤ 36)
  | .twbTargetTimeout _ _ => true
  | .twbStuckTimeout _ _ _ _ => true
  | .twbBusFree _ _ => true
  | .twbTargetTransaction _ _ _ _ _ _ _ => true
  | .hostNotify _ _ => true
  | .twbAlertWrite _ _ _ => true
  | .autoAra _ _ => true
  | .twbAraRead _ _ => true
  | .sensorSlotPoll _ => true
  | .fanLoopPeriod _ => true
  | .fanTachEdge _ _ _ _ _ => true
  | .fanTachLapse _ => true
  | .fanKickEnd _ => true
  | .fanStall _ => true
  | .fanStallClear _ => true
  | .fanPumpLow _ => true
  | .fanPumpRecover _ => true
  | .fanSafetyPeriod => true
  | .fanHeartbeat _ _ _ => true
  | .fanHeartbeatTimeout => true
  | .force _ _ => true
  | .unforce _ _ => true
  | .fanLearn _ _ _ => true
  | .fanLearnAbort _ _ => true
  | .fanLearnPoint _ => true
  | .fanAgeingSample _ _ => true
  | .fanAgeingWindow _ => true
  | .lampPeriodBoundary => true
  | .boostUpdate _ => true
  | .lampCompensation _ => true
  | .dropoutEnter _ _ => true
  | .dropoutExit _ _ => true
  | .shedTick _ => true
  | .lampOpen _ => true
  | .lampShort _ _ => true
  | .clearOpen _ _ _ => true
  | .boostOvp _ _ => true
  | .boostWeak => true
  | .bstRestart _ _ => true
  | .matrixSync _ => true
  | .matrixFrameTimer => true
  | .matrixArm _ => true
  | .matrixRowSlot => true
  | .matrixFrameEnd => true
  | .chainSync _ _ => true
  | .chainFrameTimer _ => true
  | .chainArm _ _ => true
  | .loopUpdate _ => true
  | .complianceEnter _ _ => true
  | .complianceExit _ _ => true
  | .loopTrimStep _ => true
  | .overSet _ => true
  | .overClear _ => true
  | .measStale _ => true
  | .retry _ _ _ => true
  | .trimClear _ _ _ => true
  | .displayLineStart _ _ _ _ _ => true
  | .frameCommit _ => true
  | .lineCommit _ => true
  | .displayEnableWrite _ _ => true
  | .xspiCommand _ _ => true
  | .xspiCommandDone _ => true
  | .xspiStrobeTimeout _ => true
  | .xspiWindowRead _ _ => true
  | .freezeRequest _ _ => true
  | .freezeApplied => true
  | .freezeWindowExpiry _ => true
  | .freezePinRelease => true
  | .freezeReleaseApply _ _ => true
  | .tapReset => true
  | .idcode => true
  | .clamp => true
  | .highz => true
  | .audFreeze => true
  | .audRelease => true
  | .audStat => true
  | .audAccessRead _ => true
  | .audAccessWrite _ _ => true
  | .audAccessSnapshot _ => true
  | .lcNonce => true
  | .lcResult => true
  | .bypass _ => true
  | .lock _ => true
  | .nonce _ _ => true
  | .nonceLapse => true
  | .lifecycleWriteDone _ _ => true
  | .hashStart _ _ => true
  | .hashData _ _ => true
  | .hashEnd _ _ => true
  | .verify _ _ => true
  | .encrypt _ _ => true
  | .decrypt _ _ => true
  | .random _ _ => true
  | .keyStore _ _ => true
  | .keyLock _ _ => true
  | .sealDeferredStart => true
  | .sealOperationDone => true
  | .wipe _ _ => true
  | .sealRngRead _ => true
  | .rngFailure => true
  | .counterReadClear _ _ => true
  | .vcoreReady _ => true
  | .storeBufferWriteBack _ _ => true
  | .rngRefill => true
  | .consoleByteSent => true
  | .twbStartCondition _ _ _ => true
  | .twbStopCondition _ _ => true

end Sys2Proof
end

