-- ==== Sys2Proof/Safety.lean ====
section
/-! DEFINITION. The words claims are made with: a sound state, what a command gives, who a write reaches, and which registers a step leaves alone. -/

namespace Sys2Proof.Machine

/-- The register file and the memory are in canonical form. -/
abbrev State.Canonical (s : State) : Prop := RegFile.wf s.regs = true ∧ Memory.wf s.mem = true

/-- The command ends in a next state of which P holds. -/
def Gives (c : Instr) (s : State) (P : State → Prop) : Prop := ∃ t, exec c s = .next t ∧ P t

/-- A write by this agent is taken at once: the domain is on and not frozen, and the access is at supervisor level. -/
abbrev State.Takes (s : State) (who : Agent) (d : Nat) : Prop := s.domOn d = true ∧ s.frozen d = false ∧ who.user = false

/-- A write at either level is taken at once: the domain is on and not frozen. -/
abbrev State.Open (s : State) (d : Nat) : Prop := s.domOn d = true ∧ s.frozen d = false

/-- What a command may leave: outside the touched registers every register word is the same, and the state is keep of the new one, which says
which other parts may differ. -/
def Frame (c : Instr) (s : State) (touched : Nat → Prop) (keep : State → State) : Prop :=
  ∀ t, exec c s = .next t → (∀ a, ¬ touched a → t.word a = s.word a) ∧ t = keep t

/-- The state with t's registers and its sources' latches (R318, R324). -/
def State.signal (s t : State) : State :=
  { s with regs := t.regs, kx := { s.kx with pulses := t.kx.pulses, levels := t.kx.levels } }

/-- The state with t's answer and its queue of held writes (R619). -/
def State.answer (s t : State) : State := { s with resp := t.resp, aud := { s.aud with queue := t.aud.queue } }

/-- Outside these cells every byte of memory reads the same when the command is through. -/
def MemoryIn (c : Instr) (s : State) (cells : Nat → Prop) : Prop :=
  ∀ t, exec c s = .next t → ∀ a, ¬ cells a → memGet t.mem a = memGet s.mem a

/-- The state with t's registers, source latches, host-link part and host wires; pulses held for a frozen block stay (R318, R341, R351). -/
def State.link (s t : State) : State :=
  { s with regs := t.regs, hst := t.hst, kx := { t.kx with heldRoutes := s.kx.heldRoutes } }

/-- The state with a core's private part from t. -/
def State.coreOf (s t : State) (c : Core) : State := s.modCore c fun _ => t.core c

/-- The state with a core's private part from t, with its stores in SRAM and the turns its SRAM blocks have served (R137, R251). -/
def State.coreMem (s t : State) (c : Core) : State :=
  { s.coreOf t c with mem := t.mem, eccBad := t.eccBad, pwr := { s.pwr with served := t.pwr.served } }

/-- The state with t's VCODEs, which a refused commit writes too (Table 10-10). -/
def State.vcoded (s t : State) : State := { s with hst := { s.hst with nvx := { s.hst.nvx with vcodes := t.hst.nvx.vcodes } } }

/-- The state with t's alert to the host (R351). -/
def State.alerted (s t : State) : State := { s with hst := { s.hst with alert := t.hst.alert } }

/-- The bank a commit goes to: the one that is not active (R220). -/
def State.standby (s : State) : Nat := if s.on F.VLT_STATUS_NO_BANK then 0 else 1 - s.rd F.VLT_STATUS_ACTIVE

/-- The cells of the intent word that the start of a commit writes (R220). -/
def State.intentCell (s : State) (a : Nat) : Prop := bankBase s.standby + 0xBFF0 ≤ a ∧ a < bankBase s.standby + 0xBFF4

/-- The cells of a teller's shared window from offset lo up to offset hi. -/
def tellerCell (t : Option TellerEntry) (lo hi a : Nat) : Prop := ∃ e ∈ t, e.at lo ≤ a ∧ a < e.at hi

/-- The registers a Sequencer cycle may write, with those its actions reach (R176-R200). -/
def sequencerRegs : List Nat :=
  [Reg.SEQ_ACTIVE_LO, Reg.SEQ_ACTIVE_HI, Reg.SEQ_DONE_LO, Reg.SEQ_DONE_HI, Reg.SEQ_FAULTED_LO, Reg.SEQ_FAULTED_HI, Reg.SEQ_RAIL_EN, Reg.SEQ_RAIL_PG,
    Reg.SEQ_WIRE, Reg.SEQ_STATUS, Reg.SEQ_FAULT_LOG, Reg.SEQ_COINCIDE, Reg.SEQ_COND 0, Reg.SEQ_COND 1, Reg.SEQ_COND 2, Reg.SEQ_COND 3,
    Reg.SEQ_COND_FIX, Reg.VLT_DAYBOOK, Reg.VLT_LOST, Reg.HST_VW_OUT, Reg.KX_MERGED]

/-- The registers a host read may write: errors, the keyboard buffer, host wires, denials and the request queues (R350-R363). -/
def hostReadRegs : List Nat :=
  [Reg.HST_ERR, Reg.HST_KBC_STAT, Reg.HST_STATUS, Reg.HST_VW_OUT, Reg.TLR_COUNTS, Reg.TLR_DENY_LOG, Reg.TLR_REQ_A, Reg.TLR_REQ_B, Reg.TLR_REQ_DATA_A,
    Reg.TLR_REQ_DATA_B, Reg.KX_MERGED]

/-- The command changes nothing. -/
def Idles (c : Instr) (s : State) : Prop := exec c s = .next s

/-- How a write of word w at address a reaches its block in domain d (R19, R266, R619); lvl says that the block asks for a supervisor. -/
def RowWrite (c : Instr) (s : State) (who : Agent) (d a : Nat) (w : Word) (lvl : Bool) : Prop :=
  (s.domOn d = false → exec c s = .next (s.busErr busDomainOff)) ∧
  (s.domOn d = true → lvl = true → who.user = true → exec c s = .next (s.busErr busLevel)) ∧
  (s.domOn d = true → (lvl && who.user) = false → s.frozen d = true → s.aud.queue.length < 16 →
    exec c s = .next { s with resp := .none, aud := { s.aud with queue := s.aud.queue ++ [(a, w)] } })

/-- Every byte of memory reads the same. -/
def SameMemory (s t : State) : Prop := ∀ a, memGet t.mem a = memGet s.mem a

/-- Outside n bytes from base every byte of memory reads the same. -/
def SameMemoryBut (base n : Nat) (s t : State) : Prop :=
  ∀ a, (a < base ∨ base + n ≤ a) → memGet t.mem a = memGet s.mem a

/-- The registers a channel's counting may write (R425-R431). -/
def timerReg (k : Nat) (a : Nat) : Prop :=
  a = Reg.TC_CNT_LO k ∨ a = Reg.TC_CNT_LO k + 4 ∨ a = Reg.TC_STAT k ∨
    ∃ m : Fin 4, a = Reg.TC_CC_LO k m ∨ a = Reg.TC_CC_LO k m + 4 ∨ a = Reg.TC_STEP k m

/-- The little-endian word at an address is w. -/
abbrev State.HoldsWord (s : State) (a : Nat) (w : Word) : Prop := memWord s.mem a = w.toNat

/-- A lifecycle block can be submitted by this path: a supervisor's register writes, or the JTAG instruction LC_CMD while it is taken. -/
def State.LcOpen (s : State) (path : Option Agent) : Prop :=
  match path with
  | none => s.fl.vinValid = true ∧ s.jtagTakes 0x21 = true
  | some who => who.user = false

/-- A lifecycle block was judged: refused with the code its checks give, or its change begins to be written; the nonce is gone either way. -/
def LcTaken (s t : State) (b : LcBlock) : Prop :=
  t.lc.nonce = false ∧
  (s.lcRefusal b = 0 → t.lc.run = some (lcEffect s.lifecycle b) ∧ t.on F.AUD_LC_RESULT_BUSY = true) ∧
  (s.lcRefusal b ≠ 0 → t.lc.run = s.lc.run ∧ t.on F.AUD_LC_RESULT_BUSY = false ∧ t.on F.AUD_LC_RESULT_DONE = true ∧
    t.rd F.AUD_LC_RESULT_CODE = s.lcRefusal b)

end Sys2Proof.Machine
end

