-- ==== Sys2Proof/Certificates/Slice0/Obligations.lean ====
section
/-! DEFINITION. The statements about the model. -/

open Sys2Proof Sys2Proof.Machine

/-! ## First light and resets (chapter 01) -/

/-- Each command of the reset family has its own effect (R21, R43, R45, R52-R54, R150, R276, R345, R414, R657): a supply that is valid brings
the device to READY, a POR leaves only the POR cause, a BOR holds first light until VCORE returns, a watchdog of core scope sets its cause, LDR and
a device-scope watchdog bring READY again or wait for the commit in progress, SWR sets its cause, and the pads' banks and eSPI_RESET_N are shown. -/
def Obligations.ResetCommandsAct : Prop :=
  (∀ (s : State) (x p : Bool) (bad : BitVec 48), s.fl.vinValid = false → Gives (.vinAoValid x p bad) s fun t => t.ready = true) ∧
  (∀ s : State, s.fl.vinValid = true → Gives .por s fun t =>
    t.word Reg.AO_RESET_CAUSE = 1 ∧ t.resp = .none) ∧
  (∀ s : State, s.fl.vinValid = true → s.fl.vcoreLow = false → Gives .bor s fun t =>
    t.on F.AO_RESET_CAUSE_BOR = true ∧ t.fl.vcoreLow = true) ∧
  (∀ (s : State) (bad : BitVec 48), s.fl.vinValid = true → s.fl.vcoreLow = true → Gives (.vcoreReady bad) s fun t => t.ready = true) ∧
  (∀ (s : State) (c : Core) (bad : BitVec 48), (s.core c).on = true → s.live (domCore c) = true → s.fl.deferred = .none →
    s.wdrDevice c = false → ((s.core c).fatal.isSome = true ∨ s.on (F.EVT_WDOG_CTL_EN.own c) = true) →
    Gives (.watchdogExpiry c false bad) s fun t =>
      t.on (match c with | .a => F.AO_RESET_CAUSE_WDR_A | .b => F.AO_RESET_CAUSE_WDR_B) = true) ∧
  (∀ (s : State) (c : Core) (bad : BitVec 48), (s.core c).on = true → s.live (domCore c) = true → s.fl.deferred = .none →
    s.wdrDevice c = true → (s.core c).fatal.isSome = true → s.vlt.commit.isSome = true →
    Gives (.watchdogExpiry c false bad) s fun t => t.fl.deferred = .wdr c) ∧
  (∀ (s : State) (who : Agent) (q : Bool) (bad : BitVec 48), s.Takes who 0 → s.vlt.commit = none → s.fl.vcoreLow = false →
    Gives (.ldr who 0xA5 q bad) s fun t => t.ready = true) ∧
  (∀ (s : State) (who : Agent) (q : Bool) (bad : BitVec 48), s.Takes who 0 → s.vlt.commit.isSome = true →
    Gives (.ldr who 0xA5 q bad) s fun t => t.fl.deferred = s.fl.deferred.join (.ldr q)) ∧
  (∀ (s : State) (who : Agent) (mask : BitVec 24) (d : Fin 24), s.Takes who 0 → s.vlt.commit = none → mask.getLsbD d = true →
    (d.val ≠ 0 ∧ (d.val < 6 ∨ 9 < d.val)) → Gives (.swr who 0x5A mask) s fun t => t.on F.AO_RESET_CAUSE_SWR = true) ∧
  (∀ s : State, s.fl.vinValid = true → s.seq.espiHigh = true → Gives .hrst s fun t =>
    t.on F.AO_RESET_CAUSE_HRST = true ∧ t.seq.espiHigh = false) ∧
  (∀ s : State, s.fl.vinValid = true → s.seq.espiHigh = false → s.on F.AO_PAD_STAT_HOST_OK = true →
    Gives .espiResetDeassert s fun t => t.seq.espiHigh = true) ∧
  (∀ s : State, s.fl.vinValid = false → Gives .backupCellRestart s fun t =>
    t.cal.count = 0 ∧ t.cal.frac = 0 ∧ t.word Reg.CAL_RATE = 0 ∧ t.cal.restarted = true) ∧
  (∀ (s : State) (k : Bank) (high : Bool), s.fl.vinValid = true → s.on (bankFields k).1 = false →
    Gives (.bankPresent k high) s fun t =>
      t.on (bankFields k).1 = true ∧ t.on (bankFields k).2 = high ∧ t.on F.AO_PAD_STAT_CHANGED = true) ∧
  (∀ (s : State) (k : Bank), s.on (bankFields k).1 = true →
    Gives (.bankAbsent k) s fun t => t.on (bankFields k).1 = false ∧ t.on F.AO_PAD_STAT_CHANGED = true) ∧
  (∀ (s : State) (k : Bank × Nat × Nat) (ball : Nat), k ∈ [(Bank.a, 80, 120), (Bank.b, 120, 144), (Bank.c, 160, 200)] → k.2.1 ≤ ball →
    ball < k.2.2 → s.fl.vinValid = true → s.aud.tap.hold = 0 → s.on (bankFields k.1).1 = true →
    Gives (.bankAbsent k.1) s fun t => t.padState ball = some .off)

/-! ## The Ledger (chapter 02) -/

/-- The write window (R87, R88, R90, R91). -/
def Obligations.LedgerWindowActs : Prop :=
  (∀ (s : State) (c : Core) (store met : Bool), s.Takes (.core c false) 0 → s.runsFrom (b2n store) = false →
    s.on F.LGR_STATUS_WR_OPEN = false → s.on F.SEQ_STATUS_PFAIL_PIN = true → (met = false ∨ c = .a) →
    Gives (.ledgerWindowOpen (.core c false) 0x3C store met) s fun t =>
      t.on F.LGR_STATUS_WR_OPEN = true ∧ t.rd F.LGR_STATUS_WR_STORE = b2n store ∧ t.rd F.LGR_STATUS_WR_OWNER = c.num) ∧
  (∀ (s : State) (c : Core) (store met : Bool), s.Takes (.core c false) 0 →
    (s.runsFrom (b2n store) = true ∨ s.on F.LGR_STATUS_WR_OPEN = true ∨ s.on F.SEQ_STATUS_PFAIL_PIN = false) →
    Gives (.ledgerWindowOpen (.core c false) 0x3C store met) s fun t =>
      t.on F.LGR_STATUS_WR_REFUSED = true ∧ t.on F.LGR_STATUS_WR_OPEN = s.on F.LGR_STATUS_WR_OPEN) ∧
  (∀ (s : State) (who : Agent) (store : Bool), s.Takes who 0 → s.on F.LGR_STATUS_WR_JTAG = false →
    Gives (.ledgerWindowClose who 0x3C store) s fun t => t.on F.LGR_STATUS_WR_OPEN = false) ∧
  (∀ (s : State) (c : Core) (w : Word), s.Takes (.core c false) 0 → s.on F.LGR_STATUS_WR_OPEN = true →
    s.on F.LGR_STATUS_WR_JTAG = false → s.rd F.LGR_STATUS_WR_OWNER = c.num → s.domOn domFRAM = true →
    Gives (.ledgerWordWrite (.core c false) w false) s fun t =>
      t.HoldsWord (storeBase (s.rd F.LGR_STATUS_WR_STORE) + 4 * s.rd F.LGR_WR_ADDR_WORD) w ∧
      SameMemoryBut (storeBase (s.rd F.LGR_STATUS_WR_STORE) + 4 * s.rd F.LGR_WR_ADDR_WORD) 4 s t ∧
      t.rd F.LGR_WR_ADDR_WORD = (s.rd F.LGR_WR_ADDR_WORD + 1) % 2 ^ 14) ∧
  (∀ s : State, s.domOn 0 = true → s.freezing = false → s.on F.LGR_STATUS_WR_OPEN = true → s.on F.LGR_STATUS_WR_JTAG = false →
    Gives .ledgerWindowIdle s fun t => t.on F.LGR_STATUS_WR_OPEN = false) ∧
  (∀ (s : State) (who : Agent) (store : Bool), s.Takes who 0 → s.on F.LGR_STATUS_CHECK_BUSY = false →
    (s.on F.LGR_STATUS_WR_OPEN = false ∨ s.rd F.LGR_STATUS_WR_STORE ≠ b2n store) →
    Gives (.ledgerCheck who store) s fun t =>
      t.on F.LGR_STATUS_CHECK_BUSY = true ∧ t.rd F.LGR_STATUS_CHECK_STORE = b2n store) ∧
  (∀ s : State, s.on F.LGR_STATUS_CHECK_BUSY = true → s.checkRuns = true →
    Gives .ledgerCheckDone s fun t => t.on F.LGR_STATUS_CHECK_BUSY = false ∧ t.on F.LGR_STATUS_CHECK_DONE = true ∧
      t.rd F.LGR_STATUS_CHECK_CODE = (s.storeCheck (s.rd F.LGR_STATUS_CHECK_STORE)).code % 16)

/-- What the recovery service answers and the JTAG load (R35, R37, R93-R96). -/
def Obligations.LedgerLoadsAct : Prop :=
  (∀ (s : State) (payload : List Byte) (crc : Word) (bad : BitVec 48), s.recoveryOn = true → s.fl.runStore.isSome = true →
    frameLenOk 2 payload.length = true → crc32 ((2 : Byte) :: leBytes 4 payload.length ++ payload) = crc.toNat →
    Gives (.recoveryFrame 2 payload crc bad) s fun t => t.resp = .bytes 0 [0x06]) ∧
  (∀ (s : State) (payload : List Byte) (crc : Word) (bad : BitVec 48), s.recoveryOn = true → s.fl.runStore = none →
    frameLenOk 1 payload.length = true → crc32 ((1 : Byte) :: leBytes 4 payload.length ++ payload) = crc.toNat →
    Gives (.recoveryFrame 1 payload crc bad) s fun t =>
      t.resp = if s.receivedCode payload = 0 then .bytes 0 [0x06]
        else .bytes (s.receivedCode payload) [0x15, BitVec.ofNat 8 (s.receivedCode payload)]) ∧
  (∀ s : State, s.recoveryOn = true → Gives (.recoveryByteGap false) s fun t => t.resp = .bytes 0xFE [0x15, 0xFE]) ∧
  (∀ s : State, s.fl.vinValid = true → Gives .lgrLoad s fun t =>
    t.aud.tap.ir = (if s.jtagTakes 0x18 then 0x18 else 0xFF) ∧ (s.jtagTakes 0x18 = false → t.on F.AUD_STATUS_JREFUSED = true)) ∧
  (∀ (s : State) (w : Word), s.aud.tap.ir = 0x18 → s.live domFRAM = true → s.lgr.loading = false → s.lgr.dead = false →
    Gives (.lgrLoadWord w) s fun t => t.lgr.loading = true ∧ t.lgr.count = w.toNat ∧ t.lgr.cut = false) ∧
  (∀ (s : State) (w : Word), s.aud.tap.ir = 0x18 → s.live domFRAM = true → s.lgr.loading = true → 4 * s.lgr.taken < s.lgr.count →
    s.lgr.blocked = false → s.lgr.dead = false → s.fl.runStore.isSome = true →
    Gives (.lgrLoadWord w) s fun t => t.lgr.taken = s.lgr.taken + 1 ∧
      t.HoldsWord (storeBase (s.rd F.LGR_STATUS_WR_STORE) + 4 * s.rd F.LGR_WR_ADDR_WORD) w ∧
      t.rd F.LGR_WR_ADDR_WORD = (s.rd F.LGR_WR_ADDR_WORD + 1) % 2 ^ 14) ∧
  (∀ (s : State) (bad : BitVec 48), s.aud.tap.ir = 0x18 →
    Gives (.lgrLoadCapture bad) s fun t => t.resp = .bytes s.loadCode.1 [])

/-! ## Tills and reconcile (chapter 03) -/

/-- A reconcile from its request to its end, and the audit (R109-R115, R118, R119). -/
def Obligations.ReconcileActs : Prop :=
  (∀ (s : State) (who : Agent) (limit : BitVec 8) (index : BitVec 6) (met : Bool), s.Takes who 0 → s.on F.TIL_STATUS_BUSY = false →
    (met = false ∨ who.isCore .b = false) → index.toNat < s.tills.length → Gives (.reconcileRequest who 0xC3 limit ⟨index, met⟩) s fun t =>
      t.on F.TIL_STATUS_BUSY = true ∧ t.rd F.TIL_STATUS_INDEX = index.toNat ∧ t.recon.limit = limit.toNat) ∧
  (∀ (s : State) (who : Agent) (limit : BitVec 8) (index : BitVec 6) (met : Bool), s.Takes who 0 →
    (s.on F.TIL_STATUS_BUSY = true ∨ (met = true ∧ who.isCore .b = true)) → Gives (.reconcileRequest who 0xC3 limit ⟨index, met⟩) s fun t => t.on F.TIL_STATUS_REFUSED = true) ∧
  (∀ (s : State) (x : SecTill), s.snapshotDue = true → s.section' (s.rd F.TIL_STATUS_INDEX) = some x →
    reconcilable (x.typ % 4096) = true → bit s.present x.owner = true → (s.snapshotCheck s.shadow x).1 = 0 → s.domOn x.owner = true →
    Gives .reconcileSnapshot s fun t => t.on F.TIL_STATUS_WAITING = true ∧ t.recon.snapped = true ∧
      t.recon.stage = shadowBody s.shadow x.index ∧ t.recon.stalled = []) ∧
  (∀ (s : State) (x : SecTill), s.snapshotDue = true → s.section' (s.rd F.TIL_STATUS_INDEX) = some x →
    reconcilable (x.typ % 4096) = true → bit s.present x.owner = true → (s.snapshotCheck s.shadow x).1 ≠ 0 →
    Gives .reconcileSnapshot s fun t => t.on F.TIL_STATUS_BUSY = false ∧ t.on F.TIL_STATUS_DONE = true ∧
      t.rd F.TIL_STATUS_CODE = (s.snapshotCheck s.shadow x).1 % 16) ∧
  (∀ (s : State) (x : SecTill) (tie : Bool), s.on F.TIL_STATUS_WAITING = true → s.on F.AUD_STATUS_FROZEN = false →
    s.section' (s.rd F.TIL_STATUS_INDEX) = some x → s.safePoint (x.typ % 4096) = true → s.domOn x.owner = true →
    Gives (.reconcileSwitch tie) s fun t => t.on F.TIL_STATUS_BUSY = false ∧ t.on F.TIL_STATUS_WAITING = false ∧
      t.on F.TIL_STATUS_DONE = true ∧ t.rd F.TIL_STATUS_CODE = 0) ∧
  (∀ s : State, s.on F.TIL_STATUS_WAITING = true → s.on F.AUD_STATUS_FROZEN = false → s.recon.limit ≠ 0 →
    Gives (.reconcileLimit false) s fun t => t.on F.TIL_STATUS_BUSY = false ∧ t.on F.TIL_STATUS_DONE = true ∧ t.rd F.TIL_STATUS_CODE = 5) ∧
  (∀ s : State, s.on F.AUD_STATUS_FROZEN = false → s.on F.KX_STATUS_ROUTING = true →
    Gives .divergenceAudit s fun t => t.recon.lastDiff = (s.tills.filter fun x => s.diverges s.shadow x).map (·.index))

/-! ## Domains, stop and flash (chapter 04) -/

/-- Switching domains (R138-R140, R172). -/
def Obligations.DomainsSwitch : Prop :=
  (∀ (s : State) (who : Agent) (mask met : BitVec 24) (d : Fin 24), s.Takes who 0 → s.on F.AUD_STATUS_FROZEN = false →
    mask.getLsbD d = true → s.domOn d = false → s.changing d = false → bit s.present d = true →
    ((domainNeeds d).all fun n => s.domOn n && !s.changing n) = true → bit (contradicted who met.toNat) d = false → (d.val ≠ 5 ∨ s.coreBStart ≠ 0) →
    Gives (.domainSet who 0x69 mask met) s fun t => t.changing d = true ∧ t.domOn d = false) ∧
  (∀ (s : State) (who : Agent) (mask met : BitVec 24) (d : Fin 24), s.Takes who 0 → s.on F.AUD_STATUS_FROZEN = false →
    mask.getLsbD d = true → s.domOn d = false → bit s.present d = false →
    Gives (.domainSet who 0x69 mask met) s fun t => t.on F.PWR_FAIL_REFUSED = true) ∧
  (∀ (s : State) (who : Agent) (mask met : BitVec 24) (d : Fin 24), s.Takes who 0 → s.on F.AUD_STATUS_FROZEN = false →
    mask.getLsbD d = true → (s.changing d = true ∨ bit (contradicted who met.toNat) d = true) →
    ∀ c ∈ [Instr.domainSet who 0x69 mask met, .domainClear who 0x69 mask met], Gives c s fun t => t.on F.PWR_FAIL_REFUSED = true) ∧
  (∀ (s : State) (who : Agent) (mask met : BitVec 24) (d : Fin 24), s.Takes who 0 → s.on F.AUD_STATUS_FROZEN = false →
    mask.getLsbD d = true → s.domOn d = true → s.changing d = false → 4 < d.val → bit (contradicted who met.toNat) d = false →
    s.needed mask.toNat (contradicted who met.toNat) d = false → Gives (.domainClear who 0x69 mask met) s fun t => t.changing d = true) ∧
  (∀ (s : State) (d : Fin 24) (tie : Bool), s.changing d = true → s.domOn d = false → (domainNeeds d).all s.domOn = true →
    Gives (.domainOnComplete d tie) s fun t => t.domOn d = true) ∧
  (∀ (s : State) (d : Fin 24), s.changing d = true → s.domOn d = true → s.coreA.strand ≠ .waiting → s.coreB.strand ≠ .waiting →
    Gives (.domainOffComplete d) s fun t => t.domOn d = false) ∧
  (∀ (s : State) (d : Fin 24), s.changing d = true → s.domOn d = false →
    Gives (.domainPowerFail d) s fun t => bit (t.rd F.PWR_FAIL_FAIL) d = true ∧ t.changing d = false) ∧
  (∀ (s : State) (d : Fin 24), bit s.pwr.retryDue d = true → s.freezing = false → s.domOn d = false → s.changing d = false →
    Gives (.domainRetry d) s fun t => t.changing d = true ∧ t.pwr.retryDue = clrBit s.pwr.retryDue d)

/-- Stop and wake (R143-R152, R174). -/
def Obligations.StopAndWake : Prop :=
  (∀ (s : State) (c : Core) (ret : BitVec 4) (lim : BitVec 8), s.Takes (.core c false) 0 → s.freezing = false → s.pwr.phase = .run →
    s.runsFirmware c = true → Gives (.stopRequest (.core c false) 0x5C ret lim false) s fun t =>
      (match c with | .a => t.pwr.reqA | .b => t.pwr.reqB) = some ⟨ret.toNat, if lim = 0 then 10 else lim.toNat⟩) ∧
  (∀ (s : State) (ret : BitVec 4) (lim : BitVec 8), s.Takes (.core .a false) 0 → s.freezing = false → s.pwr.phase = .run →
    s.runsFirmware .a = true → s.coreB.on = false → s.pwr.reqB = none → Gives (.stopRequest (.core .a false) 0x5C ret lim false) s fun t =>
      t.pwr.phase = .accepted ∧ t.pwr.retained = ret.toNat) ∧
  (∀ s : State, s.pwr.phase = .run → (s.pwr.reqA.isSome = true ∨ s.pwr.reqB.isSome = true) →
    Gives .stopPartnerTimeout s fun t => t.rd F.PWR_STOP_STAT_CODE = 2 ∧ t.pwr.reqA = none ∧ t.pwr.reqB = none) ∧
  (∀ (s : State) (die : Int) (edge : BitVec 19) (low : BitVec 16), s.pwr.phase = .accepted → (s.stopRefusal die).1 = 0 →
    (s.stopRefusal die).2.wakeEnabled (s.stopRefusal die).2.wakeActive = 0 → s.vlt.commit = none → s.flash.cmd = none →
    s.sealEng.run = none → s.lc.run = none → (s.stopRefusal die).2.wakeEnabled edge.toNat = 0 →
    Gives (.stopEntry die edge low) s fun t => t.pwr.phase = .stopped ∧ t.pwr.reqA = none ∧ t.pwr.reqB = none) ∧
  (∀ (s : State) (die : Int) (edge : BitVec 19) (low : BitVec 16), s.pwr.phase = .accepted → s.seq.espiHigh = true →
    Gives (.stopEntry die edge low) s fun t => t.pwr.phase = .run ∧ t.rd F.PWR_STOP_STAT_CODE = 3) ∧
  (∀ (s : State) (src : BitVec 19) (die : Option Int) (bad : BitVec 48), s.pwr.phase = .stopped →
    s.wakeEnabled (src.toNat ||| s.wakeActive) ≠ 0 → Gives (.wake src die bad) s fun t => t.pwr.phase = .run) ∧
  (∀ (s : State) (src : BitVec 19) (die : Option Int) (bad : BitVec 48), s.pwr.phase = .accepted →
    s.wakeEnabled (src.toNat ||| s.wakeActive) ≠ 0 → Gives (.wake src die bad) s fun t =>
      t.pwr.phase = .run ∧ t.rd F.PWR_STOP_STAT_CODE = 1) ∧
  (∀ (s : State) (die : Int) (bad : BitVec 48), s.pwr.phase = .stopped → (s.budgetCheck die).1 = false →
    Gives (.stopBudgetCheck die bad) s fun t => t.pwr.phase = .stopped ∧ t.rd F.PWR_STOP_STAT_TJ_USED = wrapInt 8 (die + 5)) ∧
  (∀ (s : State) (die : Int) (bad : BitVec 48), s.pwr.phase = .stopped → (s.budgetCheck die).1 = true →
    Gives (.stopBudgetCheck die bad) s fun t => t.pwr.phase = .run) ∧
  (∀ (s : State) (bad : BitVec 48), s.pwr.phase = .stopped →
    Gives (.xt32Fail bad) s fun t => t.pwr.phase = .run ∧ t.pwr.xt32Fail = true)

/-- The flash commands (R156-R158, R160). -/
def Obligations.FlashCommandsAct : Prop :=
  (∀ (s : State) (who : Agent), s.Takes who domFLASH → s.flash.cmd = none → s.pwr.phase = .run →
    ∀ p ∈ [(Instr.program who 0xF1, 1), (.eraseSector who 0xF1, 2), (.eraseHalf who 0xF1, 3), (.blankCheck who 0xF1, 4)],
      s.flashRefusal p.2 (s.rd F.FLC_ADDR_ADDR) = 0 →
      Gives p.1 s fun t => t.on F.FLC_STATUS_BUSY = true ∧
        t.flash.cmd.map (fun c => (c.op, c.addr, c.abort)) = some (p.2, s.rd F.FLC_ADDR_ADDR, false)) ∧
  (∀ (s : State) (who : Agent), s.Takes who domFLASH → s.flash.cmd = none → s.pwr.phase = .run →
    ∀ p ∈ [(Instr.program who 0xF1, 1), (.eraseSector who 0xF1, 2), (.eraseHalf who 0xF1, 3), (.blankCheck who 0xF1, 4)],
      s.flashRefusal p.2 (s.rd F.FLC_ADDR_ADDR) ≠ 0 →
      Gives p.1 s fun t => t.on F.FLC_STATUS_BUSY = false ∧ t.on F.FLC_STATUS_DONE = true ∧
        t.rd F.FLC_STATUS_CODE = s.flashRefusal p.2 (s.rd F.FLC_ADDR_ADDR) ∧ SameMemory s t) ∧
  (∀ (s : State) (who : Agent) (c : FlashCmd), s.Takes who domFLASH → s.flash.cmd = some c → (c.op = 2 ∨ c.op = 3) →
    Gives (.flashAbort who 0xF1) s fun t => t.flash.cmd = some { c with abort := true }) ∧
  (∀ (s : State) (c : FlashCmd), s.flash.cmd = some c → s.live domFLASH = true → c.op = 1 → c.data.length = 16 →
    (s.servesImages = false ∨ (s.flashDone true).halfCode (c.addr / 0x100000 % 2) ≠ 0) →
    Gives (.flashCommandDone true) s fun t => t.flash.cmd = none ∧ t.on F.FLC_STATUS_BUSY = false ∧ t.rd F.FLC_STATUS_CODE = 0 ∧
      (∀ i (h : i < c.data.length), memGet t.mem (flashBase + 16 * (c.addr / 16) + i) = c.data[i]) ∧
      SameMemoryBut (flashBase + 16 * (c.addr / 16)) 16 s t) ∧
  (∀ (s : State) (c : FlashCmd), s.flash.cmd = some c → s.live domFLASH = true → c.op = 1 → s.servesImages = true →
    (s.flashDone true).halfCode (c.addr / 0x100000 % 2) = 0 →
    Gives (.flashCommandDone true) s fun t => t.on F.AO_FL_STATUS_FW_NONE = false) ∧
  (∀ (s : State) (c : FlashCmd) (same : Bool), s.flash.cmd = some c → s.live domFLASH = true → (c.op = 2 ∨ c.op = 3) → c.abort = false →
    c.addr < 0x200000 →
    Gives (.flashCommandDone same) s fun t => t.flash.cmd = none ∧ t.on F.FLC_STATUS_DONE = true ∧ t.rd F.FLC_STATUS_CODE = 0 ∧
      (∀ i, i < (flashRegion c.op c.addr).2 → memGet t.mem (flashBase + (flashRegion c.op c.addr).1 + i) = 0xFF) ∧
      SameMemoryBut (flashBase + (flashRegion c.op c.addr).1) (flashRegion c.op c.addr).2 s t) ∧
  (∀ (s : State) (corrected bad : Bool), s.live domFLASH = true → s.on F.FLC_SCRUB_CFG_EN = true → s.flash.cmd = none →
    Gives (.flashScrubRead corrected bad) s fun t =>
      t.rd F.FLC_SCRUB_STAT_NEXT_ROW = (s.rd F.FLC_SCRUB_STAT_NEXT_ROW + 1) % 131072 ∧ SameMemory s t)

/-! ## The Sequencer (chapter 05) -/

/-- Cycles and steps (R177, R179, R180, R185, R187, R188, R195, R203): a cycle counts, takes the power-good pins, leaves the fixed conditions and IDLE
as its own outcome makes them, and arms every idle step that is satisfied; the ends of DELAY, RISE_MIN, PG_TIMEOUT and the 10 ms of a retry act on
their step or rail. -/
def Obligations.SequencerStepsAct : Prop :=
  (∀ (s : State) (pg : Word), s.seqLive = true → Gives (.sequencerCycle pg) s fun t =>
    t.seq.cyc = (s.seq.cyc + 1) % 65536 ∧ t.seq.pgPins = pg.toNat ∧ t.rd F.SEQ_COND_FIX_COND = t.fixedConds ∧
    t.on F.SEQ_STATUS_IDLE = (t.activeMask == 0) ∧
    ∀ r ∈ t.stepRecs, t.stepState r.num = 0 → t.predsDone r = true → t.condTrue r.cond = true → (r.kind ≠ 0 ∨ t.onHeld = false) →
      bit t.seq.armed r.num = true) ∧
  (∀ (s : State) (n : Nat) (r : StepRec), n < 64 → s.seqLive = true → s.activeIn n .delay = some r → r.kind = 2 →
    Gives (.stepDelayElapsed n) s fun t => t.stepState n = 2) ∧
  (∀ (s : State) (n : Nat) (r : StepRec) (x : RailRec), n < 64 → s.seqLive = true → s.activeIn n .delay = some r → r.kind = 0 →
    s.onHeld = false → s.offStepActive r.target = false → r.target < 32 → s.railRec r.target = some x → s.pgValid x ≠ some true → x.tmo ≠ 0 →
    Gives (.stepDelayElapsed n) s fun t => t.railOn r.target = true) ∧
  (∀ (s : State) (n : Nat) (r : StepRec) (x : RailRec), n < 64 → s.seqLive = true → s.activeIn n .waitPg = some r →
    s.railRec r.target = some x → x.src = 0xFF → Gives (.railSettled n) s fun t => t.stepState n = 2) ∧
  (∀ (s : State) (n : Nat) (r : StepRec) (x : RailRec), n < 64 → s.seqLive = true → s.stepRec n = some r → s.stepState n = 1 →
    ((s.step' n).phase = .waitPg ∨ (s.step' n).phase = .waitOn) → r.target < 32 → s.railRec r.target = some x → s.pgValid x = some false →
    Gives (.pgLate n) s fun t =>
      t.rd F.SEQ_FAULT_LOG_KIND = 1 ∧ t.rd F.SEQ_FAULT_LOG_STEP = n ∧ t.rd F.SEQ_FAULT_LOG_RAIL = r.target) ∧
  (∀ (s : State) (n : Nat) (r : StepRec) (x : RailRec), n < 64 → s.seqLive = true → s.activeIn n .waitInvalid = some r → r.target < 32 →
    s.railRec r.target = some x → s.pgValid x = some true →
    Gives (.pgStuck n) s fun t =>
      t.rd F.SEQ_FAULT_LOG_KIND = 3 ∧ t.rd F.SEQ_FAULT_LOG_STEP = n ∧ t.rd F.SEQ_FAULT_LOG_RAIL = r.target) ∧
  (∀ (s : State) (n : Nat) (r : StepRec) (x : RailRec), n < 64 → s.seqLive = true → s.activeIn n .waitFall = some r →
    s.railRec r.target = some x → s.pgValid x = some true →
    Gives (.seqFallLate n) s fun t => t.stepState n = 2 ∧ t.rd F.SEQ_FAULT_LOG_KIND = 4) ∧
  (∀ (s : State) (rail : Nat) (x : RailRec), s.seqLive = true → s.railRec rail = some x → (s.rail' rail).dis = true →
    Gives (.dischargeTimeout rail) s fun t => (t.rail' rail).dis = false) ∧
  (∀ (s : State) (rail : Nat) (r : StepRec), s.seqLive = true →
    s.stepRecs.find? (fun r => r.kind == 0 && r.target == rail && s.stepState r.num == 1 && (s.step' r.num).phase == .retry) = some r →
    Gives (.railRetryRestart rail) s fun t => (t.step' r.num).phase = .delay ∧ (t.step' r.num).cnt = 0) ∧
  (∀ (s : State) (m : Fin 16) (code : BitVec 10), s.frozen 0 = false → s.fl.vinValid = true →
    Gives (.monitorSample m code) s fun t => t.rd (F.SEQ_MON_MV m) = code.toNat * 3300 / 1024)

/-- The Sequencer's commands and PFAIL_N (R178, R183, R188, R189, R191, R192, R194, R197, R205). -/
def Obligations.SequencerCommandsAct : Prop :=
  (∀ (s : State) (who : Agent), s.Takes who 0 → s.on F.SEQ_STATUS_LOCKOUT = false →
    Gives (.runSet who 0x96 0) s fun t => t.on F.SEQ_STATUS_RUN = true) ∧
  (∀ (s : State) (who : Agent) (met : BitVec 4), s.Takes who 0 →
    Gives (.runClr who 0x96 met) s fun t => t.on F.SEQ_STATUS_RUN = false) ∧
  (∀ (s : State) (who : Agent) (met : BitVec 4), s.Takes who 0 → met.getLsbD 1 = true →
    Gives (.runSet who 0x96 met) s fun t => t.on F.SEQ_STATUS_RUN = false) ∧
  (∀ (s : State) (who : Agent), s.Takes who 0 → s.on F.SEQ_STATUS_LOCKOUT = false →
    Gives (.runToggle who 0x96 0) s fun t => t.on F.SEQ_STATUS_RUN = !s.on F.SEQ_STATUS_RUN) ∧
  (∀ (s : State) (who : Agent), s.Takes who 0 → s.on F.SEQ_STATUS_LOCKOUT = false →
    Gives (.runToggle who 0x96 4) s fun t => t.on F.SEQ_STATUS_RUN = s.on F.SEQ_STATUS_RUN) ∧
  (∀ (s : State) (who : Agent) (met : BitVec 4), s.Takes who 0 →
    Gives (.clearLock who 0x96 met) s fun t => t.on F.SEQ_STATUS_LOCKOUT = false) ∧
  (∀ (s : State) (who : Agent) (arg : BitVec 7) (r : StepRec), s.Takes who 0 → s.stepRec arg.toNat = some r →
    s.stepState arg.toNat = 0 → s.predsDone r = true → (r.kind ≠ 0 ∨ s.onHeld = false) →
    Gives (.stepReq who 0x96 arg) s fun t => bit t.seq.armed arg.toNat = true) ∧
  (∀ (s : State) (who : Agent) (arg : BitVec 7), s.Takes who 0 → arg.toNat < 64 → s.stepState arg.toNat = 3 →
    Gives (.rearm who 0x96 arg) s fun t => t.stepState arg.toNat = 0) ∧
  (∀ (s : State) (who : Agent) (arg : BitVec 7), s.Takes who 0 → s.railOn arg.toNat = true →
    Gives (.forceOff who 0x96 arg) s fun t => bit t.seq.drop arg.toNat = true) ∧
  (∀ (s : State) (who : Agent), s.Takes who 0 →
    Gives (.allOff who 0x96) s fun t => t.seq.drop = s.seq.drop ||| s.rd F.SEQ_RAIL_EN_EN) ∧
  (∀ (s : State) (who : Agent) (arg : BitVec 7), s.Takes who 0 →
    Gives (.condSet who 0x96 arg false) s fun t => bit t.seq.latch arg.toNat = true) ∧
  (∀ (s : State) (who : Agent) (arg : BitVec 7), s.Takes who 0 →
    Gives (.condSet who 0x96 arg true) s fun t => bit t.seq.latch arg.toNat = false) ∧
  (∀ (s : State) (who : Agent) (arg : BitVec 7), s.Takes who 0 →
    Gives (.condClr who 0x96 arg) s fun t => bit t.seq.latch arg.toNat = false) ∧
  (∀ s : State, s.seqLive = true → Gives .pfailFall s fun t =>
    t.on F.SEQ_STATUS_PFAIL_PIN = false ∧ t.seq.holdRun = s.on F.SEQ_PFAIL_DROP ∧ t.seq.recovering = false) ∧
  (∀ s : State, s.seqLive = true → s.seq.holdRun = true → s.on F.SEQ_STATUS_PFAIL_PIN = false → s.on F.SEQ_PFAIL_DROP = true →
    Gives (.pfailHoldElapsed false) s fun t =>
      t.on F.SEQ_STATUS_PFAIL_HOLD = true ∧ t.seq.drop = s.seq.drop ||| s.rd F.SEQ_RAIL_EN_EN) ∧
  (∀ s : State, s.seqLive = true → Gives .pfailRise s fun t =>
    t.on F.SEQ_STATUS_PFAIL_PIN = true ∧ t.seq.recovering = s.on F.SEQ_STATUS_PFAIL_HOLD) ∧
  (∀ s : State, s.seqLive = true → s.seq.recovering = true → s.on F.SEQ_STATUS_PFAIL_PIN = true →
    Gives .pfailRecover s fun t => t.on F.SEQ_STATUS_PFAIL_HOLD = false ∧ t.seq.recovering = false) ∧
  (∀ s : State, s.seqLive = true → s.seq.policyDue = true → Gives .policyApply s fun t =>
    t.seq.policyDue = false ∧
    ((bits s.seq.policy 1 0 = 0 ∨ bits s.seq.policy 1 0 = 3 ∨ (bits s.seq.policy 1 0 = 2 ∧ bit s.seq.policy 2 = true)) →
      t.on F.SEQ_STATUS_RUN = true))

/-! ## The Vault and the Reserve (chapter 06) -/

/-- Commits (R216-R221, R237, R239). -/
def Obligations.VaultCommitsAct : Prop :=
  (∀ (s : State) (who : Agent) (w : Word) (met : BitVec 2) (c : Commit), s.Takes who domFRAM → F.VLT_COMMIT_KEY.of w = 0xE7 →
    F.VLT_COMMIT_GO.has w = true → (met.getLsbD 1 = false ∨ who.isCore .b = false) →
    s.on F.VLT_STATUS_BUSY = false → s.on F.VLT_STATUS_WAITING = false → s.compose = .inl c → s.gateCode c.image.length = 0 →
    Gives (.vaultCommitRequest who ⟨w, met⟩) s fun t => t.vlt.commit = some c ∧ t.on F.VLT_STATUS_BUSY = true ∧
      memWord t.mem (bankBase c.bank + 0xBFF0) = magicIntent ∧ SameMemoryBut (bankBase c.bank + 0xBFF0) 4 s t) ∧
  (∀ (s : State) (who : Agent) (w : Word) (met : BitVec 2) (c : Commit), s.Takes who domFRAM → F.VLT_COMMIT_KEY.of w = 0xE7 →
    F.VLT_COMMIT_GO.has w = true → (met.getLsbD 1 = false ∨ who.isCore .b = false) → F.VLT_COMMIT_WAIT.of w ≠ 0 → s.on F.VLT_STATUS_BUSY = false → s.on F.VLT_STATUS_WAITING = false → s.compose = .inl c →
    (s.gateCode c.image.length = 1 ∨ s.gateCode c.image.length = 2 ∨ s.gateCode c.image.length = 3) →
    Gives (.vaultCommitRequest who ⟨w, met⟩) s fun t => t.on F.VLT_STATUS_WAITING = true ∧ SameMemory s t) ∧
  (∀ (s : State) (who : Agent) (w : Word) (met : BitVec 2), s.Takes who domFRAM → F.VLT_COMMIT_KEY.of w = 0xE7 →
    F.VLT_COMMIT_GO.has w = true → met.getLsbD 1 = true → who.isCore .b = true →
    Gives (.vaultCommitRequest who ⟨w, met⟩) s fun t => t.rd F.VLT_STATUS_CODE = 4 ∧ t.vlt = s.vlt ∧ SameMemory s t) ∧
  (∀ (s : State) (c : Commit) (tie : Bool), s.on F.VLT_STATUS_WAITING = true → s.live domFRAM = true → s.compose = .inl c →
    s.gateCode c.image.length = 0 → Gives (.vaultGateOpen tie) s fun t =>
      t.vlt.commit = some c ∧ t.on F.VLT_STATUS_BUSY = true ∧ t.on F.VLT_STATUS_WAITING = false) ∧
  (∀ (s : State) (c : Commit) (bad : BitVec 48), s.vlt.commit = some c → s.live domFRAM = true → s.fl.deferred = .none →
    Gives (.vaultCommitDone true bad) s fun t => t.vlt.commit = none ∧ t.vlt.mirror = c.image ∧ t.vlt.draft = [] ∧
      t.rd F.VLT_SERIAL_SERIAL = c.serial % 2 ^ 32 ∧ t.rd F.VLT_STATUS_CODE = 0 ∧ t.on F.VLT_STATUS_DONE = true ∧
      t.on F.VLT_STATUS_BUSY = false) ∧
  (∀ (s : State) (c : Commit) (bad : BitVec 48), s.vlt.commit = some c → s.live domFRAM = true → s.fl.deferred = .none →
    Gives (.vaultCommitDone false bad) s fun t => t.vlt.commit = none ∧ t.vlt.mirror = s.vlt.mirror ∧
      t.rd F.VLT_STATUS_CODE = 7 ∧ t.rd F.VLT_FAILED_SERIAL_SERIAL = c.serial % 2 ^ 32) ∧
  (∀ s : State, s.on F.VLT_STATUS_WAITING = true → s.live domFRAM = true → Gives .vaultWaitExpired s fun t =>
    t.rd F.VLT_STATUS_CODE = 10 ∧ t.on F.VLT_STATUS_DONE = true ∧ t.on F.VLT_STATUS_WAITING = false) ∧
  (∀ (s : State) (c : Commit), s.vlt.hwWaiting = true → s.lastDiffers = true → s.vlt.lastDue = false → s.live domFRAM = true →
    s.on F.VLT_STATUS_BUSY = false → s.on F.VLT_STATUS_WAITING = false → s.compose = .inl c → s.gateCode c.image.length = 0 →
    Gives .hwCommitRetry s fun t => t.vlt.commit = some c ∧ t.vlt.hwWaiting = false ∧ t.on F.VLT_STATUS_BUSY = true) ∧
  (∀ (s u : State) (c : Commit), s.vlt.hwWaiting = true → s.lastDiffers = false → s.live domFRAM = true →
    u = ({ s with vlt := { s.vlt with lastDue := false } } : State).unpend 1 → u.vlt.pend.isEmpty = false →
    u.on F.VLT_STATUS_BUSY = false → u.on F.VLT_STATUS_WAITING = false → u.compose = .inl c → u.gateCode c.image.length = 0 →
    Gives .hwCommitRetry s fun t => t.vlt.commit = some c ∧ t.vlt.hwWaiting = false ∧ t.on F.VLT_STATUS_BUSY = true)

/-- The draft, VLT_FIND and the Daybook (R218, R228, R229, R231). -/
def Obligations.VaultDraftAndDaybookAct : Prop :=
  (∀ (s : State) (who : Agent) (w : Word), s.Takes who domFRAM → s.on F.VLT_STATUS_BUSY = false → s.vlt.draft.length < 1024 →
    Gives (.vaultDraftAppend who w) s fun t => t.vlt.draft = s.vlt.draft ++ [w.toNat] ∧
      t.rd F.VLT_STATUS_FILL = s.vlt.draft.length + 1) ∧
  (∀ (s : State) (who : Agent) (w : Word), s.Takes who domFRAM → (s.on F.VLT_STATUS_BUSY = true ∨ 1024 ≤ s.vlt.draft.length) →
    Gives (.vaultDraftAppend who w) s fun t => t.vlt.draft = s.vlt.draft ∧ t.on F.VLT_STATUS_REFUSED = true) ∧
  (∀ (s : State) (who : Agent) (w : Word), s.Takes who domFRAM → F.VLT_DRAFT_CTL_CLEAR.has w = true → s.on F.VLT_STATUS_BUSY = false →
    Gives (.vaultDraftClear who w) s fun t => t.vlt.draft = [] ∧ t.rd F.VLT_STATUS_FILL = 0) ∧
  (∀ (s : State) (who : Agent) (w : Word), s.Open domFRAM → Gives (.vaultFind who w false) s fun t =>
    t.rd F.VLT_FIND_ID = F.VLT_FIND_ID.of w ∧ t.peek Reg.VLT_FOUND = t.vltFound) ∧
  (∀ (s : State) (who : Agent) (w : Word), s.Open domFRAM → 0x80 ≤ F.VLT_LOG_TYPE.of w → s.vlt.queue.length < 16 →
    Gives (.daybookLog who w) s fun t => t.vlt.queue = s.vlt.queue ++ [⟨F.VLT_LOG_TYPE.of w, s.cal.count, s.rd F.VLT_LOG_D0_DATA,
      s.rd F.VLT_LOG_D1_DATA, s.rd F.VLT_LOG_D2_DATA⟩] ∧ t.rd F.VLT_DAYBOOK_QUEUED = s.vlt.queue.length + 1) ∧
  (∀ (s : State) (who : Agent) (w : Word), s.Open domFRAM → 0x80 ≤ F.VLT_LOG_TYPE.of w → 16 ≤ s.vlt.queue.length →
    Gives (.daybookLog who w) s fun t => t.vlt.queue = s.vlt.queue ∧ t.on F.VLT_STATUS_REFUSED = true) ∧
  (∀ (s : State) (e : DayEntry) (q : List DayEntry), s.live domFRAM = true → s.on F.VLT_STATUS_BUSY = false → s.gateCode 32 = 0 →
    s.ready = true → s.waitingStarts = false → s.vlt.lostSince = 0 → s.vlt.queue = e :: q →
    Gives .daybookAppend s fun t => t.vlt.queue = q ∧ t.vlt.nextSeq = (s.vlt.nextSeq + 1) % 2 ^ 32 ∧
      t.rd F.VLT_DAYBOOK_NEXT = (s.rd F.VLT_DAYBOOK_NEXT + 1) % 512 ∧
      memBytes t.mem (daybookSlot (s.rd F.VLT_DAYBOOK_NEXT)) 32 = dayBytes s.vlt.nextSeq e ∧
      SameMemoryBut (daybookSlot (s.rd F.VLT_DAYBOOK_NEXT)) 32 s t)

/-- The Reserve gauge (R224-R226). -/
def Obligations.ReserveActs : Prop :=
  (∀ (s : State) (mv ma : Nat) (high : Bool), s.frozen 0 = false → s.fl.vinValid = true →
    Gives (.reserveSample mv ma high) s fun t => t.rd F.RSV_VHOLD_MV = min mv 4095 ∧ t.rd F.RSV_LOAD_MA = min ma 255 ∧
      t.vlt.pfailOk = high ∧ t.on F.RSV_STATUS_GATE = (t.gateCode t.vlt.mirror.length == 0)) ∧
  (∀ (s : State) (who : Agent) (w : Word), s.Takes who 0 → F.RSV_MEASURE_GO.has w = true → s.on F.RSV_STATUS_MEASURING = false →
    Gives (.rsvMeasure who w) s fun t => t.vlt.measDue = true) ∧
  (∀ s : State, s.fl.vinValid = true → s.frozen 0 = false → s.on F.RSV_STATUS_MEASURING = false → s.on F.RSV_STATUS_VALID = true →
    Gives .reservePeriodElapsed s fun t => t.vlt.measDue = true) ∧
  (∀ s : State, s.fl.vinValid = true → s.frozen 0 = false → s.vlt.measDue = true → s.pwr.phase = .run →
    Gives .reserveMeasureStart s fun t => t.vlt.measDue = false ∧ t.on F.RSV_STATUS_MEASURING = true) ∧
  (∀ (s : State) (ns : Nat) (tie : Bool), s.on F.RSV_STATUS_MEASURING = true → s.frozen 0 = false →
    Gives (.reserveMeasureDone ns tie) s fun t =>
      t.rd F.RSV_CAP_UF = (if ns / 2000 < 100 then 0 else min (ns / 2000) 10000) ∧ t.on F.RSV_STATUS_CAP_LOW = decide (ns / 2000 < 100) ∧ t.on F.RSV_STATUS_VALID = true ∧ t.on F.RSV_STATUS_MEASURING = false) ∧
  (∀ s : State, s.on F.RSV_STATUS_MEASURING = true → s.frozen 0 = false → Gives .reserveMeasureTimeout s fun t =>
    t.rd F.RSV_CAP_UF = 10000 ∧ t.on F.RSV_STATUS_VALID = true ∧ t.on F.RSV_STATUS_MEASURING = false)

/-! ## The K4 cores (chapters 07 and 08) -/

/-- A bundle issues (R246-R249, R268, R284, R293): with no memory access and no transfer the PC goes to the next bundle; an X or Y syllable writes
its result and, with F, the flags; a fault found before the access is raised and nothing of the bundle takes effect; a load and a store in
SRAM complete; an access over the Strand leaves the core waiting. t0 is the state after the fetch, with the bundle noted as the last issued. -/
def Obligations.BundlesIssue : Prop :=
  ∀ (s u t0 : State) (c : Core) (cyc fe : Nat) (note : BusNote) (p : List Nat), s.canIssue c = true → s.turnWaits c note.turn = false →
    (s.modCore c fun u => { u with cycle := (u.cycle + cyc) % 2 ^ 64 }).fetchBundle c fe = (.inl p, u) →
    (u.core c).divHolds p = false → t0 = u.modCore c (fun x => { x with lastPc := x.pc }) →
    (∀ f, t0.issueFail c p note.fill = some f → Gives (.bundleIssue c cyc fe note) s fun t =>
      (t.core c).exc.map (fun e => (e.code, e.ret)) = some (f.code, (t0.core c).pc) ∧ (t.core c).pc = (t0.core c).pc ∧
      (t.core c).com = (t0.core c).com ∧ (t.core c).ring = (t0.core c).ring ∧ (t.core c).flags = (t0.core c).flags ∧ SameMemory t0 t) ∧
    (t0.issueFail c p note.fill = none → memSyl p = none → (p.all fun w => sylUnit w != 3) = true → (t0.core c).lowDue = false →
      Gives (.bundleIssue c cyc fe note) s fun t =>
        (t.core c).pc = ((t0.core c).pc + 4 * p.length) % 2 ^ 32 ∧ (t.core c).lastPc = (t0.core c).pc) ∧
    (∀ w : Syl, p = [w] → sylUnit w ≤ 1 → isDivide w = false → opXY w ≠ 0x18 → rdXY w ≠ 0 → (t0.core c).com.length = 8 →
      (t0.core c).ring.length = 120 → t0.issueFail c p note.fill = none → (t0.core c).lowDue = false →
      Gives (.bundleIssue c cyc fe note) s fun t =>
        (t.core c).reg (rdXY w) = (execXY w (t0.core c).flags ((t0.core c).reg (raXY w)) ((t0.core c).reg (rbXY w)) ((t0.core c).reg (rdXY w))).1 ∧
        (t.core c).flags = (if sylF w && formXY (opXY w) != .k then
          (execXY w (t0.core c).flags ((t0.core c).reg (raXY w)) ((t0.core c).reg (rbXY w)) ((t0.core c).reg (rdXY w))).2 else (t0.core c).flags)) ∧
    (∀ w : Syl, p = [w] → memSyl p = some w → sylLoads w = true → opMC w ≠ 10 → rM w ≠ 0 → (t0.core c).com.length = 8 →
      (t0.core c).ring.length = 120 → t0.issueFail c p note.fill = none → t0.accessFail c w = none → (t0.core c).lowDue = false →
      runIn ((t0.core c).effective w) 1 sramBase 0x40000 = true → t0.sramOn ((t0.core c).effective w) (sylSize w) = true →
      ((t0.core c).buffered ((t0.core c).effective w) (sylSize w) = true ∨ t0.dataEcc note ((t0.core c).effective w) (sylSize w) = 0) →
      Gives (.bundleIssue c cyc fe note) s fun t =>
        (t.core c).reg (rM w) = loadValue w (wordOf (t0.coreBytes c ((t0.core c).effective w) (sylSize w))) ∧ SameMemory t0 t) ∧
    (∀ w : Syl, p = [w] → memSyl p = some w → sylLoads w = false → t0.issueFail c p note.fill = none → t0.accessFail c w = none →
      (t0.core c).lowDue = false → runIn ((t0.core c).effective w) 1 sramBase 0x40000 = true →
      t0.sramOn ((t0.core c).effective w) (sylSize w) = true → (t0.core c).sbuf.length < 4 →
      Gives (.bundleIssue c cyc fe note) s fun t =>
        (t.core c).sbuf = (t0.core c).sbuf ++ [((t0.core c).effective w, (t0.core c).stored w)] ∧ SameMemory t0 t) ∧
    (∀ w : Syl, memSyl p = some w → t0.issueFail c p note.fill = none → t0.accessFail c w = none → strandAccess w ((t0.core c).effective w) = true →
      Gives (.bundleIssue c cyc fe note) s fun t => (t.core c).strand = .waiting ∧ (t.core c).inFlight = p)

/-- The other steps of a core (R136, R173, R251, R276, R278, R284, R295, R304): an outstanding access ends or is given up, the oldest buffered
store reaches SRAM, the divider writes its result, a WAIT ends, and the watchdog starts and is kicked. -/
def Obligations.CoreStepsAct : Prop :=
  (∀ (s : State) (c : Core) (note : BusNote) (w : Syl), (s.core c).strand = .waiting → memSyl (s.core c).inFlight = some w →
    s.writeStalls ((s.core c).effective w) (sylSize w) = false → (sylStores w = false ∨ (s.core c).effective w ≠ Reg.PWR_STOP) →
    Gives (.strandAccessComplete c note) s fun t => (t.core c).strand = .none) ∧
  (∀ (s : State) (c : Core) (note : BusNote), (s.core c).strand = .finished →
    Gives (.strandAccessComplete c note) s fun t => (t.core c).strand = .none) ∧
  (∀ (s : State) (c : Core) (w : Syl), (s.core c).strand = .waiting → memSyl (s.core c).inFlight = some w →
    Gives (.strandTimeout c) s fun t => (t.core c).strand = .none ∧ (t.core c).exc.map (fun e => (e.code, e.ret)) = some (9, (s.core c).pc)) ∧
  (∀ (s : State) (c : Core) (bad turn : Bool) (a : Nat) (d : List Byte) (r : List (Nat × List Byte)), (s.core c).sbuf = (a, d) :: r →
    (turn = false ∨ s.turnWaits c (2 ^ ((a - sramBase) / 0x10000)) = false) → Gives (.storeBufferWriteBack c ⟨bad, turn⟩) s fun t => (t.core c).sbuf = r ∧ memBytes t.mem a d.length = d ∧ SameMemoryBut a d.length s t) ∧
  (∀ (s : State) (c : Core) (d : Divide), s.coreRuns c = true → (s.core c).div = some d →
    Gives (.divideComplete c) s fun t => (t.core c).div = none ∧
      (0 < d.phys → d.phys < 128 → (s.core c).com.length = 8 → (s.core c).ring.length = 120 →
        (t.core c).getPhys d.phys = BitVec.ofNat 32 d.value)) ∧
  (∀ (s : State) (c : Core), s.coreRuns c = true → (s.core c).waiting = true → (s.qualifying c).isSome = true →
    Gives (.waitRelease c) s fun t => (t.core c).waiting = false) ∧
  (∀ (s : State) (c : Core) (timeout : BitVec 24), (s.core c).on = true → s.on (F.EVT_WDOG_CTL_EN.own c) = false → timeout ≠ 0 →
    Gives (.watchdogStart (.core c false) timeout) s fun t =>
      t.on (F.EVT_WDOG_CTL_EN.own c) = true ∧ t.rd (F.EVT_WDOG_CTL_TIMEOUT.own c) = timeout.toNat ∧ t.resp = .none) ∧
  (∀ (s : State) (c : Core) (timeout : BitVec 24), (s.core c).on = true → s.on (F.EVT_WDOG_CTL_EN.own c) = true →
    Gives (.watchdogStart (.core c false) timeout) s fun t =>
      t.rd (F.EVT_WDOG_CTL_TIMEOUT.own c) = s.rd (F.EVT_WDOG_CTL_TIMEOUT.own c) ∧ t.on (F.EVT_WDOG_CTL_EN.own c) = true) ∧
  (∀ (s : State) (c : Core) (key : BitVec 8), (s.core c).on = true → Gives (.watchdogKick (.core c false) key false) s fun t => t.resp = .none) ∧
  (∀ (s : State) (c : Core), (s.core c).on = true → s.on (F.EVT_WDOG_CTL_EN.own c) = true →
    s.rd (F.EVT_COINCIDE_COUNT.own c) < 65535 → Gives (.watchdogKick (.core c false) 0xD2 true) s fun t =>
      t.rd (F.EVT_COINCIDE_COUNT.own c) = s.rd (F.EVT_COINCIDE_COUNT.own c) + 1)

/-- A core enters an interrupt or an exception (R270-R273, R275, R280): the handler's address, the return address in x8, PSW in x9, the level
and the depth of nesting; a vector with no handler raises NO_HANDLER, an exception with none is fatal. -/
def Obligations.CoreEntriesAct : Prop :=
  (∀ (s : State) (c : Core) (tie : Bool) (turn : BitVec 4) (v l : Nat), s.qualifying c = some (v, l) → s.atBoundary c = true →
    (s.core c).ie = true → s.turnWaits c turn.toNat = false → v < 64 → s.rd ((F.EVT_VEC_ADDR v).own c) ≠ 0 → (s.core c).nest < 255 → (s.core c).frames.length < 65535 → (s.core c).resident + 6 ≤ 30 →
    (s.core c).stkMode = false → (s.core c).ring.length = 120 →
    Gives (.interruptEntry ⟨c, tie, turn⟩) s fun t => (t.core c).pc = 4 * s.rd ((F.EVT_VEC_ADDR v).own c) ∧ (t.core c).lvl = l ∧ (t.core c).sup = true ∧
      (t.core c).nest = (s.core c).nest + 1 ∧ (t.core c).first = some 0 ∧ (t.core c).frames = true :: (s.core c).frames ∧
      (t.core c).reg 8 = BitVec.ofNat 32 (s.core c).pc ∧ (t.core c).reg 9 = (s.core c).psw ∧
      (t.core c).reg 10 = BitVec.ofNat 32 (2 ^ 31 + v) ∧ (t.core c).reg 11 = BitVec.ofNat 32 l) ∧
  (∀ (s : State) (c : Core) (tie : Bool) (turn : BitVec 4) (v l : Nat), s.qualifying c = some (v, l) → s.atBoundary c = true →
    (s.core c).ie = true → s.turnWaits c turn.toNat = false → v < 64 → s.rd ((F.EVT_VEC_ADDR v).own c) = 0 →
    Gives (.interruptEntry ⟨c, tie, turn⟩) s fun t =>
      (t.core c).exc.map (fun e => (e.code, e.ret)) = some (0xF, (s.core c).pc) ∧ (t.core c).lvl = l) ∧
  (∀ (s : State) (c : Core) (turn : BitVec 4) (e : Exc), (s.core c).exc = some e → s.coreRuns c = true →
    s.turnWaits c turn.toNat = false → s.rd ((F.EVT_EXC_ADDR e.code).own c) ≠ 0 →
    (s.core c).nest < 255 → (s.core c).frames.length < 65535 → (s.core c).resident + 6 ≤ 30 → (s.core c).stkMode = false →
    (s.core c).ring.length = 120 →
    Gives (.exceptionEntry ⟨c, turn⟩) s fun t => (t.core c).pc = 4 * s.rd ((F.EVT_EXC_ADDR e.code).own c) ∧ (t.core c).sup = true ∧
      (t.core c).lvl = (s.core c).lvl ∧ (t.core c).nest = (s.core c).nest + 1 ∧ (t.core c).exc = none ∧ (t.core c).first = some e.code ∧
      (t.core c).frames = true :: (s.core c).frames ∧ (t.core c).reg 8 = BitVec.ofNat 32 e.ret ∧ (t.core c).reg 9 = (s.core c).psw ∧
      (t.core c).reg 10 = BitVec.ofNat 32 e.x10 ∧ (t.core c).reg 11 = BitVec.ofNat 32 e.x11) ∧
  (∀ (s : State) (c : Core) (turn : BitVec 4) (e : Exc), (s.core c).exc = some e → s.coreRuns c = true →
    s.turnWaits c turn.toNat = false → s.rd ((F.EVT_EXC_ADDR e.code).own c) = 0 → Gives (.exceptionEntry ⟨c, turn⟩) s fun t => (t.core c).fatal = some 4)
/-! ## The Clearing house (chapter 09) -/

/-- Changes are accepted and pulses are raised (R318, R319, R322, R324, R333, R704): an accepted pulse leaves its latch and shows in KX_SEEN and
KX_LAST; one routed to a core vector sets the vector pending; KX_SWEV raises its sources at either level, KX_FORCE a pulse source by its key. -/
def Obligations.ClearingHouseActs : Prop :=
  (∀ (s : State) (ev contended : Nat) (low : BitVec 8) (alerts : BitVec 6) (advs : List Nat) (ties : BitVec 64), s.routing = true → ev < 320 → levelSource ev = false →
    s.kx.pulses.contains ev = true → (s.routes.all fun r => r.source != ev) = true → (∀ k, k < 8 → s.on (F.HST_ECI_QSRC_EN k) = false) →
    Gives (.eventAccept [ev] ⟨low, alerts⟩ contended ⟨advs, ties⟩) s fun t => bit (t.rd (F.KX_SEEN_SEEN (ev / 32))) (ev % 32) = true ∧
      t.on F.KX_LAST_VALID = true ∧ t.rd F.KX_LAST_SOURCE = ev ∧ t.kx.pulses.contains ev = false) ∧
  (∀ (s : State) (ev contended : Nat) (low : BitVec 8) (alerts : BitVec 6) (advs : List Nat) (ties : BitVec 64) (c : Core) (r : Route),
    s.routing = true → ev < 320 →
    levelSource ev = false → s.kx.pulses.contains ev = true → s.routes = [r] → r.source = ev → r.kind = c.num + 1 → r.level = false →
    r.dest < 64 → (∀ k, k < 8 → s.on (F.HST_ECI_QSRC_EN k) = false) → s.domOn (domCore c) = true → s.frozen (domCore c) = false →
    Gives (.eventAccept [ev] ⟨low, alerts⟩ contended ⟨advs, ties⟩) s fun t => (t.core c).pulses.contains (r.dest, r.priority) = true) ∧
  (∀ (s : State) (evs : List Nat) (low : BitVec 8) (alerts : BitVec 6) (contended : Nat) (advs : List Nat) (ties : BitVec 64),
    s.routing = false → Gives (.eventAccept evs ⟨low, alerts⟩ contended ⟨advs, ties⟩) s fun t => t = s) ∧
  (∀ (s : State) (who : Agent) (sw : BitVec 8) (k : Fin 8), s.Open 0 → s.on F.KX_STATUS_ROUTING = true → sw.getLsbD k = true →
    Gives (.kxSwev who sw) s fun t => t.kx.pulses.contains (100 + k.val) = true) ∧
  (∀ (s : State) (who : Agent) (src : BitVec 9), s.Takes who 0 → s.on F.KX_STATUS_ROUTING = true → src.toNat < 320 →
    levelSource src.toNat = false → reservedSource src.toNat = false → s.domOn (sourceDomain src.toNat) = true →
    Gives (.kxForce who 0x4B src) s fun t => t.kx.pulses.contains src.toNat = true) ∧
  (∀ (s : State) (who : Agent) (src : BitVec 9), s.Takes who 0 →
    (320 ≤ src.toNat ∨ levelSource src.toNat = true ∨ reservedSource src.toNat = true ∨ s.domOn (sourceDomain src.toNat) = false) →
    Gives (.kxForce who 0x4B src) s fun t => t.on F.KX_STATUS_FORCE_REFUSED = true ∧ t.kx = s.kx)

/-! ## The host link and the tellers (chapter 10) -/

/-- I/O and memory accesses of the host (R347, R348, R350, R365, R368): no window answers unsuccessful, a denied access reads ones, an
SCR window is read and written, a firmware teller defers, the keyboard controller's data port gives its buffer, a second deferred request is
a protocol error, a CRC error is answered as one, and a link that is not live answers nothing. -/
def Obligations.HostAccessesAct : Prop :=
  (∀ (s : State) (port : BitVec 16) (a : Word) (n : Nat) (bad : Bool), s.linkLive = true →
    (bad = false ∨ s.on F.HST_LINK_CRC_EN = false) → s.hst.defer = none →
    ∀ p ∈ [(Instr.espiIoRead port n bad, 0, port.toNat), (.espiMemRead a n bad, 1, a.toNat)],
      (s.claims p.2.1 p.2.2 = none → Gives p.1 s fun t => t.resp = .bytes 1 [] ∧ t.on F.HST_ERR_UNCLAIMED = true) ∧
      (∀ te, s.claims p.2.1 p.2.2 = some te → te.allows false = false →
        Gives p.1 s fun t => t.resp = .bytes 0 (List.replicate n 0xFF) ∧ t.on F.TLR_DENY_LOG_VALID = true) ∧
      (∀ te, s.claims p.2.1 p.2.2 = some te → te.allows false = true → te.kind = 5 → inWindow te p.2.2 n = n →
        Gives p.1 s fun t => t.resp = .bytes 0 ((List.range n).map fun i => memGet s.mem (te.at (offsetOf te (p.2.2 + i))))) ∧
      (∀ te, s.claims p.2.1 p.2.2 = some te → te.allows false = true → te.kind = 0 →
        Gives p.1 s fun t => t.resp = .bytes 2 [] ∧ t.on F.HST_STATUS_DEFERRED = true ∧ t.hst.defer.isSome = true)) ∧
  (∀ (s : State) (port : BitVec 16) (a : Word) (data : List Byte) (us : Nat) (bad : Bool), s.linkLive = true →
    (bad = false ∨ s.on F.HST_LINK_CRC_EN = false) → s.hst.defer = none →
    ∀ p ∈ [(Instr.espiIoWrite port data us bad, 0, port.toNat), (.espiMemWrite a data bad, 1, a.toNat)],
      (p.2.1 = 0 ∨ s.postedFree = true) → (s.claims p.2.1 p.2.2 = none → Gives p.1 s fun t => t.resp = .bytes 1 [] ∧ t.on F.HST_ERR_UNCLAIMED = true) ∧
      (∀ te, s.claims p.2.1 p.2.2 = some te → te.allows true = false →
        Gives p.1 s fun t => t.resp = .bytes 0 [] ∧ t.on F.TLR_DENY_LOG_VALID = true) ∧
      (∀ te, s.claims p.2.1 p.2.2 = some te → te.allows true = true → te.kind = 5 → inWindow te p.2.2 data.length = data.length →
        Gives p.1 s fun t => t.resp = .bytes 0 [] ∧
          (∀ i (h : i < data.length), memGet t.mem (te.at (offsetOf te p.2.2) + i) = data[i]) ∧
          SameMemoryBut (te.at (offsetOf te p.2.2)) data.length s t) ∧
      (∀ te, s.claims p.2.1 p.2.2 = some te → te.allows true = true → te.kind = 0 →
        Gives p.1 s fun t => t.resp = if p.2.1 = 0 then .bytes 2 [] else .bytes 0 [])) ∧
  (∀ (s : State) (a : Word) (data : List Byte), s.linkLive = true → s.postedFree = false →
    Gives (.espiMemWrite a data false) s fun t => t = s.alertSeen.reply .none) ∧
  (∀ (s : State) (port : BitVec 16) (te : TellerEntry), s.linkLive = true → s.hst.defer = none → s.claims 0 port.toNat = some te →
    te.allows false = true → te.kind = 1 → bits te.addr 15 0 = port.toNat →
    Gives (.espiIoRead port 1 false) s fun t =>
      t.resp = .bytes 0 [BitVec.ofNat 8 (s.rd F.HST_KBC_STAT_OBUF)] ∧ t.kbcBit 0 = false) ∧
  (∀ (s : State) (port : BitVec 16) (x : Byte) (us : Nat) (te : TellerEntry), s.linkLive = true → s.hst.defer = none →
    s.claims 0 port.toNat = some te → te.allows true = true → te.kind = 1 → bits te.addr 15 0 = port.toNat →
    Gives (.espiIoWrite port [x] us false) s fun t => t.hst.kbc.inByte = x.toNat ∧ t.kbcBit 1 = true ∧ t.kbcBit 3 = false) ∧
  (∀ (s : State) (port : BitVec 16) (a : Word) (data : List Byte) (n us : Nat), s.linkLive = true → s.hst.defer.isSome = true →
    ∀ c ∈ [Instr.espiIoRead port n false, .espiMemRead a n false, .espiIoWrite port data us false],
      Gives c s fun t => t.resp = .bytes 3 [] ∧ t.on F.HST_ERR_PROTOCOL = true) ∧
  (∀ (s : State) (port : BitVec 16) (a : Word) (data : List Byte) (n us : Nat), s.linkLive = true → s.on F.HST_LINK_CRC_EN = true →
    ∀ c ∈ [Instr.espiIoRead port n true, .espiMemRead a n true, .espiIoWrite port data us true, .espiMemWrite a data true],
      Gives c s fun t => t.resp = .bytes 4 [] ∧ t.on F.HST_ERR_CRC = true) ∧
  (∀ (s : State) (port : BitVec 16) (a : Word) (data : List Byte) (n us : Nat) (bad : Bool), s.linkLive = false →
    ∀ c ∈ [Instr.espiIoRead port n bad, .espiMemRead a n bad, .espiIoWrite port data us bad, .espiMemWrite a data bad],
      Gives c s fun t => t = s.alertSeen.reply .none)

/-- The link's configuration, each channel enable a field of its own, and its virtual wires (R344, R351-R353). -/
def Obligations.HostLinkActs : Prop :=
  (∀ (s : State) (freq : BitVec 3) (io : BitVec 2) (pin od crc : Bool) (ch : BitVec 4), s.linkLive = true →
    Gives (.setConfiguration freq io pin od crc ch false) s fun t => t.resp = .bytes 0 [] ∧ t.on F.HST_LINK_CRC_EN = crc ∧
      (freq.toNat ≤ s.capFreq → t.rd F.HST_LINK_FREQ = freq.toNat) ∧
      (s.capFreq < freq.toNat → t.rd F.HST_LINK_FREQ = s.rd F.HST_LINK_FREQ ∧ t.on F.HST_ERR_CFG = true) ∧
      (∀ k : Fin 3, bit (t.rd F.HST_LINK_CH_EN) k = if ch.getLsbD k && !s.capChannel k then bit (s.rd F.HST_LINK_CH_EN) k else ch.getLsbD k)) ∧
  (∀ (s : State) (sys : List (Fin 10 × Bool)) (w : Fin 10) (v : Bool) (gen : List (BitVec 8 × Fin 4 × Bool)), s.linkLive = true →
    Gives (.putVwire (sys ++ [(w, v)]) gen false) s fun t => bit (t.rd F.HST_VW_IN_WIRES) w = v ∧ t.resp = .bytes 0 []) ∧
  (∀ s : State, s.linkLive = true → bit (s.rd F.HST_LINK_CH_EN) 1 = true → Gives .getVwire s fun t => t.hst.bootDue = false ∧
    t.resp = .bytes 0 ((if s.hst.bootDue then [10, 1, 11, 1] else []) ++
      s.kx.wireChg.flatMap fun w => [BitVec.ofNat 8 w, if s.wireShown w then (1 : Byte) else 0])) ∧
  (∀ s : State, s.live domHOST = true → bit (s.rd F.HST_VW_IN_WIRES) 6 = true → s.hst.defer = none →
    Gives .hostRstAck s fun t => bit (t.rd F.HST_VW_OUT_WIRES) 6 = true) ∧
  (∀ s : State, s.live domHOST = true → bit (s.rd F.HST_VW_IN_WIRES) 6 = true → s.hst.defer.isSome = true →
    Gives .hostRstAck s fun t => t = s) ∧
  (∀ s : State, s.live domHOST = true → bit (s.rd F.HST_VW_IN_WIRES) 5 = true →
    Gives .oobRstAck s fun t => bit (t.rd F.HST_VW_OUT_WIRES) 7 = true ∧ t.hst.oobTx = [])

/-- Out-of-band packets and the console (R355-R357, R363, R376). -/
def Obligations.OobAndConsoleAct : Prop :=
  (∀ (s : State) (pkt : List Byte), s.linkLive = true → s.hst.oobRx.length < 2 →
    s.tellers.find? (fun t => t.binding == 2 && bits t.addr 7 0 == u8At pkt 0) = none →
    Gives (.putOob pkt false) s fun t => t.on F.HST_ERR_UNCLAIMED = true ∧ t.resp = .bytes 0 []) ∧
  (∀ (s : State) (pkt : List Byte) (te : TellerEntry), s.linkLive = true →
    s.tellers.find? (fun t => t.binding == 2 && bits t.addr 7 0 == u8At pkt 0) = some te → te.kind ≠ 5 → s.hst.oobRx.length < 2 →
    Gives (.putOob pkt false) s fun t => t.resp = .bytes 0 [] ∧
      (te.allows true = true → t.hst.oobRx = s.hst.oobRx ++ [pkt.take 68]) ∧
      (te.allows true = false → t.hst.oobRx = s.hst.oobRx ∧ t.on F.TLR_DENY_LOG_VALID = true)) ∧
  (∀ (s : State) (pkt : List Byte), s.linkLive = true → s.hst.oobRx.length = 2 →
    Gives (.putOob pkt false) s fun t => t = s.alertSeen.reply .none) ∧
  (∀ (s : State) (pkt : List Byte) (te : TellerEntry), s.linkLive = true → s.hst.oobRx.length < 2 →
    s.tellers.find? (fun t => t.binding == 2 && bits t.addr 7 0 == u8At pkt 0) = some te → te.kind = 5 → u8At pkt 1 < 128 →
    te.allows true = true → Gives (.putOob pkt false) s fun t => t.resp = .bytes 0 [] ∧
      memBytes t.mem (te.at (u8At pkt 1)) ((slice (pkt.take 68) 4 (u8At pkt 2)).take (te.span - u8At pkt 1)).length =
        (slice (pkt.take 68) 4 (u8At pkt 2)).take (te.span - u8At pkt 1)) ∧
  (∀ s : State, s.linkLive = true → s.hst.oobTx = [] → Gives .getOob s fun t => t.resp = .bytes 0 []) ∧
  (∀ (s : State) (src : Option Nat) (pkt : List Byte) (rest : List (Option Nat × List Byte)), s.linkLive = true →
    s.hst.oobTx = (src, pkt) :: rest → Gives .getOob s fun t => t.resp = .bytes 0 pkt ∧ t.hst.oobTx = rest) ∧
  (∀ (s : State) (pkt : List Byte) (rest : List (List Byte)) (te : TellerEntry), s.live domHOST = true → s.hst.oobRx = pkt :: rest →
    s.tellers.find? (fun t => t.binding == 2 && t.kind == 0 && bits t.addr 7 0 == u8At pkt 0) = some te →
    bit (memWord s.mem (te.at 0)) 8 = false → Gives .oobRxDeliver s fun t => t.hst.oobRx = rest ∧
      memBytes t.mem (te.at 0) (4 + pkt.length) = leBytes 4 (256 + pkt.length % 256) ++ pkt ∧
      SameMemoryBut (te.at 0) (4 + pkt.length) s t) ∧
  (∀ (s : State) (who : Agent) (n : BitVec 7) (te : TellerEntry), s.Open domHOST → s.oobTeller (oobCtl n 2) = some te →
    bit (memWord s.mem (te.at 80)) 8 = true → Gives (.oobSend who n) s fun t =>
      t.hst.oobTx = s.hst.oobTx ++ [(some te.teller, memBytes s.mem (te.at 84) (min (bits (memWord s.mem (te.at 80)) 7 0) 72))]) ∧
  (∀ (s : State) (who : Agent) (n : BitVec 7) (te : TellerEntry), s.Open domHOST → s.oobTeller (oobCtl n 1) = some te →
    Gives (.oobRelease who n) s fun t => bit (memWord t.mem (te.at 0)) 8 = false ∧ SameMemoryBut (te.at 0) 4 s t) ∧
  (∀ (s : State) (x : Byte) (te : TellerEntry), s.live domHOST = true → s.pinned .consRxd = true → s.consoleTeller = some te → 4 < te.ramSize → te.ramSize ≤ 0x4000 →
    (memHalf s.mem (te.at 0) % (te.ramSize - 4) + 1) % (te.ramSize - 4) ≠ memHalf s.mem (te.at 2) → Gives (.consoleRx x) s fun t =>
      memGet t.mem (te.at (4 + memHalf s.mem (te.at 0) % (te.ramSize - 4))) = x ∧
      memHalf t.mem (te.at 0) = (memHalf s.mem (te.at 0) % (te.ramSize - 4) + 1) % (te.ramSize - 4)) ∧
  (∀ (s : State) (x : Byte) (te : TellerEntry), s.live domHOST = true → s.pinned .consRxd = true → s.consoleTeller = some te →
    (memHalf s.mem (te.at 0) % (te.ramSize - 4) + 1) % (te.ramSize - 4) = memHalf s.mem (te.at 2) →
    Gives (.consoleRx x) s fun t => t.on F.HST_CONS_STAT_OVF = true ∧ SameMemory s t) ∧
  (∀ (s : State) (who : Agent) (w : Word), s.Open domHOST → s.hst.consTx.length < 16 → Gives (.consoleTx who w) s fun t =>
    t.hst.consTx = s.hst.consTx ++ [BitVec.ofNat 8 (F.HST_CONS_TX_BYTE.of w)] ∧ t.rd F.HST_CONS_STAT_TXQ = s.hst.consTx.length + 1) ∧
  (∀ (s : State) (who : Agent) (w : Word), s.Open domHOST → 16 ≤ s.hst.consTx.length →
    Gives (.consoleTx who w) s fun t => t.on F.HST_CONS_STAT_FULL = true ∧ t.hst.consTx = s.hst.consTx) ∧
  (∀ (s : State) (x : Byte) (r : List Byte), s.live domHOST = true → s.hst.consTx = x :: r →
    Gives .consoleByteSent s fun t => t.resp = .bytes 0 [x] ∧ t.hst.consTx = r)

/-- Requests to firmware tellers are answered or pass their deadline (R361, R362, R366): the head request of a core's queue leaves it, the host gets
its bytes with alert or a two-wire port its last byte, and only the owner's answer counts. -/
def Obligations.TellersAct : Prop :=
  (∀ (s : State) (c : Core) (user : Bool) (w : Word) (tie : Bool) (r : TlrReq) (q : List TlrReq), s.Open domHOST →
    s.tlrQueue (c.num + 1) = r :: q → (s.hst.held.any fun h => h.owner == c.num + 1) = false → (r.binding ≠ 3 ∨ r.waits = false) →
    Gives (.tellerResponse (.core c user) c w tie) s fun t => t.tlrQueue (c.num + 1) = q) ∧
  (∀ (s : State) (c : Core) (user : Bool) (w : Word) (tie : Bool) (r : TlrReq) (q : List TlrReq) (got : List Byte), s.Open domHOST →
    s.tlrQueue (c.num + 1) = r :: q → (s.hst.held.any fun h => h.owner == c.num + 1) = false → r.binding ≠ 3 → r.waits = true →
    r.write = false → s.hst.defer = some (1, got) → Gives (.tellerResponse (.core c user) c w tie) s fun t =>
      t.resp = .bytes 0 (got ++ leBytes r.bytes w.toNat ++ List.replicate s.hst.deferPad 0xFF) ∧ t.hst.defer = none ∧
      t.on F.HST_STATUS_DEFERRED = false ∧ t.hst.alert = true) ∧
  (∀ (s : State) (c : Core) (user : Bool) (w : Word) (tie : Bool) (r : TlrReq) (q : List TlrReq) (g : TwTarget), s.Open domHOST →
    s.tlrQueue (c.num + 1) = r :: q → (s.hst.held.any fun h => h.owner == c.num + 1) = false → r.binding = 3 → r.waits = true →
    r.bytes = 1 → (s.twp r.port).tgt = some g → g.rest = 1 → Gives (.tellerResponse (.core c user) c w tie) s fun t =>
      t.tlrQueue (c.num + 1) = q ∧ (t.twp r.port).tgt = none ∧ t.resp = .bytes 0 (if g.read then leBytes 1 w.toNat else [])) ∧
  (∀ (s : State) (who : Agent) (c : Core) (w : Word) (tie : Bool), s.Open domHOST →
    (s.tlrQueue (c.num + 1) = [] ∨ who.isCore c = false) → Gives (.tellerResponse who c w tie) s fun t =>
      t.on F.TLR_STATUS_STRAY = true ∧ t.tlrQueue (c.num + 1) = s.tlrQueue (c.num + 1)) ∧
  (∀ (s : State) (c : Core) (k : Nat) (r : TlrReq), s.live domHOST = true → (s.tlrQueue (c.num + 1))[k]? = some r → r.waits = true →
    Gives (.tellerDeadline (.queued c k)) s fun t =>
      (t.tlrQueue (c.num + 1))[k]? = some (lateReq r) ∧ t.on F.TLR_TARDY_LOG_VALID = true) ∧
  (∀ (s : State) (k : Nat) (r : TlrReq), s.live domHOST = true → s.hst.held[k]? = some r → r.waits = true →
    Gives (.tellerDeadline (.held k)) s fun t => t.hst.held[k]? = some (lateReq r) ∧ t.on F.TLR_TARDY_LOG_VALID = true) ∧
  (∀ s : State, s.live domHOST = true → s.hst.kbc.fw = true → s.on F.HST_KBC_CMD_PENDING = true → Gives (.tellerDeadline .kbc) s fun t =>
    t.on F.HST_KBC_CMD_LATE = true ∧ t.kbcBit 1 = false ∧ t.hst.kbc.fw = false) ∧
  (∀ s : State, s.live domHOST = true → s.hst.eci.fw = true → s.on F.HST_ECI_CMD_PENDING = true → Gives (.tellerDeadline .eci) s fun t =>
    t.on F.HST_ECI_CMD_LATE = true ∧ t.hst.eci.ibf = false ∧ t.hst.eci.fw = false)

/-- The three autotellers (R365-R371, R373, R376). -/
def Obligations.AutotellersAct : Prop :=
  (∀ (s u : State), s.live domHOST = true → s.kbcTeller.isSome = true → s.kbcBit 1 = true → s.hst.kbc.fw = false → s.kbcBit 3 = true →
    (s.modKbc fun k => { k with param := none }).kbcCommand s.hst.kbc.inByte = some u →
    Gives .kbcConsume s fun t => t.kbcBit 1 = false ∧ t.hst.kbc.ctl = u.hst.kbc.ctl) ∧
  (∀ s : State, s.live domHOST = true → s.kbcTeller.isSome = true → s.kbcBit 1 = true → s.hst.kbc.fw = false → s.kbcBit 3 = true →
    s.hst.kbc.inByte = 0xAA → Gives .kbcConsume s fun t => t.hst.kbc.ctl = s.hst.kbc.ctl ++ [(0x55, 0)]) ∧
  (∀ s : State, s.live domHOST = true → s.kbcTeller.isSome = true → s.kbcBit 1 = true → s.hst.kbc.fw = false → s.kbcBit 3 = true →
    (s.modKbc fun k => { k with param := none }).kbcCommand s.hst.kbc.inByte = none →
    Gives .kbcConsume s fun t => t.hst.kbc.fw = true ∧ t.on F.HST_KBC_CMD_PENDING = true ∧
      t.rd F.HST_KBC_CMD_BYTE = s.hst.kbc.inByte % 256 ∧ t.hst.kbc.param = some s.hst.kbc.inByte) ∧
  (∀ s : State, s.live domHOST = true → s.kbcTeller.isSome = true → s.kbcBit 1 = true → s.hst.kbc.fw = false → s.kbcBit 3 = false →
    s.hst.kbc.param = none → s.hst.kbc.kbdParam = none → s.hst.kbc.inByte = 0xEE →
    Gives .kbcConsume s fun t => t.hst.kbc.dev = s.hst.kbc.dev ++ [0xEE] ∧ t.kbcBit 1 = false) ∧
  (∀ s : State, s.live domHOST = true → s.hst.kbc.resetDue = true →
    Gives .kbdResetComplete s fun t => t.hst.kbc.dev = s.hst.kbc.dev ++ [0xAA] ∧ t.hst.kbc.resetDue = false) ∧
  (∀ (s : State) (who : Agent) (w : Word) (tie : Bool), s.Open domHOST → F.HST_KBC_CMD_PENDING.has w = true →
    Gives (.kbcFirmwareRelease who false w tie) s fun t =>
      t.on F.HST_KBC_CMD_PENDING = false ∧ (s.hst.kbc.fw = true → t.kbcBit 1 = false)) ∧
  (∀ (s : State) (who : Agent) (w : Word) (tie : Bool), s.Open domHOST → F.HST_ECI_CMD_PENDING.has w = true →
    Gives (.kbcFirmwareRelease who true w tie) s fun t =>
      t.on F.HST_ECI_CMD_PENDING = false ∧ (s.hst.eci.fw = true → t.hst.eci.ibf = false)) ∧
  (∀ (s : State) (who : Agent) (w : Word), s.Open domHOST → s.hst.kbc.put.length < 4 → Gives (.kbcPut who w) s fun t =>
    t.hst.kbc.put = s.hst.kbc.put ++ [(F.HST_KBC_PUT_BYTE.of w, F.HST_KBC_PUT_AUX.has w)]) ∧
  (∀ (s : State) (who : Agent) (w : Word), s.Open domHOST → 4 ≤ s.hst.kbc.put.length → Gives (.kbcPut who w) s fun t =>
    t.on F.HST_KBC_STAT_PUT_FULL = true ∧ t.hst.kbc.put = s.hst.kbc.put) ∧
  (∀ (s : State) (x kind : Nat) (r : List (Nat × Nat)), s.live domHOST = true → s.kbcTeller.isSome = true → s.kbcBit 0 = false →
    s.hst.kbc.ctl = (x, kind) :: r → (kind ≠ 2 ∨ s.xlatOn = false) → Gives .kbcOutputLoad s fun t =>
      t.rd F.HST_KBC_STAT_OBUF = x % 256 ∧ t.kbcBit 0 = true ∧ t.kbcBit 5 = (kind == 1) ∧ t.hst.kbc.ctl = r) ∧
  (∀ s : State, s.live domHOST = true → s.eciTeller.isSome = true → s.hst.eci.ibf = true → s.hst.eci.fw = false → s.hst.eci.cmdFlag = true →
    s.hst.eci.inByte = 0x82 → Gives .eciConsume s fun t =>
      t.hst.eci.obf = true ∧ t.hst.eci.outByte = 0x90 ∧ t.hst.eci.ibf = false ∧ t.hst.eci.burstRead = true) ∧
  (∀ s : State, s.live domHOST = true → s.eciTeller.isSome = true → s.hst.eci.ibf = true → s.hst.eci.fw = false → s.hst.eci.cmdFlag = false →
    s.hst.eci.cmd = some 0x80 → Gives .eciConsume s fun t =>
      t.hst.eci.obf = true ∧ t.hst.eci.outByte = s.ecByte s.hst.eci.inByte % 256 ∧ t.hst.eci.ibf = false ∧ t.hst.eci.cmd = none) ∧
  (∀ (s : State) (who : Agent) (w : Word), s.Open domHOST → F.HST_ECI_QUERY_VALUE.of w ≠ 0 → F.HST_ECI_QUERY_VALUE.of w ∉ s.hst.eci.query →
    s.hst.eci.query.length < 16 → Gives (.eciQueryPush who w) s fun t =>
      t.hst.eci.query = s.hst.eci.query ++ [F.HST_ECI_QUERY_VALUE.of w] ∧ t.rd F.HST_ECI_STAT_QDEPTH = s.hst.eci.query.length + 1) ∧
  (∀ (s : State) (who : Agent) (w : Word), s.Open domHOST → s.hst.eci.obf = false → Gives (.eciPut who w) s fun t =>
    t.hst.eci.obf = true ∧ t.hst.eci.outByte = F.HST_ECI_PUT_BYTE.of w) ∧
  (∀ (s : State) (who : Agent) (w : Word), s.Open domHOST → s.hst.eci.obf = true → Gives (.eciPut who w) s fun t =>
    t.on F.HST_ECI_STAT_PUT_FULL = true ∧ t.hst.eci = s.hst.eci) ∧
  (∀ (s : State) (te : TellerEntry), s.live domHOST = true → s.hst.nvx.busy = true → s.nvxTeller = some te →
    Gives .nvxLoadDone s fun t => t.hst.nvx.busy = false ∧ t.hst.nvx.stale = false ∧
      ∃ u, (u = s ∨ (s.hasRecord s.nvxRecord = true ∧ u = s.mirrorError s.nvxRecord)) ∧
        t.on F.VLT_STATUS_READ_ERR = u.on F.VLT_STATUS_READ_ERR ∧ t.hst.nvx.len = (u.record s.nvxRecord).length ∧
        memBytes t.mem (te.at 0x20) (stagingBytes s.nvxRecord (u.record s.nvxRecord)).length =
          stagingBytes s.nvxRecord (u.record s.nvxRecord))
/-! ## The keyboard scanner (chapter 11) -/

/-- Frames, measurement, deliveries, the queues and the keyboard wake (R387-R389, R397-R401, R406, R409). -/
def Obligations.KeyboardActs : Prop :=
  (∀ (s : State) (rows : List (BitVec 16)) (dt : Nat), s.live domKBD = true → s.on F.KBD_STATUS_RUNNING = true → s.kbd.inFrame = false →
    s.drives ≤ 20 → s.senses ≤ 16 → Gives (.kbdFrameStart rows dt) s fun t => t.kbd.inFrame = true ∧
      t.kbd.frameLayer = s.rd F.KBD_LAYER_ACTIVE ∧ t.kbd.lastSettle = s.rd F.KBD_SETTLE_SETTLE ∧
      ∀ d, d < s.drives → t.rd (F.KBD_RAW_CLOSED d) = s.rawRow d (rows.getD d 0)) ∧
  (∀ (s : State) (rows : List (BitVec 16)) (dt : Nat), s.on F.KBD_STATUS_RUNNING = false → Gives (.kbdFrameStart rows dt) s fun t => t = s) ∧
  (∀ s : State, s.live domKBD = true → s.kbd.inFrame = true → Gives .kbdFrameBoundary s fun t => t.kbd.inFrame = false ∧
    t.kbd.accMakes = [] ∧ t.kbd.accBreaks = [] ∧ t.kbd.timing = (s.word Reg.KBD_TIMING).toNat ∧
    t.on F.KBD_STATUS_RUNNING = s.on F.KBD_CFG_SCAN_EN) ∧
  (∀ (s : State) (m : MakeRec), s.live domKBD = true → s.kbd.inFrame = true → s.kbd.accBreaks = [] → s.kbd.accMakes = [m] → m.kind ≠ 0 →
    s.rd F.KBD_CFG_DELIVER = 1 → s.kbd.fifo.length < 32 → Gives .kbdFrameBoundary s fun t =>
      t.kbd.fifo = s.kbd.fifo ++ [keyEntry m false false s.kbd.lostNext] ∧ t.kbd.lostNext = false) ∧
  (∀ (s : State) (i : Nat) (r : BitVec 16), i < 36 → s.kbd.measSet = some i → s.live domKBD = true → s.kbd.inFrame = true →
    s.kbd.lineDone = false → s.lineBusy i = false → Gives (.kbdLineMeasure (some r)) s fun t => t.kbd.lineDone = true ∧
      t.rd (F.KBD_RISE_T_RISE i) = min 25500 r.toNat ∧ t.on (F.KBD_RISE_VALID i) = true ∧
      t.on (F.KBD_RISE_STUCK i) = decide (25500 < r.toNat) ∧ t.kbd.measSet = s.nextLine i) ∧
  (∀ s : State, s.live domKBD = true → s.rd F.KBD_CFG_MEAS_PERIOD ≠ 0 → s.kbd.measSet = none →
    Gives .kbdMeasurePeriod s fun t => t.kbd.measSet = some 0) ∧
  (∀ (s : State) (who : Agent), s.Takes who domKBD → s.kbd.measSet = none → Gives (.measure who) s fun t => t.kbd.measSet = some 0) ∧
  (∀ (s : State) (who : Agent), s.Takes who domKBD → Gives (.clearKbc who) s fun t =>
    t.kbd.staging = [] ∧ t.kbd.overrun = false ∧ t.rd F.KBD_STATUS_KBCQ = 0 ∧ t.kbd.fifo = s.kbd.fifo) ∧
  (∀ (s : State) (who : Agent), s.Takes who domKBD → Gives (.clearFw who) s fun t =>
    t.kbd.fifo = [] ∧ t.rd F.KBD_STATUS_FWQ = 0 ∧ t.kbd.staging = s.kbd.staging) ∧
  (∀ (s : State) (p : Nat) (m : MakeRec), s.live domKBD = true → s.on F.KBD_CFG_REPEAT_EN = true → s.kbd.typematic = some p →
    s.kbd.makes.find? (·.pos == p) = some m → m.kind ≠ 0 → s.rd F.KBD_CFG_DELIVER = 1 → s.kbd.fifo.length < 32 →
    ∀ when : Nat, s.kbd.tmLeft ≤ when → Gives (.typematicRepeat ⟨when, false⟩) s fun t =>
      t.kbd.fifo = s.kbd.fifo ++ [keyEntry m false true s.kbd.lostNext] ∧ t.kbd.tmLeft = s.kbd.tmLeft + typematicPeriod s.kbd.tmByte) ∧
  (∀ (s : State) (when : Nat), (when : Int) < s.kbd.tmLeft → Gives (.typematicRepeat ⟨when, false⟩) s fun t => t = s) ∧
  (∀ (s : State) (when : Nat), s.live domKBD = true → s.on F.KBD_CFG_REPEAT_EN = true → s.kbd.tmBroken = true →
    s.rd F.KBD_COINCIDE_COUNT < 65535 → Gives (.typematicRepeat ⟨when, true⟩) s fun t =>
      t.rd F.KBD_COINCIDE_COUNT = s.rd F.KBD_COINCIDE_COUNT + 1 ∧ t.kbd.fifo = s.kbd.fifo) ∧
  (∀ (s : State) (x : Nat) (r : List Nat), s.live domKBD = true → s.linkLive = true → s.kbcTeller.isSome = true →
    s.rd F.HST_KBC_STAT_FIFO < 16 → s.kbd.staging = x :: r → s.kbd.overrun = false → Gives .kbcStagingMove s fun t =>
      t.kbd.staging = r ∧ t.rd F.HST_KBC_STAT_FIFO = s.rd F.HST_KBC_STAT_FIFO + 1) ∧
  (∀ (s : State) (c : Core) (user : Bool) (e : Word) (r : List Word), s.Open domKBD → s.kbd.fifo = e :: r →
    Gives (.kbdFifoRead (.core c user)) s fun t => t.resp = .word e ∧ t.kbd.fifo = r) ∧
  (∀ s : State, s.Open domKBD → Gives (.kbdFifoRead .jtag) s fun t => t.resp = .word (s.kbd.fifo.headD 0) ∧ t.kbd.fifo = s.kbd.fifo) ∧
  (∀ (s : State) (who : Agent) (w : Word), s.Open domKBD → Gives (.kbdHostcfgWrite who w) s fun t =>
    t.rd F.KBD_HOSTCFG_LED = F.KBD_HOSTCFG_LED.of w ∧ t.rd F.KBD_HOSTCFG_TYPEMATIC = F.KBD_HOSTCFG_TYPEMATIC.of w) ∧
  (∀ (s : State) (i : Fin 16), s.pwr.phase = .stopped → s.pinned (.kbdSns i.val) = true → bit s.kbd.maskSense i.val = false →
    Gives (.kbdWakeDetect i) s fun t => bit t.pwr.wakeLevel 0 = true) ∧
  (∀ (s : State) (i : Fin 16), s.pwr.phase = .stopped → Gives (.kbdSenseUnmask i) s fun t => bit t.kbd.maskSense i.val = false)

/-! ## The Calendar and the timers (chapter 12) -/

/-- The Calendar counts, is set, aligned, read and judged (R413-R415, R417-R423). -/
def Obligations.CalendarActs : Prop :=
  (∀ s : State, s.cal.setDue = false → s.cal.rateDue = none → Gives .calendarTick s fun t =>
    t.cal.count = (s.cal.full + (s.tickInc - s.cal.credit * 2 ^ 56 / 10 ^ 9)) / 2 ^ 32 % 2 ^ 64 ∧ t.cal.credit = 0) ∧
  (∀ s : State, s.cal.setDue = true → Gives .calendarTick s fun t => t.cal.setDue = false ∧ t.on F.CAL_STATUS_VALID = true ∧
    t.cal.count = (s.word Reg.CAL_SET_LO).toNat + 2 ^ 32 * (s.word Reg.CAL_SET_HI).toNat) ∧
  (∀ s : State, s.cal.setDue = false → s.cal.rateDue = none → s.cal.frac < 2 ^ 32 → s.cal.count < 2 ^ 64 →
    Gives .calendarSecond s fun t => secondsOf t.cal.count = (secondsOf s.cal.count + 1) % 2 ^ 40) ∧
  (∀ (s : State) (k : Fin 2), s.live 0 = true → s.on (alarmEn k) = true →
    (secondsOf s.cal.count + 2 ^ 40 - s.alarmValue k) % 2 ^ 40 < 2 ^ 39 → s.on F.KX_STATUS_ROUTING = true →
    Gives (.alarmMatch k) s fun t => t.on (alarmEn k) = false ∧ t.kx.pulses.contains (29 + k.val) = true) ∧
  (∀ (s : State) (k : Fin 2), (s.on (alarmEn k) = false ∨ 2 ^ 39 ≤ (secondsOf s.cal.count + 2 ^ 40 - s.alarmValue k) % 2 ^ 40) →
    Gives (.alarmMatch k) s fun t => t = s) ∧
  (∀ (s : State) (since : Nat) (tie : Bool), s.live 0 = true → s.cal.started = true → s.on F.CAL_CFG_PPS_EN = true → s.pinned .ppsIn = true →
    s.cal.considered ≠ some (s.cal.phase since).2 → -(1000 * s.rd F.CAL_CFG_PPS_WIN : Nat) ≤ (s.cal.phase since).1 →
    (s.cal.phase since).1 ≤ (1000 * s.rd F.CAL_CFG_PPS_WIN : Nat) → s.cal.setDue = false →
    Gives (.ppsEdge since tie) s fun t => t.cal.count = (s.cal.phase since).2 * 2 ^ 24 ∧ t.cal.frac = 0 ∧ t.cal.credit = since ∧
      t.rd F.CAL_STATUS_STATE = 2 ∧ t.word Reg.CAL_PHASE = BitVec.ofNat 32 (wrapInt 32 (s.cal.phase since).1)) ∧
  (∀ (s : State) (since : Nat) (tie : Bool), s.live 0 = true → s.cal.started = true → s.on F.CAL_CFG_PPS_EN = true → s.pinned .ppsIn = true →
    s.cal.considered ≠ some (s.cal.phase since).2 → ((s.cal.phase since).1 < -(1000 * s.rd F.CAL_CFG_PPS_WIN : Nat) ∨
      (1000 * s.rd F.CAL_CFG_PPS_WIN : Nat) < (s.cal.phase since).1) → s.rd F.CAL_STATUS_REJ_RUN < 3 →
    Gives (.ppsEdge since tie) s fun t => t.cal.count = s.cal.count ∧ t.rd F.CAL_STATUS_REJ_RUN = s.rd F.CAL_STATUS_REJ_RUN + 1 ∧
      t.cal.considered = some (s.cal.phase since).2 ∧ t.cal.taken = false) ∧
  (∀ s : State, s.live 0 = true → s.cal.started = true → s.on F.CAL_CFG_PPS_EN = true → s.rd F.CAL_STATUS_STATE ≠ 3 →
    2 ^ 25 ≤ s.cal.heldFor s.cal.count + 513 → Gives .holdover s fun t => t.rd F.CAL_STATUS_STATE = 3) ∧
  (∀ (s : State) (who : Agent), s.Takes who 0 → Gives (.calendarSet who 0xCA) s fun t => t.cal.setDue = true) ∧
  (∀ (s : State) (who : Agent) (key : BitVec 8), s.Takes who 0 → key ≠ 0xCA → Gives (.calendarSet who key) s fun t => t = s.reply .none) ∧
  (∀ (s : State) (who : Agent) (w : Word), s.Takes who 0 → Gives (.calRateWrite who w) s fun t =>
    t.cal.rateDue = some w ∧ t.word Reg.CAL_RATE = s.word Reg.CAL_RATE) ∧
  (∀ (s : State) (c : Core) (user : Bool), s.domOn 0 = true → Gives (.calNowLoRead (.core c user)) s fun t =>
    t.resp = .word (BitVec.ofNat 32 s.cal.count) ∧ t.cal.latch.find? (fun p => p.1 == c) = some (c, s.cal.count / 2 ^ 32)) ∧
  (∀ (s : State) (c : Core) (user : Bool) (p : Core × Nat), s.domOn 0 = true → s.cal.latch.find? (fun p => p.1 == c) = some p →
    Gives (.calNowHiRead (.core c user)) s fun t => t.resp = .word (BitVec.ofNat 32 p.2) ∧ t.cal.latch.find? (fun p => p.1 == c) = none) ∧
  (∀ s : State, s.domOn 0 = true → Gives (.calNowHiRead .jtag) s fun t => t.resp = .word (BitVec.ofNat 32 (s.cal.count / 2 ^ 32))) ∧
  (∀ (s : State) (mv : Nat), s.live 0 = true → s.fl.vinValid = true → Gives (.vbatSample mv) s fun t =>
    t.on F.CAL_STATUS_VBAT_LOW = decide (mv < 2200)) ∧
  (∀ s : State, s.live 0 = true → s.fl.vinValid = true → s.pwr.xt32Fail = false → Gives .xt32Loss s fun t =>
    t.pwr.xt32Fail = true ∧ t.on F.CAL_STATUS_SUBST = true ∧ t.on F.CLK_STATUS_XT32_OK = false) ∧
  (∀ s : State, s.live 0 = true → s.fl.vinValid = true → Gives .xt32Return s fun t =>
    t.pwr.xt32Fail = false ∧ t.on F.CAL_STATUS_SUBST = false ∧ t.on F.CLK_STATUS_XT32_OK = true)

/-- The timer channels (R425-R433). -/
def Obligations.TimersAct : Prop :=
  (∀ (s : State) (n : Fin 16), s.live domTIME = true → s.tcOwn n = true → s.toWrap n = s.tcDue n → Gives (.timerWrap n) s fun t =>
    t.tcCnt n = (s.tcCnt n + s.toWrap n) % 2 ^ 48 ∧ t.on (F.TC_STAT_WRAP n) = true) ∧
  (∀ (s : State) (n : Fin 16) (m : Fin 4), s.live domTIME = true → s.tcOwn n = true → s.rd (F.TC_CC_CFG_MODE n m) = 1 →
    s.toMatch n m = s.tcDue n → s.toMatch n m < s.toWrap n → Gives (.compareMatch n m) s fun t =>
      t.tcCnt n = s.wide (Reg.TC_CC_LO n m) ∧ bit (t.rd (F.TC_STAT_FLAG n)) m = true) ∧
  (∀ (s : State) (n : Fin 16) (m : Fin 4), s.live domTIME = true → s.tcOwn n = true → s.tcTimed n m = true →
    s.toTimeout n m = s.tcDue n → s.toTimeout n m < s.toWrap n → s.tim.chans.length = 16 → (s.chan n).units.length = 4 →
    Gives (.captureTimeout n m) s fun t => t.tcCnt n = (s.tcCnt n + s.toTimeout n m) % 2 ^ 48 ∧
      bit (t.rd (F.TC_STAT_TOUT n)) m = true ∧ (t.tunit n m).counts = 0) ∧
  (∀ (s : State) (who : Agent) (n : Fin 16) (adv : Nat) (met : Bool), s.Open domTIME → Gives (.start who ⟨n, adv, met⟩) s fun t =>
    t.on (F.TC_STAT_RUN n) = !met) ∧
  (∀ (s : State) (who : Agent) (n : Fin 16) (adv : Nat), s.Open domTIME → Gives (.stop who n adv) s fun t =>
    t.on (F.TC_STAT_RUN n) = false ∧ t.tcCnt n = (s.tcRun n adv).tcCnt n) ∧
  (∀ (s : State) (who : Agent) (n : Fin 16), s.Open domTIME → Gives (.clear who n) s fun t =>
    t.tcCnt n = 0 ∧ t.on (F.TC_STAT_RUN n) = s.on (F.TC_STAT_RUN n)) ∧
  (∀ (s : State) (who : Agent) (n : Fin 16) (u : Option (Fin 4)) (w : Word), s.Open domTIME → Gives (.timerHiWrite who n u w) s fun t =>
    t.tim.held.find? (fun p => p.1 == who.coreOf && p.2.1 == tcLo n u) = some (who.coreOf, tcLo n u, w.toNat % 2 ^ 16) ∧
    t.wide (tcLo n u) = s.wide (tcLo n u)) ∧
  (∀ (s : State) (who : Agent) (n : Fin 16) (w : Word) (hi adv : Nat), s.Open domTIME → s.on (F.TC_STAT_RUN n) = false → hi < 2 ^ 16 →
    s.tim.held.find? (fun p => p.1 == who.coreOf && p.2.1 == tcLo n none) = some (who.coreOf, tcLo n none, hi) →
    Gives (.timerLoWrite who n none ⟨w, adv⟩) s fun t => t.tcCnt n = w.toNat + 2 ^ 32 * hi) ∧
  (∀ (s : State) (who : Agent) (n : Fin 16) (w : Word) (adv : Nat), s.Open domTIME → s.on (F.TC_STAT_RUN n) = true →
    Gives (.timerLoWrite who n none ⟨w, adv⟩) s fun t => t.on (F.TC_STAT_LOAD_ERR n) = true ∧ t.tcCnt n = (s.tcRun n adv).tcCnt n) ∧
  (∀ (s : State) (who : Agent) (n : Fin 16) (m : Fin 4) (w : Word) (adv : Nat), s.Open domTIME → s.on (F.TC_CC_CFG_PRELOAD n m) = false →
    s.tim.held.find? (fun p => p.1 == who.coreOf && p.2.1 == tcLo n (some m)) = none → Gives (.timerLoWrite who n (some m) ⟨w, adv⟩) s fun t =>
      t.wide (tcLo n (some m)) = w.toNat + 2 ^ 32 * (s.wide (tcLo n (some m)) / 2 ^ 32)) ∧
  (∀ (s : State) (who : Agent) (n : Fin 16) (u : Option (Fin 4)) (adv : Nat), s.domOn domTIME = true →
    Gives (.timerLoRead who n u adv) s fun t => t.resp = .word (BitVec.ofNat 32 ((s.tcCatchUp n adv).wide (tcLo n u)))) ∧
  (∀ (s : State) (n : Fin 16) (u : Option (Fin 4)) (adv : Nat), s.domOn domTIME = true →
    Gives (.timerHiRead .jtag n u adv) s fun t => t.resp = .word (BitVec.ofNat 32 ((s.tcCatchUp n adv).wide (tcLo n u) / 2 ^ 32))) ∧
  (∀ (s : State) (c : Core) (user : Bool) (n : Fin 16) (u : Option (Fin 4)) (adv : Nat) (p : Core × Nat × Nat), s.domOn domTIME = true →
    s.on (F.TC_CTRL_WIDE_MODE n) = false → s.tim.latch.find? (fun p => p.1 == c && p.2.1 == tcLo n u) = some p →
    Gives (.timerHiRead (.core c user) n u adv) s fun t => t.resp = .word (BitVec.ofNat 32 p.2.2)) ∧
  (∀ (s : State) (n : Fin 16) (m : Fin 4) (rising : Bool) (adv : Nat), s.live domTIME = true → s.pinned (.tcIn n m) = true →
    s.rd (F.TC_CC_CFG_MODE n m) = 2 → bit (s.rd (F.TC_CC_CFG_EDGE n m)) (if rising then 0 else 1) = true →
    s.rd (F.TC_CC_CFG_EPSC n m) ≤ (s.tunit n m).edges → Gives (.capture n m rising adv false) s fun t =>
      t.wide (Reg.TC_CC_LO n m) = (s.tcRun n adv).tcCnt n ∧ bit (t.rd (F.TC_STAT_FLAG n)) m = true) ∧
  (∀ (s : State) (who : Agent) (advs : List Nat), s.Open domTIME → Gives (.snapshot who advs) s fun t =>
    t.rd F.TC_SNAP_STAT_SEQ = (s.rd F.TC_SNAP_STAT_SEQ + 1) % 2 ^ 16 ∧ ∀ n : Fin 16, t.wide (Reg.TC_SNAP_LO n) = t.tcCnt n)

/-! ## Measurement (chapter 13) -/

/-- Triggers, passes, calibrations, Surveys and sensor faults (R446, R447, R450, R456, R459-R463, R465). -/
def Obligations.MeasurementActs : Prop :=
  (∀ (s : State) (who : Agent) (lists : BitVec 8) (k : Fin 8), s.Open domAREF → lists.getLsbD k = true → s.on (F.ADC_SL_CFG_EN k) = true →
    s.on (F.ADC_SL_CFG_MODE k) = false → s.anyLive = true → s.on (F.ADC_SL_STAT_PENDING k) = false → s.listSlice k = none →
    Gives (.adcTrigger who lists) s fun t => t.on (F.ADC_SL_STAT_PENDING k) = true) ∧
  (∀ (s : State) (who : Agent) (lists : BitVec 8) (k : Fin 8), s.Open domAREF → lists.getLsbD k = true → s.on (F.ADC_SL_CFG_EN k) = true →
    s.on (F.ADC_SL_CFG_MODE k) = false → s.on (F.ADC_SL_STAT_PENDING k) = true → s.rd (F.ADC_SL_OVR_COUNT k) < 65535 →
    Gives (.adcTrigger who lists) s fun t => t.rd (F.ADC_SL_OVR_COUNT k) = s.rd (F.ADC_SL_OVR_COUNT k) + 1) ∧
  (∀ (s : State) (who : Agent), s.Open domAREF → s.adc.survey = none → Gives (.survey who) s fun t =>
    t.adc.survey = some 2 ∧ t.on F.ADC_STAT_SURVEYING = true) ∧
  (∀ s : State, s.live domAREF = true → s.rd F.ADC_CFG_SURVEY_S ≠ 0 → s.adc.survey = none → Gives .surveyPeriod s fun t =>
    t.adc.survey = some 1 ∧ t.on F.ADC_STAT_SURVEYING = true) ∧
  (∀ (s : State) (x k : Nat), s.live domAREF = true → s.nextSlice = some x → s.nextList = some k → s.adc.slices.length = 3 →
    Gives .adcPassStart s fun t => (t.slc x).pass = some (s.newPass k) ∧ t.on (F.ADC_SL_STAT_RUNNING k) = true ∧
      t.on (F.ADC_SL_STAT_PENDING k) = false ∧ t.rd (F.ADC_SL_STAT_SLICE k) = x) ∧
  (∀ (s : State) (x : Fin 3) (raw raw2 : BitVec 16) (tie : Bool) (p : AdcPass), (s.slc x).pass = some p → s.live domAREF = true →
    s.slcOn x = true → p.held = false → p.idx < p.len → p.restart = false → p.list < 8 → p.idx < 16 →
    Gives (.adcEntryDone x raw raw2 tie) s fun t =>
      (t.slc x).pass = some { p with idx := p.idx + 1, held := false } ∧ t.on (F.ADC_RES_VALID p.list p.idx) = true ∧
      t.rd (F.ADC_RES_SLICE p.list p.idx) = x) ∧
  (∀ (s : State) (x : Fin 3) (raw raw2 : BitVec 16) (tie : Bool) (p : AdcPass), (s.slc x).pass = some p → s.domOn domAREF = true →
    s.frozen domAREF = true → s.slcOn x = true → p.held = false → p.idx < p.len → p.list < 8 → p.idx < 16 →
    Gives (.adcEntryDone x raw raw2 tie) s fun t =>
      (t.slc x).pass = some { p with held := true } ∧ t.on (F.ADC_RES_VALID p.list p.idx) = true) ∧
  (∀ (s : State) (x : Fin 3) (p : AdcPass), (s.slc x).pass = some p → s.live domAREF = true → s.slcOn x = true → p.list < 8 → p.len ≤ p.idx →
    Gives (.adcPassDone x) s fun t => (t.slc x).pass = none ∧ t.on (F.ADC_SL_STAT_RUNNING p.list) = false ∧
      t.rd (F.ADC_SL_STAT_PASSES p.list) = (s.rd (F.ADC_SL_STAT_PASSES p.list) + 1) % 2 ^ 28) ∧
  (∀ (s : State) (inc : Nat), s.live domAREF = true → (List.range 3).find? (fun x => s.slcOn x && s.slcState x == 4) = some inc →
    Gives .adcSwap s fun t => t.slcState inc = 0) ∧
  (∀ (s : State) (x : Fin 3) (vz lo hi : Nat), s.live domAREF = true → s.slcOn x = true → s.slcState x = 2 → hi ≤ lo →
    s.adc.slices.length = 3 → Gives (.reliefCalibrationDone x vz lo hi) s fun t =>
      t.slcState x = 5 ∧ (t.slc x).bad = true ∧ t.on F.ADC_STAT_NO_RELIEF = true) ∧
  (∀ (s u : State) (x : Fin 3) (vz lo hi : Nat) (off gain : Int), s.live domAREF = true → s.slcOn x = true → s.slcState x = 2 →
    s.fitCal lo hi = some ((off, gain), u) → calPasses (u.slc x).rec0 off gain vz = true → s.adc.slices.length = 3 →
    Gives (.reliefCalibrationDone x vz lo hi) s fun t => t.rd (F.ADC_CORR_GAIN x) = wrapInt 16 gain ∧
      t.rd (F.ADC_CORR_OFFSET x) = wrapInt 16 off ∧ (t.slc x).bad = false) ∧
  (∀ (s : State) (x : Fin 3), s.live domAREF = true → s.slcOn x = true → s.slcState x = 5 →
    Gives (.badSliceRetry x) s fun t => t.slcState x = 2) ∧
  (∀ (s : State) (raws : List (BitVec 16)) (cause x : Nat), s.adc.survey = some cause → s.live domAREF = true →
    (List.range 3).find? (fun x => s.slcOn x && s.slcState x == 3) = some x → Gives (.surveyDone raws) s fun t =>
      t.adc.survey = none ∧ t.on F.ADC_STAT_SURVEYING = false ∧ t.slcState x = 4 ∧ t.adc.surveySeq = (s.adc.surveySeq + 1) % 65536) ∧
  (∀ (s : State) (c : Fin 12), s.live domAREF = true → (s.sensor (16 + c.val)).badRun = true → s.sensorFault (16 + c.val) = false →
    Gives (.sensorFaultSet c) s fun t => t.sensorFault (16 + c.val) = true ∧ t.on (F.ADC_CH_FAULT (16 + c.val)) = true ∧
      t.rd (F.ADC_CH_VALUE (16 + c.val)) = hottest % 65536) ∧
  (∀ (s : State) (c : Fin 12), s.live domAREF = true → (s.sensor (16 + c.val)).goodRun = true → s.sensorFault (16 + c.val) = true →
    Gives (.sensorFaultClear c) s fun t => t.sensorFault (16 + c.val) = false ∧ t.on (F.ADC_CH_FAULT (16 + c.val)) = false)

/-! ## The two-wire ports (chapter 14) -/

/-- Firmware's transactions on a two-wire port start, end, retry, time out and are abandoned (R476-R482, R494-R496). -/
def Obligations.TwoWireTransactionsAct : Prop :=
  (∀ (s : State) (who : Agent) (p : Fin 6), s.Open domTWB → s.on (F.TWB_STAT_BUSY p) = false → s.on (F.TWB_CFG_EN p) = true →
    xferBad (s.word (Reg.TWB_XFER p)) (s.txBuf p) = false → s.twb.ports.length = 6 → Gives (.twbGo who p) s fun t =>
      t.on (F.TWB_STAT_BUSY p) = true ∧ (t.twp p).wait = true ∧ (t.twp p).xfer = s.word (Reg.TWB_XFER p) ∧ (t.twp p).tx = s.txBuf p) ∧
  (∀ (s : State) (who : Agent) (p : Fin 6), s.Open domTWB → s.on (F.TWB_STAT_BUSY p) = false → s.on (F.TWB_CFG_EN p) = false →
    Gives (.twbGo who p) s fun t => t.on (F.TWB_STAT_BUSY p) = false ∧ t.on (F.TWB_STAT_DONE p) = true ∧ t.rd (F.TWB_STAT_RESULT p) = 10) ∧
  (∀ (s : State) (who : Agent) (p : Fin 6), s.Open domTWB → s.on (F.TWB_STAT_BUSY p) = false → s.on (F.TWB_CFG_EN p) = true →
    xferBad (s.word (Reg.TWB_XFER p)) (s.txBuf p) = true →
    Gives (.twbGo who p) s fun t => t.on (F.TWB_STAT_BUSY p) = false ∧ t.on (F.TWB_STAT_DONE p) = true ∧ t.rd (F.TWB_STAT_RESULT p) = 11) ∧
  (∀ (s : State) (who : Agent) (p : Fin 6), s.Open domTWB → s.on (F.TWB_STAT_BUSY p) = true → Gives (.twbGo who p) s fun t =>
    t.on (F.TWB_ERR_REFUSED p) = true ∧ t.on (F.TWB_STAT_BUSY p) = true ∧ t.twb = s.twb) ∧
  (∀ (s : State) (who : Agent) (p : Fin 6), s.Open domTWB → s.on (F.TWB_STAT_BUSY p) = true →
    ((s.twp p).wait = true ∨ (s.twp p).retry = true ∨ (s.twp p).clearDue = true) → Gives (.abort who p) s fun t => t.on (F.TWB_STAT_BUSY p) = false ∧ t.on (F.TWB_STAT_DONE p) = true ∧
      t.rd (F.TWB_STAT_RESULT p) = 9 ∧ (t.twp p).wait = false ∧
      (t.twp p).retry = false ∧ (t.twp p).clearDue = false) ∧
  (∀ (s : State) (who : Agent) (p : Fin 6), s.Open domTWB → s.on (F.TWB_STAT_BUSY p) = true → (s.twp p).wait = false →
    (s.twp p).retry = false → (s.twp p).clearDue = false → s.twb.ports.length = 6 → Gives (.abort who p) s fun t =>
      (t.twp p).abort = true ∧ t.on (F.TWB_STAT_BUSY p) = true) ∧
  (∀ (s : State) (who : Agent) (p : Fin 6), s.Open domTWB → s.on (F.TWB_STAT_BUSY p) = false → s.on (F.TWB_CFG_EN p) = true →
    (s.twp p).run = none → s.twb.ports.length = 6 → Gives (.busClear who p) s fun t =>
      (t.twp p).run = some .clear ∧ t.on (F.TWB_STAT_BUSY p) = true) ∧
  (∀ (s : State) (who : Agent) (p : Fin 6), s.Open domTWB → s.on (F.TWB_STAT_BUSY p) = false → s.on (F.TWB_CFG_EN p) = true →
    (s.twp p).run.isSome = true → Gives (.busClear who p) s fun t =>
      (t.twp p).clearDue = true ∧ (t.twp p).run = (s.twp p).run ∧ t.on (F.TWB_STAT_BUSY p) = true) ∧
  (∀ (s : State) (p : Fin 6), s.twOn p = true → (s.twp p).run = none →
    s.on (F.TWB_STAT_BUS_BUSY p) = false → (s.twp p).wait = true → Gives (.twbTransactionStart p) s fun t =>
      (t.twp p).run = some .fw ∧ (t.twp p).wait = false ∧ t.on (F.TWB_STAT_BUS_BUSY p) = true) ∧
  (∀ (s : State) (p : Fin 6), s.twOn p = true → (s.twp p).run = none → s.on (F.TWB_STAT_BUS_BUSY p) = false → (s.twp p).wait = false →
    (s.twp p).retry = true → (s.twp p).gap = false → Gives (.twbTransactionStart p) s fun t =>
      (t.twp p).run = some .fw ∧ (t.twp p).retry = false ∧ t.rd (F.TWB_STAT_TRIES p) = (s.rd (F.TWB_STAT_TRIES p) + 1) % 8) ∧
  (∀ (s : State) (p : Fin 6) (k : Fin 8) (r : List Nat), s.twOn p = true → (s.twp p).run = none →
    s.on (F.TWB_STAT_BUS_BUSY p) = false → (s.twp p).wait = false → (s.twp p).retry = false → s.duePolls p = k.val :: r →
    s.twb.ports.length = 6 → Gives (.twbTransactionStart p) s fun t =>
      (t.twp p).run = some (.poll k (s.word (Reg.TWB_SNS_CFG k))) ∧ (t.twp p).polls = r ∧ t.on (F.TWB_STAT_POLLING p) = true) ∧
  (∀ (s : State) (p : Fin 6) (e : TwEnd) (code idx : Nat) (rx : List Byte), s.live domTWB = true → (s.twp p).run = some .fw →
    (∀ k rx, e = .cut k rx → (s.twp p).abort = true) → xferEnd (s.twp p).xfer (s.twp p).tx e = (code, idx, rx) → idx < 64 →
    ((code ≠ 1 ∧ code ≠ 3) ∨ bits (s.twp p).xfer.toNat 31 29 ≤ s.rd (F.TWB_STAT_TRIES p) ∨ (s.twp p).abort = true) →
    Gives (.twbTransactionEnd p e) s fun t => t.rd (F.TWB_STAT_RESULT p) = code ∧ t.rd (F.TWB_STAT_INDEX p) = idx ∧
      t.on (F.TWB_STAT_BUSY p) = false ∧ t.on (F.TWB_STAT_DONE p) = true ∧ (t.twp p).run = none) ∧
  (∀ (s : State) (p : Fin 6) (e : TwEnd) (code idx : Nat) (rx : List Byte), s.live domTWB = true → (s.twp p).run = some .fw →
    (s.twp p).abort = false → (s.twp p).clearDue = false → (∀ k rx, e ≠ .cut k rx) → xferEnd (s.twp p).xfer (s.twp p).tx e = (code, idx, rx) → (code = 1 ∨ code = 3) →
    s.rd (F.TWB_STAT_TRIES p) < bits (s.twp p).xfer.toNat 31 29 → Gives (.twbTransactionEnd p e) s fun t =>
      (t.twp p).retry = true ∧ (t.twp p).gap = (code == 1) ∧ (t.twp p).run = none) ∧
  (∀ (s : State) (p : Fin 6) (b : Byte) (rx : List Byte), s.live domTWB = true → (s.twp p).run = some .ara →
    Gives (.twbTransactionEnd p (.done (b :: rx))) s fun t =>
      ((s.twp p).ara.length < 4 → (t.twp p).ara = (s.twp p).ara ++ [b]) ∧
      (4 ≤ (s.twp p).ara.length → t.on (F.TWB_ERR_ARA_FULL p) = true ∧ (t.twp p).ara = (s.twp p).ara)) ∧
  (∀ (s : State) (p : Fin 6) (k : Fin 8) (cfg : Word) (rx : List Byte), s.live domTWB = true → (s.twp p).run = some (.poll k cfg) →
    (s.twp p).clearDue = false → Gives (.twbTransactionEnd p (.done rx)) s fun t => t.on (F.TWB_STAT_POLLING p) = false ∧ t.on (F.TWB_SNS_VALID k) = true ∧
      (t.twp p).run = none) ∧
  (∀ (s : State) (p : Fin 6), s.twOn p = true → (s.twp p).retry = true → (s.twp p).run = none → s.on (F.TWB_STAT_BUS_BUSY p) = true →
    Gives (.twbRetry p) s fun t => (t.twp p).retry = true ∧ (t.twp p).gap = false) ∧
  (∀ (s : State) (p : Fin 6), s.twOn p = true → (s.twp p).retry = true → (s.twp p).run = none → s.on (F.TWB_STAT_BUS_BUSY p) = false →
    Gives (.twbRetry p) s fun t => (t.twp p).run = some .fw ∧ (t.twp p).retry = false ∧
      t.rd (F.TWB_STAT_TRIES p) = (s.rd (F.TWB_STAT_TRIES p) + 1) % 8 ∧ t.on (F.TWB_STAT_BUS_BUSY p) = true) ∧
  (∀ (s : State) (p : Fin 6) (idx : Nat) (rx : List Byte), s.live domTWB = true → s.clockLowOn p = true → (s.twp p).run = some .fw →
    idx < 64 → Gives (.twbClockLowTimeout p ⟨idx, rx⟩ false) s fun t => t.rd (F.TWB_STAT_RESULT p) = 4 ∧ t.rd (F.TWB_STAT_INDEX p) = idx ∧
      t.on (F.TWB_STAT_BUSY p) = false ∧ (t.twp p).run = none) ∧
  (∀ (s : State) (p : Fin 6) (scl sda freed : Bool), s.live domTWB = true → s.on (F.TWB_CFG_EN p) = true → (s.twp p).run = none →
    (s.twp p).wait = true → (scl && s.twPinned p && sda) = false →
    (scl && s.twPinned p && (s.on (F.TWB_CFG_AUTO_CLEAR p) && freed)) = false →
    Gives (.twbStuckTimeout p scl sda freed) s fun t => t.rd (F.TWB_STAT_RESULT p) = (if scl && s.twPinned p then 7 else 8) ∧
      t.on (F.TWB_STAT_BUSY p) = false ∧ (t.twp p).wait = false)

/-- Bus state, the target, the tellers' bytes, alerts, Host Notify and sensor polls (R476, R483-R491). -/
def Obligations.TwoWireTargetActs : Prop :=
  (∀ (s : State) (p : Fin 6), s.live domTWB = true → s.on (F.TWB_CFG_EN p) = true → s.clockLowOn p = true →
    Gives (.twbTargetTimeout p false) s fun t => t.on (F.TWB_ERR_TGT_TIMEOUT p) = true) ∧
  (∀ (s : State) (p : Fin 6) (al : Bool), s.twOn p = true → (s.twp p).run = none →
    Gives (.twbBusFree p al) s fun t => t.on (F.TWB_STAT_BUS_BUSY p) = false ∧ t.on (F.TWB_STAT_SCL p) = true ∧
      t.on (F.TWB_STAT_SDA p) = true) ∧
  (∀ (s : State) (p : Fin 6) (al tie : Bool), s.twOn p = true →
    Gives (.twbStartCondition p al tie) s fun t => t.on (F.TWB_STAT_BUS_BUSY p) = true) ∧
  (∀ (s : State) (p : Fin 6) (al : Bool), s.twOn p = true → (s.twp p).run = none →
    Gives (.twbStopCondition p al) s fun t => t.on (F.TWB_STAT_BUS_BUSY p) = false) ∧
  (∀ (s : State) (p : Fin 6) (al tie : Bool), s.live domTWB = true → s.twPinned p = true → s.on (F.TWB_CFG_EN p) = false → (s.twp p).run = none →
    ∀ c ∈ [Instr.twbBusFree p al, .twbStartCondition p al tie, .twbStopCondition p al], Gives c s fun t =>
      t.on (F.TWB_STAT_SCL p) = true ∧ t.on (F.TWB_STAT_BUS_BUSY p) = s.on (F.TWB_STAT_BUS_BUSY p)) ∧
  (∀ (s : State) (p : Fin 6) (addr : BitVec 7) (b : List Byte) (n : Nat) (sr won : Bool) (e : TellerEntry), s.twOn p = true →
    (s.twp p).tgt = none → s.domOn domHOST = true → (addr.toNat = 0x0C → s.on (F.TWB_TGT_ALERT p) = false) →
    s.twTeller p addr.toNat = some e → e.kind ≠ 0 → s.on (F.TWB_CFG_TPEC p) = false → Gives (.twbTargetTransaction p addr true b n sr won) s
      fun t => t.rd (F.TWB_TGT_LAST_ADDR p) = addr.toNat ∧ t.on (F.TWB_TGT_READ p) = true ∧
        t.resp = .bytes 0 ((List.range n).map fun i => if (s.twOff e + i) % 256 < e.span && e.allows false
          then memGet s.mem (e.at ((s.twOff e + i) % 256)) else 0xFF)) ∧
  (∀ (s : State) (p : Fin 6) (addr : BitVec 7) (o d : Byte) (n : Nat) (sr won : Bool) (e : TellerEntry), s.twOn p = true →
    (s.twp p).tgt = none → s.domOn domHOST = true → s.twTeller p addr.toNat = some e → e.kind ≠ 0 →
    s.on (F.TWB_CFG_TPEC p) = false → e.allows true = true → o.toNat < e.span →
    Gives (.twbTargetTransaction p addr false [o, d] n sr won) s fun t => memGet t.mem (e.at o.toNat) = d ∧
      t.rd (F.TWB_TGT_LAST_ADDR p) = addr.toNat ∧ t.on (F.TWB_TGT_READ p) = false) ∧
  (∀ (s : State) (p : Fin 6) (addr : BitVec 7) (o d : Byte) (n : Nat) (sr won : Bool) (e : TellerEntry), s.twOn p = true →
    (s.twp p).tgt = none → s.domOn domHOST = true → s.twTeller p addr.toNat = some e → e.kind = 0 → e.allows true = true → o.toNat < e.span →
    s.twb.ports.length = 6 → (s.tlrQueue e.owner).length < 4 → (s.hst.held.any fun h => h.owner == e.owner) = false →
    Gives (.twbTargetTransaction p addr false [o, d] n sr won) s fun t => (t.twp p).tgt.isSome = true ∧ t.resp = .bytes 0 [] ∧
      t.tlrQueue e.owner = s.tlrQueue e.owner ++ tlrEntries e true false p o.toNat [d] 1) ∧
  (∀ (s : State) (p : Fin 6) (b0 b1 b2 : Byte), s.twOn p = true → (s.twp p).tgt = none → s.on (F.TWB_CFG_HN_EN p) = true →
    s.on (F.TWB_HN_VALID p) = false → s.on (F.TWB_CFG_TPEC p) = false → Gives (.hostNotify p [b0, b1, b2]) s fun t =>
      t.on (F.TWB_HN_VALID p) = true ∧ t.rd (F.TWB_HN_ADDR p) = b0.toNat / 2 ∧ t.rd (F.TWB_HN_DATA p) = b1.toNat + 256 * b2.toNat) ∧
  (∀ (s : State) (p : Fin 6) (b : List Byte), s.twOn p = true → (s.twp p).tgt = none → s.on (F.TWB_CFG_HN_EN p) = true →
    s.on (F.TWB_HN_VALID p) = true → s.rd (F.TWB_COUNTS_HN_NACKS p) < 255 → Gives (.hostNotify p b) s fun t =>
      t.rd (F.TWB_COUNTS_HN_NACKS p) = s.rd (F.TWB_COUNTS_HN_NACKS p) + 1 ∧ t.word (Reg.TWB_HN p) = s.word (Reg.TWB_HN p)) ∧
  (∀ (s : State) (p : Fin 6) (b : List Byte), s.twOn p = true → (s.twp p).tgt = none → s.on (F.TWB_CFG_HN_EN p) = true →
    s.on (F.TWB_HN_VALID p) = false → s.on (F.TWB_CFG_TPEC p) = false → b.length ≠ 3 → Gives (.hostNotify p b) s fun t =>
      t.on (F.TWB_ERR_HN_BAD p) = true ∧ t.word (Reg.TWB_HN p) = s.word (Reg.TWB_HN p)) ∧
  (∀ (s : State) (who : Agent) (p : Fin 6) (w : Word), s.Open domTWB → Gives (.twbAlertWrite who p w) s fun t =>
    t.on (F.TWB_TGT_ALERT p) = (F.TWB_TGT_ALERT p).has w ∧
    t.on (F.TWB_STAT_ALERT_LINE p) = ((s.twp p).line == some true && !(s.on (F.TWB_CFG_EN p) && (F.TWB_TGT_ALERT p).has w))) ∧
  (∀ (s : State) (p : Fin 6), s.twOn p = true → s.on (F.TWB_CFG_AUTO_ARA p) = true →
    (s.twp p).wait = false → (s.twp p).retry = false → (s.twp p).run = none → s.on (F.TWB_STAT_BUS_BUSY p) = false →
    s.pinned (.twAlert p) = true → s.drivesAlert p = false → s.twb.ports.length = 6 →
    (Gives (.autoAra p true) s fun t => (t.twp p).run = some .ara ∧ t.on (F.TWB_STAT_BUS_BUSY p) = true) ∧
    (Gives (.autoAra p false) s fun t => (t.twp p).run = none ∧ t.on (F.TWB_STAT_ALERT_LINE p) = true)) ∧
  (∀ (s : State) (c : Core) (user : Bool) (p : Fin 6), s.Open domTWB → Gives (.twbAraRead (.core c user) p) s fun t =>
    t.resp = .word (s.araWord p) ∧ (t.twp p).ara = (s.twp p).ara.tail) ∧
  (∀ (s : State) (p : Fin 6), s.Open domTWB → Gives (.twbAraRead .jtag p) s fun t =>
    t.resp = .word (s.araWord p) ∧ (t.twp p).ara = (s.twp p).ara) ∧
  (∀ (s : State) (k : Fin 8), s.live domTWB = true → s.on (F.TWB_SNS_CFG_EN k) = true → s.rd (F.TWB_SNS_CFG_PORT k) < 6 →
    s.on (F.TWB_CFG_EN (s.rd (F.TWB_SNS_CFG_PORT k))) = true → (s.twp (s.rd (F.TWB_SNS_CFG_PORT k))).polls.contains k.val = false →
    s.twb.ports.length = 6 → Gives (.sensorSlotPoll k) s fun t =>
      (t.twp (s.rd (F.TWB_SNS_CFG_PORT k))).polls = (s.twp (s.rd (F.TWB_SNS_CFG_PORT k))).polls ++ [k.val])

/-! ## Fans and pumps (chapter 15) -/

/-- The fans' loop periods, tachometers, kick, stall and pumps, the safety loop, learning and ageing (R503-R522). -/
def Obligations.FansAct : Prop :=
  (∀ (s : State) (n : Fin 8), s.live domFAN = true → s.rd (F.FAN_CFG_MODE n) = 1 → s.fan.chans.length = 8 → Gives (.fanLoopPeriod n) s fun t =>
    (t.fch n).duty = s.holdDuty n (s.rd (F.FAN_SET_TARGET n) : Nat) ∧ (t.fch n).mode = some 1) ∧
  (∀ (s : State) (n : Fin 8), s.live domFAN = true → s.rd (F.FAN_CFG_MODE n) = 0 → s.on (F.FAN_CFG_PUMP n) = false →
    s.fan.chans.length = 8 → Gives (.fanLoopPeriod n) s fun t => (t.fch n).duty = s.holdDuty n 0) ∧
  (∀ (s : State) (n : Fin 8) (dt r : Nat) (phase tie : Bool), s.live domFAN = true → s.on (F.FAN_CFG_TACH_EN n) = true →
    s.on (F.FAN_CFG_FREQ_LOW n) = false → (s.fch n).edgeSeen = true →
    rpmOf ((dt :: (s.fch n).gaps).take 4) (s.rd (F.FAN_CFG_PPR n) + 1) = some r → Gives (.fanTachEdge n dt true phase tie) s fun t =>
      t.rd (F.FAN_RPM_RPM n) = r ∧ t.on (F.FAN_RPM_TACH_SEEN n) = true) ∧
  (∀ (s : State) (n : Fin 8), s.live domFAN = true → Gives (.fanTachLapse n) s fun t => t.on (F.FAN_RPM_TACH_SEEN n) = false) ∧
  (∀ (s : State) (n : Fin 8), s.live domFAN = true → s.on (F.FAN_STAT_KICK n) = true → Gives (.fanKickEnd n) s fun t =>
    t.on (F.FAN_STAT_KICK n) = false) ∧
  (∀ (s : State) (n : Fin 8), s.live domFAN = true → s.on (F.FAN_CFG_TACH_EN n) = true → s.rd (F.FAN_STAT_DUTY n) ≠ 0 →
    s.on (F.FAN_STAT_KICK n) = false → s.on (F.FAN_STAT_STALLED n) = false → s.on (F.FAN_STAT_LEARNING n) = false →
    s.on (F.FAN_STAT_SAFE n) = false → Gives (.fanStall n) s fun t => t.on (F.FAN_STAT_STALLED n) = true ∧
      t.on (F.FAN_STAT_STALL n) = true ∧ t.rd (F.FAN_STAT_DUTY n) = 1000) ∧
  (∀ (s : State) (n : Fin 8), s.live domFAN = true → s.on (F.FAN_CFG_TACH_EN n) = true → s.rd (F.FAN_STAT_DUTY n) ≠ 0 →
    s.on (F.FAN_STAT_KICK n) = false → s.on (F.FAN_STAT_STALLED n) = false → s.on (F.FAN_STAT_LEARNING n) = true →
    Gives (.fanStall n) s fun t => t.on (F.FAN_STAT_STALLED n) = true ∧ t.on F.FAN_LEARN_STAT_BUSY = false ∧
      t.rd F.FAN_LEARN_STAT_CODE = 2) ∧
  (∀ (s : State) (n : Fin 8), s.live domFAN = true → s.on (F.FAN_STAT_STALLED n) = true → s.on (F.FAN_RPM_TACH_SEEN n) = true →
    Gives (.fanStallClear n) s fun t => t.on (F.FAN_STAT_STALLED n) = false) ∧
  (∀ (s : State) (n : Fin 8), s.live domFAN = true → s.on (F.FAN_CFG_PUMP n) = true → s.on (F.FAN_CFG_TACH_EN n) = true →
    s.on (F.FAN_STAT_PUMP_LOW n) = false → s.rd (F.FAN_STAT_DUTY n) ≠ 0 → s.rd (F.FAN_RPM_RPM n) < s.rd (F.FAN_SET_PUMP_RPM n) →
    Gives (.fanPumpLow n) s fun t => t.on (F.FAN_STAT_PUMP_LOW n) = true) ∧
  (∀ (s : State) (n : Fin 8), s.live domFAN = true → s.on (F.FAN_STAT_PUMP_LOW n) = true →
    s.rd (F.FAN_SET_PUMP_RPM n) ≤ s.rd (F.FAN_RPM_RPM n) → Gives (.fanPumpRecover n) s fun t => t.on (F.FAN_STAT_PUMP_LOW n) = false) ∧
  (∀ s : State, s.live 0 = true → s.fan.watched = true → s.pwr.phase ≠ .stopped → Gives .fanSafetyPeriod s fun t =>
    t.rd F.FAN_SAFE_STAT_CAUSE = s.safeCauses ∧ t.on F.FAN_SAFE_STAT_ACTIVE = (s.safeCauses != 0)) ∧
  (∀ (s : State) (c : Core) (user tie : Bool), s.Open 0 → Gives (.fanHeartbeat (.core c user) 0xB5 tie) s fun t =>
    t.on F.FAN_SAFE_STAT_ARMED = true ∧ t.fan.late = false) ∧
  (∀ (s : State) (who : Agent) (key : BitVec 8) (tie : Bool), s.Open 0 → (key ≠ 0xB5 ∨ who = .jtag) →
    Gives (.fanHeartbeat who key tie) s fun t => t = s.reply .none) ∧
  (∀ s : State, s.live 0 = true → s.on F.FAN_SAFE_STAT_ARMED = true → s.pwr.phase ≠ .stopped → Gives .fanHeartbeatTimeout s fun t =>
    t.fan.late = true) ∧
  (∀ (s : State) (who : Agent), s.Takes who 0 → Gives (.force who 0x5F) s fun t => t.fan.forced = true) ∧
  (∀ (s : State) (who : Agent), s.Takes who 0 → Gives (.unforce who 0x5F) s fun t => t.fan.forced = false) ∧
  (∀ (s : State) (who : Agent) (key : BitVec 8), s.Takes who 0 → key ≠ 0x5F → Gives (.force who key) s fun t => t = s.reply .none) ∧
  (∀ (s : State) (who : Agent) (key : BitVec 8), s.Takes who 0 → key ≠ 0x5F → Gives (.unforce who key) s fun t => t = s.reply .none) ∧
  (∀ (s : State) (who : Agent) (ch : Fin 8), s.Takes who domFAN → s.on F.FAN_LEARN_STAT_BUSY = false → s.on (F.FAN_CFG_TACH_EN ch) = true →
    s.on (F.FAN_STAT_SAFE ch) = false → s.on (F.FAN_STAT_STALLED ch) = false → Gives (.fanLearn who 0xA7 ch) s fun t =>
      t.on F.FAN_LEARN_STAT_BUSY = true ∧ t.rd F.FAN_LEARN_STAT_CH = ch ∧ t.rd F.FAN_LEARN_STAT_POINT = 0 ∧
      t.on (F.FAN_STAT_LEARNING ch) = true ∧ t.fan.learn = []) ∧
  (∀ (s : State) (who : Agent) (ch : Fin 8), s.Takes who domFAN → (s.on F.FAN_LEARN_STAT_BUSY = true ∨ s.on (F.FAN_CFG_TACH_EN ch) = false ∨
    s.on (F.FAN_STAT_SAFE ch) = true ∨ s.on (F.FAN_STAT_STALLED ch) = true) → Gives (.fanLearn who 0xA7 ch) s fun t =>
      t.on F.FAN_LEARN_STAT_DONE = true ∧ t.rd F.FAN_LEARN_STAT_CODE = 1 ∧ t.on F.FAN_LEARN_STAT_BUSY = s.on F.FAN_LEARN_STAT_BUSY) ∧
  (∀ (s : State) (who : Agent), s.Takes who domFAN → s.on F.FAN_LEARN_STAT_BUSY = true → Gives (.fanLearnAbort who 0xA7) s fun t =>
    t.on F.FAN_LEARN_STAT_BUSY = false ∧ t.on F.FAN_LEARN_STAT_DONE = true ∧ t.rd F.FAN_LEARN_STAT_CODE = 4) ∧
  (∀ (s : State) (rpm : BitVec 16), s.live domFAN = true → s.on F.FAN_LEARN_STAT_BUSY = true → s.fan.learn.length < 7 →
    Gives (.fanLearnPoint rpm) s fun t => t.fan.learn = s.fan.learn ++ [rpm.toNat] ∧
      t.rd F.FAN_LEARN_STAT_POINT = s.fan.learn.length + 1 ∧ t.fan.learnDuty = s.learnPoint (s.fan.learn.length + 1)) ∧
  (∀ (s : State) (rpm : BitVec 16), s.live domFAN = true → s.on F.FAN_LEARN_STAT_BUSY = true → 7 ≤ s.fan.learn.length →
    rises (s.fan.learn ++ [rpm.toNat]) = false → Gives (.fanLearnPoint rpm) s fun t =>
      t.on F.FAN_LEARN_STAT_BUSY = false ∧ t.rd F.FAN_LEARN_STAT_CODE = 5) ∧
  (∀ (s : State) (n : Fin 8) (tie : Bool), s.live domFAN = true → s.fan.chans.length = 8 → Gives (.fanAgeingSample n tie) s fun t =>
    (t.fch n).lastRpm = some (s.rd (F.FAN_RPM_RPM n))) ∧
  (∀ (s : State) (n : Fin 8) (tie : Bool) (q : (Nat × Nat) × (Nat × Nat)), s.live domFAN = true → s.fan.chans.length = 8 →
    baseUsable (s.fch n).base = true → s.ageOk n = true → bracket (s.rd (F.FAN_RPM_RPM n)) (basePoints (s.fch n).base) = some q →
    Gives (.fanAgeingSample n tie) s fun t => (t.fch n).samples = (s.fch n).samples + 1) ∧
  (∀ (s : State) (n : Fin 8), s.live domFAN = true → s.fan.chans.length = 8 → Gives (.fanAgeingWindow n) s fun t =>
    (t.fch n).samples = 0 ∧ (t.fch n).base = s.record (0x200 + n) ∧ t.on (F.FAN_AGE_NO_BASE n) = !baseUsable (s.record (0x200 + n)) ∧
      (baseUsable (s.fch n).base = true → (s.fch n).samples < 300 → t.on (F.FAN_AGE_SPARSE n) = true))

/-! ## Lamps (chapter 16) -/

/-- The strings and the boost stage (R530-R542, R555, R556). -/
def Obligations.StringsAct : Prop :=
  (∀ (s : State) (x : Fin 4), s.live domLAMPS = true → s.lst.strs.length = 4 → Gives .lampPeriodBoundary s fun t =>
    t.lst.cfg = s.word Reg.LST_CFG ∧ (t.str x).scfg = s.word (Reg.LST_SCFG x) ∧ (t.str x).value = s.rd (F.LST_VAL_VALUE x) ∧
    (t.str x).closed = (s.bypassed x ||| absentLamps ((F.LST_SCFG_NLAMP x).of (s.word (Reg.LST_SCFG x)) + 1)) ∧
    (t.driven x = false → (t.str x).onTicks = 0) ∧
    (t.driven x = true → (F.LST_SCFG_HYBRID x).has (s.word (Reg.LST_SCFG x)) = false →
      (t.str x).onTicks = compensate (2 ^ pwmDepth (F.LST_CFG_WEXP.of (s.word Reg.LST_CFG)) - 1)
        (brightness (s.rd (F.LST_VAL_VALUE x)) (pwmDepth (F.LST_CFG_WEXP.of (s.word Reg.LST_CFG))))
        (s.rd (F.LST_K_K ((F.LST_SCFG_COLOUR x).of (s.word (Reg.LST_SCFG x))))))) ∧
  (∀ (s : State) (x : Fin 4) (v : BitVec 16) (vf : List (BitVec 16)), s.live domLAMPS = true → s.driven x = true → s.onLong x = true →
    natAt (s.str x).cal 1 = 0 → Gives (.headroomSample x v vf) s fun t => (t.str x).vsnk = some v.toNat ∧
      ∀ k, k < s.lampCount x → bit (s.bypassed x) k = false → t.rd (F.LST_VF_VF x k) = (vf.getD k 0).toNat) ∧
  (∀ (s : State) (v : BitVec 16), s.live domLAMPS = true → Gives (.boostUpdate v) s fun t => t.rd F.LST_BST_VBST = v.toNat ∧
    t.on F.LST_BST_GATE_ON = t.boostOn ∧ (s.lst.tracking = true → s.boostOn = true → t.rd F.LST_BST_TGT_TARGET ≤ s.rd F.LST_BST_TGT_VMAX ∧
      t.rd F.LST_BST_TGT_TARGET ≤ s.rd F.LST_BST_TGT_TARGET + 100 ∧ (s.rd F.LST_BST_TGT_TARGET ≤ t.rd F.LST_BST_TGT_TARGET + 100 ∨
        t.rd F.LST_BST_TGT_TARGET = s.rd F.LST_BST_TGT_VMAX))) ∧
  (∀ (s : State) (c x : Fin 4), s.live domLAMPS = true → Gives (.lampCompensation .strings) s fun t =>
    t.rd (F.LST_K_K c) = natAt (s.lampFactors (s.rd F.LST_TSRC_TSRC)).1 c ∧
    t.on (F.LST_STAT_TEMP_FAULT x) = (s.lampFactors (s.rd F.LST_TSRC_TSRC)).2) ∧
  (∀ (s : State) (c : Fin 4), s.live domLAMPM = true → Gives (.lampCompensation .matrix) s fun t =>
    t.rd (F.LMX_K_K c) = natAt (s.lampFactors (s.rd F.LMX_TSRC_TSRC)).1 c ∧
    t.on F.LMX_STAT_TEMP_FAULT = (s.lampFactors (s.rd F.LMX_TSRC_TSRC)).2) ∧
  (∀ (s : State) (c n : Fin 4), s.live domLAMPC = true → Gives (.lampCompensation .chains) s fun t =>
    t.rd (F.LCH_K_K c) = natAt (s.lampFactors (s.rd F.LCH_TSRC_TSRC)).1 c ∧
    t.on (F.LCH_STAT_TEMP_FAULT n) = (s.lampFactors (s.rd F.LCH_TSRC_TSRC)).2) ∧
  (∀ (s : State) (x : Fin 4), s.live domLAMPS = true → s.driven x = true → s.on (F.LST_STAT_DROPOUT x) = false → s.lowHead x = true →
    Gives (.dropoutEnter x false) s fun t => t.on (F.LST_STAT_DROPOUT x) = true ∧ t.kx.levels.contains (288 + x.val) = true) ∧
  (∀ (s : State) (x : Fin 4), s.live domLAMPS = true → s.on (F.LST_STAT_DROPOUT x) = true → s.goodHead x = true →
    Gives (.dropoutExit x false) s fun t => t.on (F.LST_STAT_DROPOUT x) = false ∧ t.kx.levels.contains (288 + x.val) = false) ∧
  (∀ (s : State) (ties : BitVec 4) (x : Fin 4) (k : Nat), s.live domLAMPS = true → s.shedEn x = true → s.driven x = true →
    s.on (F.LST_STAT_DROPOUT x) = true → s.lowHead x = true → s.shedChoice x = some k → Gives (.shedTick ties) s fun t =>
      (t.str x).shed = (s.str x).shed ++ [k] ∧ bit (t.rd (F.LST_LAMP_SHED x)) k = true ∧
      t.rd (F.LST_STAT_NSHED x) = ((s.str x).shed.length + 1) % 16) ∧
  (∀ (s : State) (ties : BitVec 4) (x : Fin 4) (k : Nat), s.live domLAMPS = true → s.on (F.LST_STAT_DROPOUT x) = false →
    (s.str x).shed.getLast? = some k → s.restoreOk x k = true → ties.getLsbD x = false → Gives (.shedTick ties) s fun t =>
      ((s.str x).restore = 50 → (t.str x).shed = (s.str x).shed.dropLast ∧ bit (t.rd (F.LST_LAMP_SHED x)) k = false) ∧
      ((s.str x).restore ≠ 50 → (t.str x).shed = (s.str x).shed ∧ (t.str x).restore = (s.str x).restore + 1)) ∧
  (∀ (s : State) (x : Fin 4), s.live domLAMPS = true → s.driven x = true → s.rd F.LST_BST_TGT_VMAX ≤ s.rd F.LST_BST_VBST →
    s.openLamps x = [] → Gives (.lampOpen x) s fun t => t.on (F.LST_STAT_NOCUR x) = true) ∧
  (∀ (s : State) (x : Fin 4) (k : Nat), s.live domLAMPS = true → s.driven x = true → s.rd F.LST_BST_TGT_VMAX ≤ s.rd F.LST_BST_VBST →
    s.openLamps x = [k] → Gives (.lampOpen x) s fun t => bit (t.rd (F.LST_LAMP_OPEN x)) k = true ∧ bit (t.str x).closed k = true) ∧
  (∀ (s : State) (x : Fin 4) (k : Fin 8), s.live domLAMPS = true → s.driven x = true → bit (s.bypassed x) k = false → k.val < s.lampCount x →
    s.rd (F.LST_VF_VF x k) < 1000 → Gives (.lampShort x k) s fun t => bit (t.rd (F.LST_LAMP_SHORT x)) k = true) ∧
  (∀ (s : State) (who : Agent) (strings : BitVec 4) (x : Fin 4), s.Takes who domLAMPS → Gives (.clearOpen who 0x4C strings) s fun t =>
    t.rd (F.LST_LAMP_OPEN x) = if strings.getLsbD x then 0 else s.rd (F.LST_LAMP_OPEN x)) ∧
  (∀ (s : State) (who : Agent), s.Takes who domLAMPS → Gives (.bstRestart who 0x4C) s fun t =>
    t.on F.LST_BST_LATCHED = false ∧ t.on F.LST_BST_GATE_ON = t.boostOn) ∧
  (∀ (s : State) (who : Agent) (key : BitVec 8) (strings : BitVec 4), s.Takes who domLAMPS → key ≠ 0x4C →
    Gives (.clearOpen who key strings) s fun t => t = s.reply .none) ∧
  (∀ (s : State) (who : Agent) (key : BitVec 8), s.Takes who domLAMPS → key ≠ 0x4C → Gives (.bstRestart who key) s fun t => t = s.reply .none) ∧
  (∀ (s : State) (v : BitVec 16) (dt : Nat), s.live domLAMPS = true → s.lst.ovpHold = false →
    (s.rd F.LST_BST_TGT_VMAX + 2000 < v.toNat ∨ 41000 < v.toNat) → Gives (.boostOvp v dt) s fun t => t.on F.LST_BST_OVP = true ∧
      t.lst.ovpHold = true ∧ t.on F.LST_BST_GATE_ON = false ∧
      (∀ g r, s.lst.ovpSeen = true → s.lst.ovps = g :: r → dt + g ≤ 1000000 → t.on F.LST_BST_LATCHED = true)) ∧
  (∀ s : State, s.live domLAMPS = true → s.on F.LST_BST_GATE_ON = true → s.rd F.LST_BST_VBST + 2000 < s.rd F.LST_BST_TGT_TARGET →
    Gives .boostWeak s fun t => t.on F.LST_BST_WEAK = true)

/-- The indicator matrix and the chains (R543-R549, R557). -/
def Obligations.MatrixAndChainsAct : Prop :=
  (∀ (s : State) (who : Agent), s.Open domLAMPM → s.on F.LMX_CFG_EN = true → s.on F.LMX_STAT_SWAPPING = false →
    s.on F.LMX_STAT_SCANNING = false → s.on F.LMX_STAT_ARMED = false → Gives (.matrixSync ⟨.write who, false⟩) s fun t =>
      t.on F.LMX_STAT_SCANNING = true ∧ t.lmx.cfg = s.word Reg.LMX_CFG ∧ t.lmx.next = 0) ∧
  (∀ (s : State) (who : Agent), s.Open domLAMPM → s.on F.LMX_CFG_EN = true → s.on F.LMX_STAT_SWAPPING = false →
    s.on F.LMX_STAT_SCANNING = false → s.on F.LMX_STAT_ARMED = true → Gives (.matrixSync ⟨.write who, false⟩) s fun t =>
      t.on F.LMX_STAT_ARMED = false ∧ t.on F.LMX_STAT_SWAPPING = true ∧ t.on F.LMX_STAT_FRONT = !s.on F.LMX_STAT_FRONT ∧
      t.rd F.LMX_STAT_SWAPS = (s.rd F.LMX_STAT_SWAPS + 1) % 2 ^ 16 ∧
      ∀ i, i < 192 → t.word (Reg.LMX_FRONT i) = s.word (Reg.LMX_FB i)) ∧
  (∀ (s : State) (who : Agent), s.Open domLAMPM → s.on F.LMX_CFG_EN = true → s.on F.LMX_STAT_SCANNING = true →
    Gives (.matrixSync ⟨.write who, false⟩) s fun t => t.on F.LMX_STAT_QUEUED = true ∧
      (s.on F.LMX_STAT_QUEUED = true → s.rd F.LMX_SYNC_OVR_COUNT < 65535 → t.rd F.LMX_SYNC_OVR_COUNT = s.rd F.LMX_SYNC_OVR_COUNT + 1)) ∧
  (∀ (s : State) (src : SyncFrom), (src = .route ∨ (src = .pin ∧ s.pinned .lmxSync = true)) → s.live domLAMPM = true →
    s.on F.LMX_CFG_SYNC_EXT = true → s.on F.LMX_CFG_EN = true → s.on F.LMX_STAT_SWAPPING = false →
    s.on F.LMX_STAT_SCANNING = false → s.on F.LMX_STAT_ARMED = false → Gives (.matrixSync ⟨src, false⟩) s fun t => t.on F.LMX_STAT_SCANNING = true) ∧
  (∀ (s : State) (who : Agent), s.Open domLAMPM → Gives (.matrixSync ⟨.write who, true⟩) s fun t => t = s.reply .none) ∧
  (∀ s : State, s.live domLAMPM = true → s.on F.LMX_CFG_SYNC_EXT = false → s.on F.LMX_CFG_EN = true → s.on F.LMX_STAT_SWAPPING = false →
    s.on F.LMX_STAT_SCANNING = false → s.on F.LMX_STAT_ARMED = false → Gives .matrixFrameTimer s fun t => t.on F.LMX_STAT_SCANNING = true) ∧
  (∀ (s : State) (who : Agent), s.Open domLAMPM → Gives (.matrixArm who) s fun t => t.on F.LMX_STAT_ARMED = true) ∧
  (∀ s : State, s.live domLAMPM = true → s.on F.LMX_STAT_SWAPPING = false → s.on F.LMX_STAT_SCANNING = true → s.lmx.next < s.matrixRows →
    Gives .matrixRowSlot s fun t => t.rd F.LMX_STAT_ROW = s.lmx.next ∧ t.lmx.next = s.lmx.next + 1 ∧ t.lmx.cols = s.matrixCols s.lmx.next) ∧
  (∀ s : State, s.live domLAMPM = true → s.on F.LMX_STAT_SCANNING = true → s.matrixRows ≤ s.lmx.next → s.on F.LMX_STAT_QUEUED = false →
    Gives .matrixFrameEnd s fun t => t.on F.LMX_STAT_SCANNING = false ∧ t.lmx.cols = []) ∧
  (∀ s : State, s.live domLAMPM = true → s.on F.LMX_STAT_SCANNING = true → s.matrixRows ≤ s.lmx.next → s.on F.LMX_STAT_QUEUED = true →
    s.on F.LMX_STAT_SWAPPING = false → s.on F.LMX_CFG_EN = true → s.on F.LMX_STAT_ARMED = false → Gives .matrixFrameEnd s fun t =>
      t.on F.LMX_STAT_QUEUED = false ∧ t.on F.LMX_STAT_SCANNING = true ∧ t.lmx.next = 0) ∧
  (∀ (s : State) (n : Fin 4) (who : Agent), s.Open domLAMPC → s.on (F.LCH_CFG_EN n) = true → s.on (F.LCH_STAT_BUSY n) = false →
    s.lch.length = 4 → Gives (.chainSync n ⟨.write who, false⟩) s fun t => t.on (F.LCH_STAT_BUSY n) = true ∧
      (t.chain n).cfg = s.word (Reg.LCH_CFG n) ∧ (t.chain n).sent = t.chainValues n ∧
      (t.chain n).echo = echoWord (s.rd (F.LCH_STAT_FRAMES n)) ∧ t.on (F.LCH_STAT_ARMED n) = false ∧
      (s.on (F.LCH_STAT_ARMED n) = true → t.on (F.LCH_STAT_FRONT n) = !s.on (F.LCH_STAT_FRONT n) ∧
        ∀ i, i < 512 → t.word (Reg.LCH_FR n i) = s.word (Reg.LCH_BK n i))) ∧
  (∀ (s : State) (n : Fin 4) (who : Agent), s.Open domLAMPC → s.on (F.LCH_CFG_EN n) = true → s.on (F.LCH_STAT_BUSY n) = true →
    Gives (.chainSync n ⟨.write who, false⟩) s fun t => t.on (F.LCH_STAT_QUEUED n) = true ∧
      (s.on (F.LCH_STAT_QUEUED n) = true → s.rd (F.LCH_OVR_COUNT n) < 65535 → t.rd (F.LCH_OVR_COUNT n) = s.rd (F.LCH_OVR_COUNT n) + 1)) ∧
  (∀ (s : State) (n : Fin 4), s.live domLAMPC = true → s.on (F.LCH_CFG_SYNC_EXT n) = true → s.on (F.LCH_CFG_EN n) = true →
    s.on (F.LCH_STAT_BUSY n) = false → Gives (.chainSync n ⟨.route, false⟩) s fun t => t.on (F.LCH_STAT_BUSY n) = true) ∧
  (∀ (s : State) (n : Fin 4) (who : Agent), s.Open domLAMPC → Gives (.chainSync n ⟨.write who, true⟩) s fun t => t = s.reply .none) ∧
  (∀ (s : State) (n : Fin 4), s.live domLAMPC = true → s.on (F.LCH_CFG_SYNC_EXT n) = false → s.on (F.LCH_CFG_EN n) = true →
    s.on (F.LCH_STAT_BUSY n) = false → Gives (.chainFrameTimer n) s fun t => t.on (F.LCH_STAT_BUSY n) = true) ∧
  (∀ (s : State) (n : Fin 4) (who : Agent), s.Open domLAMPC → Gives (.chainArm n who) s fun t => t.on (F.LCH_STAT_ARMED n) = true) ∧
  (∀ (s : State) (n : Fin 4) (rx : Nat) (last : BitVec 24) (rt : BitVec 16) (stuck : Bool), s.live domLAMPC = true →
    s.on (F.LCH_STAT_BUSY n) = true → s.on (F.LCH_STAT_QUEUED n) = false → Gives (.chainFrameEnd n rx last rt stuck) s fun t =>
      t.on (F.LCH_STAT_BUSY n) = false ∧ t.rd (F.LCH_STAT_FRAMES n) = (s.rd (F.LCH_STAT_FRAMES n) + 1) % 2 ^ 16 ∧
      t.rd (F.LCH_STAT_CODE n) = (s.chainJudge n rx last.toNat stuck).1) ∧
  (∀ (s : State) (n : Fin 4) (rx p : Nat) (last : BitVec 24) (rt : BitVec 16) (stuck : Bool), s.live domLAMPC = true →
    s.on (F.LCH_STAT_BUSY n) = true → s.on (F.LCH_STAT_QUEUED n) = false → (F.LCH_CFG_RET_EN n).has (s.chain n).cfg = true →
    (s.chainJudge n rx last.toNat stuck = (0, (p : Int)) ∨ s.chainJudge n rx last.toNat stuck = (4, (p : Int))) → p < 512 →
    Gives (.chainFrameEnd n rx last rt stuck) s fun t => t.rd (F.LCH_RT_PRESENT n) = p ∧ t.rd (F.LCH_RT_RT n) = rt.toNat) ∧
  (∀ (s : State) (n : Fin 4) (rx : Nat) (last : BitVec 24) (rt : BitVec 16) (stuck : Bool), s.live domLAMPC = true →
    s.on (F.LCH_STAT_BUSY n) = true → s.on (F.LCH_STAT_QUEUED n) = false → (F.LCH_CFG_RET_EN n).has (s.chain n).cfg = true →
    Gives (.chainRetTimeout n rx last rt stuck false) s fun t => t.on (F.LCH_STAT_BUSY n) = false ∧
      t.rd (F.LCH_STAT_CODE n) = (s.chainJudge n rx last.toNat stuck).1)

/-! ## Current-loop outputs (chapter 17) -/

/-- The current-loop outputs (R563-R571, R576). -/
def Obligations.LoopsAct : Prop :=
  (∀ (s : State) (c : Fin 2), s.live domLOOP = true → s.on (F.LOOP_CFG_EN c) = false → Gives (.loopUpdate c) s fun t =>
    t.rd (F.LOOP_STAT_STATE c) = 0 ∧ t.on (F.LOOP_STAT_ALARM c) = false ∧ t.word (Reg.LOOP_TARGET c) = 0) ∧
  (∀ (s : State) (c : Fin 2), s.live domLOOP = true → s.on (F.LOOP_CFG_EN c) = true → s.on (F.LOOP_CFG_MODE c) = false →
    (s.rd (F.LOOP_STAT_STATE c) = 0 ∨ s.rd (F.LOOP_STAT_STATE c) = 1) → s.loops.length = 2 → Gives (.loopUpdate c) s fun t =>
      t.rd (F.LOOP_STAT_STATE c) = 1 ∧ t.rd (F.LOOP_TARGET_TARGET_UA c) = min (s.rd (F.LOOP_CMD_CMD_UA c)) 22500 ∧
      (22500 < s.rd (F.LOOP_CMD_CMD_UA c) → t.on (F.LOOP_STAT_CLAMP c) = true) ∧
      t.rd (F.LOOP_MEAS_I_UA c) = s.rd (F.ADC_CH_VALUE (35 + c)) ∧ t.rd (F.LOOP_MEAS_LOOPV_MV c) = s.rd (F.ADC_CH_VALUE (37 + c))) ∧
  (∀ (s : State) (c : Fin 2), s.live domLOOP = true → s.on (F.LOOP_CFG_EN c) = true → s.on (F.LOOP_CFG_MODE c) = true →
    (s.rd (F.LOOP_STAT_STATE c) = 0 ∨ s.rd (F.LOOP_STAT_STATE c) = 1) → s.loops.length = 2 → Gives (.loopUpdate c) s fun t =>
      t.rd (F.LOOP_TARGET_TARGET_UA c) = (s.loopMode1 c).1 ∧ t.on (F.LOOP_STAT_SAT c) = (s.loopMode1 c).2.1 ∧
      t.on (F.LOOP_STAT_SRC_BAD c) = (s.loopMode1 c).2.2.1) ∧
  (∀ (s : State) (c : Fin 2), s.live domLOOP = true → s.rd (F.LOOP_STAT_STATE c) = 1 → s.on (F.LOOP_STAT_MEAS_STALE c) = false →
    s.loopI c + 50 < s.loopT c → (s.loopCh c).retried = false → Gives (.complianceEnter c false) s fun t => t.rd (F.LOOP_STAT_STATE c) = 2 ∧
      t.on (F.LOOP_STAT_EST_VALID c) = true ∧ t.kx.levels.contains (306 + 3 * c.val) = true) ∧
  (∀ (s : State) (c : Fin 2), s.live domLOOP = true → s.rd (F.LOOP_STAT_STATE c) = 2 → s.on (F.LOOP_STAT_MEAS_STALE c) = false →
    s.loopExitOk c = true → Gives (.complianceExit c false) s fun t => t.rd (F.LOOP_STAT_STATE c) = 1 ∧
      t.rd (F.LOOP_TARGET_TARGET_UA c) = (s.loopCh c).ic % 65536 ∧ t.kx.levels.contains (306 + 3 * c.val) = false) ∧
  (∀ (s : State) (c : Fin 2), s.live domLOOP = true → s.rd (F.LOOP_STAT_STATE c) = 1 → s.on (F.LOOP_CFG_TRACK c) = true →
    s.on (F.LOOP_STAT_MEAS_STALE c) = false → s.on (F.LOOP_STAT_OVER c) = false → (s.loopCh c).cnt ≠ 0 →
    (s.loopCh c).broken = false → (s.loopCh c).cleared = false →
    (s.loopCh c).sum + (s.loopCh c).cnt < (s.loopCh c).cnt * s.loopT c → sext 16 (s.rd (F.LOOP_TRIM_TRIM c)) < s.trimLim c →
    -(s.trimLim c : Int) ≤ sext 16 (s.rd (F.LOOP_TRIM_TRIM c)) → Gives (.loopTrimStep c) s fun t =>
      t.rd (F.LOOP_TRIM_TRIM c) = wrapInt 16 (sext 16 (s.rd (F.LOOP_TRIM_TRIM c)) + 1) ∧ t.on (F.LOOP_STAT_TRIM_AT_LIM c) = false ∧
      (t.loopCh c).cnt = 0 ∧ (t.loopCh c).sum = 0) ∧
  (∀ (s : State) (c : Fin 2), s.live domLOOP = true → s.rd (F.LOOP_STAT_STATE c) ≠ 0 → s.on (F.LOOP_STAT_MEAS_STALE c) = false →
    s.on (F.LOOP_STAT_OVER c) = false → s.loopT c + 200 < s.loopI c → Gives (.overSet c) s fun t => t.on (F.LOOP_STAT_OVER c) = true) ∧
  (∀ (s : State) (c : Fin 2), s.live domLOOP = true → s.on (F.LOOP_STAT_OVER c) = true → s.on (F.LOOP_STAT_MEAS_STALE c) = false →
    s.loopI c ≤ s.loopT c + 50 → Gives (.overClear c) s fun t => t.on (F.LOOP_STAT_OVER c) = false) ∧
  (∀ (s : State) (c : Fin 2), s.live domLOOP = true → (s.loopCh c).fresh = false → Gives (.measStale c) s fun t =>
    t.on (F.LOOP_STAT_MEAS_STALE c) = true) ∧
  (∀ (s : State) (c : Fin 2) (who : Agent), s.Takes who domLOOP → s.rd (F.LOOP_STAT_STATE c) = 2 → Gives (.retry c who 0x1C) s fun t =>
    t.rd (F.LOOP_STAT_STATE c) = 1 ∧ t.rd (F.LOOP_TARGET_TARGET_UA c) = (s.loopCh c).ic % 65536) ∧
  (∀ (s : State) (c : Fin 2) (who : Agent), s.Takes who domLOOP → Gives (.trimClear c who 0x1C) s fun t =>
    t.rd (F.LOOP_TRIM_TRIM c) = 0 ∧ t.on (F.LOOP_STAT_TRIM_AT_LIM c) = false) ∧
  (∀ (s : State) (c : Fin 2) (who : Agent) (key : BitVec 8), s.Takes who domLOOP → key ≠ 0x1C →
    Gives (.retry c who key) s fun t => t = s.reply .none) ∧
  (∀ (s : State) (c : Fin 2) (who : Agent) (key : BitVec 8), s.Takes who domLOOP → key ≠ 0x1C →
    Gives (.trimClear c who key) s fun t => t = s.reply .none)

/-! ## The status panel (chapter 18) -/

/-- The raster, commits, and the xSPI port (R582-R600). -/
def Obligations.PanelActs : Prop :=
  (∀ (s : State) (ub uo cb : Bool) (seen : Option (List (BitVec 24))) (ties : Nat), s.live domDISP = true → s.vtotal ≠ 0 →
    s.on F.DSP_CTRL_EN = false → s.on F.DSP_STATUS_RUNNING = true → Gives (.displayLineStart ub uo seen cb ties) s fun t =>
      t.on F.DSP_STATUS_RUNNING = false ∧ t.on F.DSP_STATUS_VBLANK = false) ∧
  (∀ (s : State) (ub uo cb : Bool) (seen : Option (List (BitVec 24))) (ties : Nat), s.live domDISP = true → s.vtotal ≠ 0 →
    s.on F.DSP_CTRL_EN = true → s.dsp.start = true → s.vactive < 2048 → Gives (.displayLineStart ub uo seen cb ties) s fun t =>
      t.on F.DSP_STATUS_RUNNING = true ∧ t.rd F.DSP_STATUS_LINE = s.vactive ∧ t.on F.DSP_STATUS_VBLANK = true ∧ t.dsp.start = false) ∧
  (∀ (s : State) (ub uo cb : Bool) (seen : Option (List (BitVec 24))) (ties n : Nat), s.live domDISP = true → s.vtotal ≠ 0 →
    s.on F.DSP_CTRL_EN = true → s.dsp.start = false → n = (if s.dsp.last then 0 else s.rd F.DSP_STATUS_LINE + 1) → n < 2048 →
    Gives (.displayLineStart ub uo seen cb ties) s fun t => t.on F.DSP_STATUS_RUNNING = true ∧ t.rd F.DSP_STATUS_LINE = n ∧
      t.on F.DSP_STATUS_VBLANK = decide (s.vactive ≤ n) ∧ t.dsp.sent.length = (if n < s.vactive then s.hactive else 0) ∧
      t.dsp.last = (n + 1 == s.vtotal) ∧ t.rd F.DSP_FRAMES_COUNT = (s.rd F.DSP_FRAMES_COUNT + if n = 0 then 1 else 0) % 2 ^ 32) ∧
  (∀ (s : State) (ub uo cb : Bool) (seen : Option (List (BitVec 24))) (ties i : Nat), s.live domDISP = true →
    s.on F.DSP_CTRL_EN = true → s.dsp.start = false → s.dsp.last = false → s.rd F.DSP_STATUS_LINE + 2 = s.vtotal →
    s.rd F.DSP_STATUS_LINE + 1 < 2048 → s.on F.DSP_STATUS_FRAME_PEND = true → s.on F.DSP_XSPI_STAT_BUSY = false → i < 16 →
    Gives (.displayLineStart ub uo seen cb ties) s fun t => t.on F.DSP_STATUS_FRAME_PEND = false ∧
      t.word (0x400D0120 + 4 * i) = s.word (0x400D0020 + 4 * i)) ∧
  (∀ (s : State) (ub uo cb : Bool) (seen : Option (List (BitVec 24))) (ties i : Nat), s.live domDISP = true → s.vtotal ≠ 0 →
    s.on F.DSP_CTRL_EN = true → s.dsp.start = false → s.dsp.last = false → s.rd F.DSP_STATUS_LINE + 2 = s.rdA F.DSP_LINE_AT_LINE →
    s.on F.DSP_STATUS_LINE_PEND = true → i < 5 →
    Gives (.displayLineStart ub uo seen cb ties) s fun t => t.on F.DSP_STATUS_LINE_PEND = false ∧
      t.word (0x400D0160 + 4 * i) = s.word (0x400D0060 + 4 * i)) ∧
  (∀ (s : State) (who : Agent), s.Open domDISP → Gives (.frameCommit who) s fun t => t.on F.DSP_STATUS_FRAME_PEND = true) ∧
  (∀ (s : State) (who : Agent), s.Open domDISP → Gives (.lineCommit who) s fun t => t.on F.DSP_STATUS_LINE_PEND = true) ∧
  (∀ (s : State) (who : Agent) (w : Word), s.Takes who domDISP → Gives (.displayEnableWrite who w) s fun t =>
    t.on F.DSP_CTRL_EN = F.DSP_CTRL_EN.has w ∧ t.on F.DSP_CTRL_CHECK_EN = F.DSP_CTRL_CHECK_EN.has w) ∧
  (∀ (s : State) (who : Agent) (w : Word), s.Takes who domDISP → F.DSP_XSPI_CMD_KEY.of w = 0x58 → F.DSP_XSPI_CMD_GO.has w = true →
    s.xspiScanned = false → s.on F.DSP_XSPI_CFG_EN = true → s.on F.DSP_XSPI_STAT_BUSY = false → Gives (.xspiCommand who w) s fun t =>
      t.on F.DSP_XSPI_STAT_BUSY = true ∧ t.dsp.xrun.map (·.len) = some (F.DSP_XSPI_CMD_LEN.of w + 1)) ∧
  (∀ (s : State) (who : Agent) (w : Word), s.Takes who domDISP → F.DSP_XSPI_CMD_KEY.of w = 0x58 → F.DSP_XSPI_CMD_GO.has w = true →
    (s.xspiScanned = true ∨ s.on F.DSP_XSPI_CFG_EN = false ∨ s.on F.DSP_XSPI_STAT_BUSY = true) → Gives (.xspiCommand who w) s fun t =>
      t.rd F.DSP_XSPI_STAT_CODE = 1 ∧ t.on F.DSP_XSPI_STAT_DONE = true ∧ t.dsp = s.dsp) ∧
  (∀ (s : State) (rx : List Byte) (r : XspiRun), s.dsp.xrun = some r → s.live domDISP = true → Gives (.xspiCommandDone rx) s fun t =>
    t.on F.DSP_XSPI_STAT_BUSY = false ∧ t.on F.DSP_XSPI_STAT_DONE = true ∧ t.rd F.DSP_XSPI_STAT_CODE = 0 ∧ t.dsp.xrun = none ∧
    ∀ i, r.dir = 2 → i < r.len →
      t.rd ⟨Reg.DSP_XSPI_BUF (i / 4), 8 * (i % 4) + 7, 8 * (i % 4)⟩ = (rx.getD i 0).toNat) ∧
  (∀ (s : State) (r : XspiRun), s.dsp.xrun = some r → r.dir = 2 → s.live domDISP = true → Gives (.xspiStrobeTimeout none) s fun t =>
    t.on F.DSP_XSPI_STAT_BUSY = false ∧ t.rd F.DSP_XSPI_STAT_CODE = 2) ∧
  (∀ (s : State) (who : Agent), s.live domDISP = true → s.on F.DSP_XSPI_CFG_EN = true → s.on F.DSP_XSPI_STAT_BUSY = false →
    Gives (.xspiStrobeTimeout (some who)) s fun t => t.on F.DSP_XSPI_STAT_ERR = true ∧ t.resp = .word 0xFFFFFFFF) ∧
  (∀ (s : State) (who : Agent) (off : BitVec 26), s.Open domDISP → s.on F.DSP_XSPI_CFG_EN = true → off.toNat < s.xspiSize →
    s.on F.DSP_XSPI_STAT_BUSY = true → Gives (.xspiWindowRead who off) s fun t =>
      t.on F.DSP_XSPI_STAT_WIN_MISS = true ∧ t.resp = .word 0xFFFFFFFF) ∧
  (∀ (s : State) (who : Agent) (off : BitVec 26), s.Open domDISP → s.on F.DSP_XSPI_CFG_EN = true → off.toNat < s.xspiSize →
    s.on F.DSP_XSPI_STAT_BUSY = false → Gives (.xspiWindowRead who off) s fun t => t.resp = .word (BitVec.ofNat 32
      (u32At ((List.range 4).map fun i => Config.xspiByte s.dsp.xcmds (off.toNat - off.toNat % 4 + i)) 0)))

/-! ## The Audit freeze, the JTAG port and the lifecycle (chapter 19) -/

/-- A freeze is requested, applied, ends and is released (R609-R616, R619, R623). -/
def Obligations.FreezeActs : Prop :=
  (∀ (s : State) (pin route : Bool) (cause : Nat), s.fl.vinValid = true → s.freezing = false → s.pwr.phase ≠ .stopped → s.ready = true →
    (cause = 1 ∧ pin = true ∧ s.on F.AUD_CFG_PIN_EN = true ∨
      cause = 2 ∧ route = true ∧ (pin = false ∨ s.on F.AUD_CFG_PIN_EN = false)) →
    Gives (.freezeRequest pin route) s fun t => t.aud.applying = true ∧ t.rd F.AUD_STATUS_LAST_CAUSE = cause ∧
      t.rd F.AUD_STATUS_EXEMPT = s.rd F.AUD_CFG_EXEMPT ∧ t.aud.held = none ∧ t.kx.levels.contains 8 = true ∧
      t.cal.gapTicks = 0) ∧
  (∀ (s : State) (pin : Bool), s.fl.vinValid = true → s.freezing = true → s.aud.releasing = none → s.rd F.AUD_EXTRA_COUNT < 65535 →
    Gives (.freezeRequest pin true) s fun t => t.rd F.AUD_EXTRA_COUNT = s.rd F.AUD_EXTRA_COUNT + 1 ∧ t.aud = s.aud) ∧
  (∀ (s : State), s.fl.vinValid = true → s.freezing = false → s.pwr.phase ≠ .stopped → s.ready = false → s.aud.held = none →
    Gives (.freezeRequest false true) s fun t => t.aud.held = some 2 ∧ t.aud.applying = false) ∧
  (∀ s : State, s.aud.applying = true → s.allStopped = true → Gives .freezeApplied s fun t => t.on F.AUD_STATUS_FROZEN = true ∧
    t.aud.applying = false ∧ t.rd F.AUD_STATUS_FREEZES = (s.rd F.AUD_STATUS_FREEZES + 1) % 2 ^ 16) ∧
  (∀ s : State, (s.aud.applying = false ∨ s.allStopped = false) → Gives .freezeApplied s fun t => t = s) ∧
  (∀ (s : State) (tie : Bool), s.freezing = true → s.aud.releasing = none → s.rd F.AUD_CFG_WINDOW ≠ 0 →
    Gives (.freezeWindowExpiry tie) s fun t => t.aud.releasing = some (if tie then 1 else 3)) ∧
  (∀ s : State, s.on F.AUD_CFG_PIN_RELEASE = true → s.freezing = true → s.aud.releasing = none → Gives .freezePinRelease s fun t =>
    t.aud.releasing = some 2) ∧
  (∀ (s : State) (bad : BitVec 48) (fw : BitVec 16) (cause : Nat), s.aud.releasing = some cause → s.on F.AUD_STATUS_FROZEN = true →
    s.aud.tap.busy = false → s.aud.held = none → s.aud.queue = [] → s.fl.waitFreeze = false → s.kx.heldRoutes = [] →
    Gives (.freezeReleaseApply bad fw) s fun t => t.on F.AUD_STATUS_FROZEN = false ∧ t.aud.releasing = none ∧
      t.rd F.AUD_STATUS_LAST_RELEASE = cause % 8)

/-- The JTAG instructions and the Audit chain's accesses (R609, R617-R623). -/
def Obligations.JtagActs : Prop :=
  (∀ s : State, Gives .tapReset s fun t => t.aud.tap.ir = 1 ∧ t.aud.tap.hold = 0 ∧ t.lgr.loading = false) ∧
  (∀ s : State, s.fl.vinValid = true → Gives .idcode s fun t => t.resp = .word 0x1730074B ∧ t.aud.tap.ir = 1) ∧
  (∀ (s : State) (cells : List Bool) (seen : List Bool), s.fl.vinValid = true → s.jtagTakes 0x00 = true →
    Gives (.extest (some cells) seen) s fun t => t.aud.tap.hold = 1 ∧ t.aud.tap.bsr = (List.range 633).map (fun i => cells.getD i false) ∧
      t.resp = .bytes 0 (((List.range 633).map fun i => seen.getD i false).map fun x => if x then 1 else 0)) ∧
  (∀ (s : State) (cells : Option (List Bool)) (seen : List Bool), s.fl.vinValid = true → s.jtagTakes 0x00 = false →
    Gives (.extest cells seen) s fun t => t.aud.tap.ir = 0xFF ∧ t.aud.tap.hold = 0 ∧ t.on F.AUD_STATUS_JREFUSED = true) ∧
  (∀ (s : State) (cells : List Bool) (seen : List Bool), s.fl.vinValid = true → s.jtagTakes 0x02 = true →
    Gives (.samplePreload (some cells) seen) s fun t => t.aud.tap.hold = 0 ∧
      t.aud.tap.bsr = (List.range 633).map (fun i => cells.getD i false) ∧
      t.resp = .bytes 0 (((List.range 633).map fun i => seen.getD i false).map fun x => if x then 1 else 0)) ∧
  (∀ s : State, s.fl.vinValid = true → s.jtagTakes 0x04 = true → Gives .clamp s fun t => t.aud.tap.hold = 2 ∧ t.aud.tap.ir = 4) ∧
  (∀ s : State, s.fl.vinValid = true → s.jtagTakes 0x05 = true → Gives .highz s fun t => t.aud.tap.hold = 3 ∧ t.aud.tap.ir = 5) ∧
  (∀ s : State, s.fl.vinValid = true → s.jtagTakes 0x10 = true → s.freezing = false → s.pwr.phase ≠ .stopped → s.ready = true →
    Gives .audFreeze s fun t => t.aud.applying = true ∧ t.rd F.AUD_STATUS_LAST_CAUSE = 3) ∧
  (∀ s : State, s.fl.vinValid = true → s.jtagTakes 0x11 = true → s.freezing = true → s.aud.releasing = none →
    Gives .audRelease s fun t => t.aud.releasing = some 1) ∧
  (∀ s : State, s.fl.vinValid = true → Gives .audStat s fun t => t.resp = .word (s.word Reg.AUD_STATUS)) ∧
  (∀ (s : State) (a : BitVec 32), s.fl.vinValid = true → s.jtagTakes 0x14 = true → s.aud.tap.busy = false → Gives (.audAccessRead a) s fun t =>
    t.aud.tap.busy = true ∧ t.aud.tap.op = 1 ∧ t.aud.tap.addr = a.toNat - a.toNat % 4 ∧ t.aud.tap.code = 9) ∧
  (∀ (s : State) (a : BitVec 32) (w : Word), s.fl.vinValid = true → s.jtagTakes 0x14 = true → s.aud.tap.busy = false →
    Gives (.audAccessWrite a w) s fun t => t.aud.tap.busy = true ∧ t.aud.tap.op = 2 ∧ t.aud.tap.addr = a.toNat - a.toNat % 4 ∧
      t.aud.tap.data = w) ∧
  (∀ (s : State) (a : BitVec 32), s.fl.vinValid = true → s.jtagTakes 0x14 = true → s.aud.tap.busy = false →
    Gives (.audAccessSnapshot a) s fun t => t.aud.tap.busy = true ∧ t.aud.tap.op = 3 ∧ t.aud.tap.addr = a.toNat - a.toNat % 4) ∧
  (∀ (s : State) (n : BusNote), s.aud.tap.busy = true → s.auditLocked = true → s.aud.tap.op ≠ 2 → Gives (.audAccessDone n) s fun t =>
    t.aud.tap.busy = false ∧ t.aud.tap.code = 8 ∧ t.resp = .bytes 8 [0, 0, 0, 0] ∧ t.regs = s.regs ∧ t.mem = s.mem) ∧
  (∀ (s : State) (n : BusNote) (v : Nat), s.aud.tap.busy = true → s.auditLocked = false → s.aud.tap.op = 1 →
    s.aud.tap.addr = 0x28000000 + 4 * v → v < 0x4000 → Gives (.audAccessDone n) s fun t =>
      t.aud.tap.busy = false ∧ t.aud.tap.code = 0 ∧ t.aud.tap.value = BitVec.ofNat 32 (memWord s.mem (0x28000000 + 4 * v))) ∧
  (∀ (s : State) (n : BusNote), s.aud.tap.busy = true → s.auditLocked = false → s.aud.tap.op = 3 →
    (regBlock s.aud.tap.addr).any (fun b => (snapBlocks s.aud.snapOf).contains b) = true → Gives (.audAccessDone n) s fun t =>
      t.aud.tap.busy = false ∧ t.aud.tap.code = 0 ∧ t.aud.tap.value = rfGet s.aud.snap s.aud.tap.addr) ∧
  (∀ s : State, s.fl.vinValid = true → s.jtagTakes 0x20 = true → s.domOn domSEAL = true → s.frozen domSEAL = false →
    s.on F.SEAL_STATUS_RNG_BAD = false → Gives .lcNonce s fun t => t.lc.nonce = true ∧ t.resp = .bytes 0 t.nonceBytes) ∧
  (∀ (s : State) (words : List Word), s.fl.vinValid = true → s.jtagTakes 0x21 = true → s.on F.AUD_LC_RESULT_BUSY = false →
    s.frozen domFRAM = false → (lcBlock words).op ≠ 5 → (lcBlock words).op ≠ 6 →
    Gives (.lcCmd words) s fun t => LcTaken s t (lcBlock words)) ∧
  (∀ s : State, s.fl.vinValid = true → s.jtagTakes 0x22 = true → Gives .lcResult s fun t => t.resp = .word (s.word Reg.AUD_LC_RESULT)) ∧
  (∀ s : State, s.fl.vinValid = true → Gives (.bypass 0xFF) s fun t => t.aud.tap.ir = 0xFF ∧ t.resp = .word 0)

/-- Lifecycle commands by either path, the nonce and the lifecycle store (R624-R631). -/
def Obligations.LifecycleActs : Prop :=
  (∀ (s : State) (path : Option Agent) (arg signer : BitVec 8) (payload sig : List Word) (k : Nat × Instr), s.LcOpen path →
    s.on F.AUD_LC_RESULT_BUSY = false → s.frozen domFRAM = false →
    k ∈ [(1, Instr.installKey path arg signer payload sig), (3, Instr.advance path arg signer sig)] →
    Gives k.2 s fun t => LcTaken s t (lcBlock (blockOf k.1 arg signer (if k.1 = 1 then payload else []) sig))) ∧
  (∀ (s : State) (path : Option Agent) (arg signer : BitVec 8) (sig : List Word) (k : Nat × Instr), s.LcOpen path →
    s.on F.AUD_LC_RESULT_BUSY = false → s.frozen domFRAM = false →
    k ∈ [(2, Instr.revoke path arg signer sig), (4, Instr.raiseEpoch path arg signer sig)] →
    Gives k.2 s fun t => LcTaken s t (lcBlock (blockOf k.1 arg signer [] sig))) ∧
  (∀ (s : State) (path : Option Agent) (signer : BitVec 8) (sig : List Word), s.LcOpen path → s.on F.AUD_LC_RESULT_BUSY = false →
    s.frozen domFRAM = false → Gives (.unlock path signer sig) s fun t => t.on F.AUD_LC_RESULT_DONE = true ∧ t.lc.nonce = false ∧
      t.rd F.AUD_LC_RESULT_CODE = s.lcRefusal (lcBlock (blockOf 5 0 signer [] sig)) ∧ t.on F.AUD_LC_STATE_UNLOCKED =
        (s.on F.AUD_LC_STATE_UNLOCKED || s.lcRefusal (lcBlock (blockOf 5 0 signer [] sig)) == 0)) ∧
  (∀ (s : State) (path : Option Agent), s.LcOpen path → s.on F.AUD_LC_RESULT_BUSY = false → s.frozen domFRAM = false →
    Gives (.lock path) s fun t => t.on F.AUD_LC_STATE_UNLOCKED = false ∧ t.rd F.AUD_LC_RESULT_CODE = 0) ∧
  (∀ (s : State) (path : Option Agent), s.LcOpen path → s.on F.AUD_LC_RESULT_BUSY = true → Gives (.lock path) s fun t =>
    t.rd F.AUD_LC_RESULT_CODE = 9 ∧ t.on F.AUD_LC_RESULT_BUSY = true ∧ t.lc.run = s.lc.run) ∧
  (∀ (s : State) (path : Option Agent), s.LcOpen path → s.on F.AUD_LC_RESULT_BUSY = false → s.frozen domFRAM = true →
    Gives (.lock path) s fun t => t.rd F.AUD_LC_RESULT_CODE = 8 ∧ t.lc.nonce = false) ∧
  (∀ (s : State) (who : Agent), who.user = false → s.domOn domSEAL = true → s.frozen domSEAL = false → s.on F.SEAL_STATUS_RNG_BAD = false →
    Gives (.nonce who 0x7A) s fun t => t.lc.nonce = true) ∧
  (∀ (s : State) (who : Agent) (key : BitVec 8), who.user = false → key ≠ 0x7A → Gives (.nonce who key) s fun t => t = s.reply .none) ∧
  (∀ (s : State) (who : Agent) (key : BitVec 8), who.user = true → Gives (.nonce who key) s fun t => t = s.busErr busLevel) ∧
  (∀ (s : State) (i : Nat), s.lc.nonce = true → i < 8 → Gives .nonceLapse s fun t => t.lc.nonce = false ∧ t.word (Reg.AUD_LC_NONCE i) = 0) ∧
  (∀ (s : State) (l : LcStore), s.lc.run = some l → s.live domFRAM = true → Gives (.lifecycleWriteDone true true) s fun t =>
    t.lc.a = some l ∧ t.lc.b = some l ∧ t.lc.run = none ∧ t.rd F.AUD_LC_STATE_STATE = l.state % 4 ∧
    t.on F.AUD_LC_RESULT_BUSY = false ∧ t.rd F.AUD_LC_RESULT_CODE = 0) ∧
  (∀ (s : State) (l : LcStore) (okB : Bool), s.lc.run = some l → s.live domFRAM = true → Gives (.lifecycleWriteDone false okB) s fun t =>
    t.lc.a = none ∧ t.lc.b = s.lc.b ∧ t.lc.run = none ∧ t.rd F.AUD_LC_RESULT_CODE = 0xB)

/-- The SEAL engine (R632-R637). -/
def Obligations.SealActs : Prop :=
  (∀ (s : State) (who : Agent) (k : Nat × Instr), s.Takes who domSEAL → s.on F.SEAL_STATUS_BUSY = false → s.sealEng.waits = none →
    k ∈ [(1, Instr.hashStart who 0x3E), (2, Instr.hashData who 0x3E), (3, Instr.hashEnd who 0x3E), (4, Instr.verify who 0x3E),
      (5, Instr.encrypt who 0x3E), (6, Instr.decrypt who 0x3E), (7, Instr.random who 0x3E), (8, Instr.keyStore who 0x3E),
      (9, Instr.keyLock who 0x3E)] →
    Gives k.2 s fun t => (s.rd F.SEAL_STATUS_HOLDER = 0 → s.pwr.phase = .run → t.on F.SEAL_STATUS_BUSY = true ∧ t.rd F.SEAL_STATUS_HOLDER = 1 ∧
        t.sealEng.run.map (·.op) = some k.1 ∧ t.sealEng.run.map (·.src) = some (s.rd F.SEAL_SRC_ADDR)) ∧
      ((s.rd F.SEAL_STATUS_HOLDER ≠ 0 ∨ s.pwr.phase ≠ .run) → t.sealEng.waits = some k.1 ∧ t.sealEng.run = s.sealEng.run)) ∧
  (∀ (s : State) (who : Agent) (c : Instr), s.Takes who domSEAL → (s.on F.SEAL_STATUS_BUSY = true ∨ s.sealEng.waits ≠ none) →
    c ∈ [Instr.hashStart who 0x3E, Instr.hashData who 0x3E, Instr.hashEnd who 0x3E, Instr.verify who 0x3E, Instr.encrypt who 0x3E,
      Instr.decrypt who 0x3E, Instr.random who 0x3E, Instr.keyStore who 0x3E, Instr.keyLock who 0x3E] →
    Gives c s fun t => t.on F.SEAL_STATUS_REFUSED = true ∧ t.sealEng = s.sealEng) ∧
  (∀ (s : State) (who : Agent) (key : BitVec 8) (c : Instr), s.Takes who domSEAL → key ≠ 0x3E →
    c ∈ [Instr.hashStart who key, Instr.hashData who key, Instr.hashEnd who key, Instr.verify who key, Instr.encrypt who key,
      Instr.decrypt who key, Instr.random who key, Instr.keyStore who key, Instr.keyLock who key, Instr.wipe who key] →
    Gives c s fun t => t = s.reply .none) ∧
  (∀ (s : State) (op : Nat), s.live domSEAL = true → s.rd F.SEAL_STATUS_HOLDER = 0 → s.pwr.phase = .run →
    s.sealEng.waits = some op → Gives .sealDeferredStart s fun t => t.on F.SEAL_STATUS_BUSY = true ∧ t.sealEng.waits = none ∧ t.sealEng.run.map (·.op) = some op) ∧
  (∀ (s : State) (r : SealRun), s.sealEng.run = some r → s.live domSEAL = true →
    Gives .sealOperationDone s fun t =>
    t.on F.SEAL_STATUS_BUSY = false ∧ t.on F.SEAL_STATUS_DONE = true ∧ t.sealEng.run = none ∧
    (r.code ≠ 0 → t.rd F.SEAL_STATUS_CODE = r.code % 16 ∧ t.mem = s.mem ∧ t.lc = s.lc) ∧
    (r.code = 0 → r.op = 1 → t.rd F.SEAL_STATUS_CODE = 0 ∧ t.sealEng.hash = shaInit ∧ t.sealEng.count = 0 ∧ t.sealEng.tail = []) ∧
    (r.code = 0 → r.op = 3 → t.rd F.SEAL_STATUS_CODE = 0 ∧ ∀ i, i < 8 →
      t.word (Reg.SEAL_DIGEST i) = BitVec.ofNat 32 (natAt t.sealEng.hash i)) ∧
    (r.code = 0 → r.op = 4 → t.rd F.SEAL_STATUS_CODE = if s.sealVerify && !s.noVerify then 0 else 3)) ∧
  (∀ (s : State) (who : Agent) (i : Nat), s.Takes who domSEAL → i < 8 → Gives (.wipe who 0x3E) s fun t => t.word (Reg.SEAL_KEY i) = 0) ∧
  (∀ (s : State) (c : Core) (user : Bool), s.domOn domSEAL = true → s.sealEng.rngReady = true →
    Gives (.sealRngRead (.core c user)) s fun t => t.resp = .word (s.word Reg.SEAL_RNG) ∧ t.sealEng.rngReady = false) ∧
  (∀ (s : State) (c : Core) (user : Bool), s.domOn domSEAL = true → s.sealEng.rngReady = false →
    Gives (.sealRngRead (.core c user)) s fun t => t.resp = .word 0 ∧ t.on F.SEAL_STATUS_RNG_EMPTY = true) ∧
  (∀ s : State, s.domOn domSEAL = true → Gives (.sealRngRead .jtag) s fun t => t = s.reply (.word (s.word Reg.SEAL_RNG))) ∧
  (∀ s : State, s.live domSEAL = true → s.sealEng.rngReady = false → s.on F.SEAL_STATUS_RNG_BAD = false → Gives .rngRefill s fun t =>
    t.sealEng.rngReady = true) ∧
  (∀ s : State, s.live domSEAL = true → Gives .rngFailure s fun t => t.on F.SEAL_STATUS_RNG_BAD = true ∧
    ∀ r, s.sealEng.run = some r → r.op = 7 → r.code = 0 → t.sealEng.run = none ∧ t.rd F.SEAL_STATUS_CODE = 7)

/-- Bus accesses to registers (R11, R12, R16, R18, R330): a plain register and SRAM hold the word written, a command register's write has its block's
effect, a core's read of a counter clears it, and the Audit chain's does not. -/
def Obligations.RegisterAccessesAct : Prop :=
  (∀ (s : State) (who : Agent) (a : BitVec 32) (w : Word) (note : BusNote), a.toNat % 4 = 0 → 0x40100000 ≤ a.toNat → a.toNat < 0x40110000 →
    a.toNat ≠ Reg.SEQ_CMD → s.Takes who 0 → Gives (.registerWrite who a w note) s fun t => t = (s.reply .none).accWrite a.toNat w) ∧
  (∀ (s : State) (who : Agent) (a : BitVec 32) (w : Word) (note : BusNote), a.toNat % 4 = 0 → 0x20000000 ≤ a.toNat → a.toNat < 0x20040000 →
    s.sramOn a.toNat 4 = true → Gives (.registerWrite who a w note) s fun t => t.HoldsWord a.toNat w ∧ t.resp = .none) ∧
  (∀ (s : State) (c : Core) (user : Bool) (a : BitVec 32), a.toNat % 4 = 0 → 0x400F0000 ≤ a.toNat → a.toNat < 0x40100000 → s.Open 0 →
    Gives (.counterReadClear (.core c user) a) s fun t => t = (s.readClear a.toNat).reply (.word (s.peek a.toNat))) ∧
  (∀ (s : State) (a : BitVec 32), a.toNat % 4 = 0 → 0x400F0000 ≤ a.toNat → a.toNat < 0x40100000 → s.Open 0 →
    Gives (.counterReadClear .jtag a) s fun t => t = s.reply (.word (s.peek a.toNat))) ∧
  (∀ (s : State) (who : Agent) (w : Word) (note : BusNote), s.Open domFRAM →
    ∀ a ∈ [Reg.VLT_LOG_D0, Reg.VLT_LOG_D1, Reg.VLT_LOG_D2], Gives (.registerWrite who (BitVec.ofNat 32 a) w note) s fun t =>
      t.word a = w ∧ t.resp = .none ∧ ∀ b, b ≠ a → t.word b = s.word b) ∧
  (∀ (s : State) (c : Core) (user : Bool), s.Open 0 →
    ∀ a ∈ [Reg.KX_MERGED, Reg.KX_COINCIDE, Reg.LGR_COINCIDE, Reg.TIL_COINCIDE, Reg.PWR_COINCIDE, Reg.SEQ_COINCIDE, Reg.RSV_COINCIDE, Reg.CAL_COINCIDE,
      Reg.FAN_COINCIDE, Reg.AUD_COINCIDE], Gives (.counterReadClear (.core c user) (BitVec.ofNat 32 a)) s fun t =>
      t.resp = .word (s.word a) ∧ t.rd ⟨a, 15, 0⟩ = 0 ∧ ∀ b, b ≠ a → t.word b = s.word b)
/-! ## What a command leaves alone -/

/-- What a command of the write window, the checks, the loads and the tills may change; of memory only the word it stores
(R12, R85, R87-R96, R113-R120). -/
def Obligations.LedgerFrames : Prop := ∀ s : State,
  (∀ who key store met, Frame (.ledgerWindowOpen who key store met) s (· ∈ [Reg.LGR_STATUS, Reg.LGR_WR_CTRL])
    (fun t => { s.answer t with regs := t.regs })) ∧
  (∀ who key store, Frame (.ledgerWindowClose who key store) s (· ∈ [Reg.LGR_STATUS, Reg.LGR_WR_CTRL])
    (fun t => { s.answer t with regs := t.regs })) ∧
  (∀ who w tie, Frame (.ledgerWordWrite who w tie) s (· ∈ [Reg.LGR_COINCIDE, Reg.LGR_STATUS, Reg.LGR_WR_ADDR, Reg.LGR_WR_CTRL])
      (fun t => { s.answer t with regs := t.regs, mem := t.mem, eccBad := t.eccBad }) ∧
    MemoryIn (.ledgerWordWrite who w tie) s (fun a =>
      storeBase (s.rd F.LGR_STATUS_WR_STORE) + 4 * s.rd F.LGR_WR_ADDR_WORD ≤ a ∧
      a < storeBase (s.rd F.LGR_STATUS_WR_STORE) + 4 * s.rd F.LGR_WR_ADDR_WORD + 4)) ∧
  Frame .ledgerWindowIdle s (· ∈ [Reg.LGR_STATUS, Reg.LGR_WR_CTRL]) (fun t => { s with regs := t.regs }) ∧
  (∀ who store, Frame (.ledgerCheck who store) s (· ∈ [Reg.LGR_CHECK, Reg.LGR_STATUS, Reg.KX_MERGED]) (fun t => (s.signal t).answer t)) ∧
  Frame .ledgerCheckDone s (· ∈ [Reg.LGR_A_DETAIL, Reg.LGR_B_DETAIL, Reg.LGR_A_SERIAL, Reg.LGR_B_SERIAL, Reg.LGR_STATUS, Reg.KX_MERGED])
    (fun t => { s.signal t with fl := t.fl }) ∧
  Frame .lgrLoad s (· ∈ [Reg.AUD_STATUS, Reg.LGR_STATUS, Reg.LGR_WR_CTRL])
    (fun t => { s with regs := t.regs, lgr := t.lgr, resp := t.resp, aud := { s.aud with tap := t.aud.tap } }) ∧
  (∀ w, Frame (.lgrLoadWord w) s (· ∈ [Reg.LGR_STATUS, Reg.LGR_WR_CTRL, Reg.LGR_WR_ADDR])
      (fun t => { s with regs := t.regs, lgr := t.lgr, mem := t.mem, eccBad := t.eccBad }) ∧
    MemoryIn (.lgrLoadWord w) s (fun a =>
      storeBase (s.rd F.LGR_STATUS_WR_STORE) + 4 * s.rd F.LGR_WR_ADDR_WORD ≤ a ∧
      a < storeBase (s.rd F.LGR_STATUS_WR_STORE) + 4 * s.rd F.LGR_WR_ADDR_WORD + 4)) ∧
  (∀ tie, Frame (.recoveryByteGap tie) s (· ∈ [Reg.LGR_COINCIDE]) (fun t => { s with regs := t.regs, resp := t.resp })) ∧
  (∀ who key limit index met, Frame (.reconcileRequest who key limit ⟨index, met⟩) s (· ∈ [Reg.TIL_STATUS, Reg.TIL_DETAIL, Reg.KX_MERGED])
    (fun t => { (s.signal t).answer t with recon := t.recon })) ∧
  (Frame .reconcileSnapshot s (· ∈ [Reg.TIL_STATUS, Reg.TIL_DETAIL, Reg.KX_MERGED])
      (fun t => { s.signal t with recon := t.recon, mem := t.mem, eccBad := t.eccBad }) ∧
    MemoryIn .reconcileSnapshot s (fun a => ∃ p ∈ s.recon.stalled, p.1 ≤ a ∧ a < p.1 + 4)) ∧
  (∀ tie, Frame (.reconcileLimit tie) s (· ∈ [Reg.TIL_STATUS, Reg.TIL_DETAIL, Reg.KX_MERGED]) (fun t => { s.signal t with recon := t.recon })) ∧
  Frame .divergenceAudit s (· ∈ [Reg.TIL_NOW_LO, Reg.TIL_NOW_HI, Reg.TIL_DIV_LO, Reg.TIL_DIV_HI, Reg.KX_MERGED])
    (fun t => { s.signal t with recon := t.recon }) ∧
  (∀ bank high, Frame (.bankPresent bank high) s (· ∈ [Reg.AO_PAD_STAT]) (fun t => { s with regs := t.regs })) ∧
  (∀ bank ∈ [Bank.a, .b, .c], Frame (.bankAbsent bank) s (· ∈ [Reg.AO_PAD_STAT]) (fun t => { s with regs := t.regs }))

/-- What a domain, stop or flash command may change; a flash command writes its own region alone (R12, R137, R143, R148,
R156-R163, R172). -/
def Obligations.PowerFrames : Prop := ∀ s : State,
  (∀ who key mask met, Frame (.domainSet who key mask met) s (· ∈ [Reg.PWR_FAIL, Reg.PWR_TRANS, Reg.KX_MERGED])
    (fun t => (s.signal t).answer t)) ∧
  (∀ who key mask met, Frame (.domainClear who key mask met) s
    (fun a => a ∈ [Reg.PWR_FAIL, Reg.PWR_TRANS, Reg.RSV_STATUS, Reg.VLT_STATUS, Reg.KX_MERGED] ∨
      (0xE0000000 + evtBase .b ≤ a ∧ a < 0xE0001000 + evtBase .b))
    (fun t => { ((s.signal t).answer t).vcoded t with coreB := t.coreB, pwr := t.pwr })) ∧
  (∀ d, Frame (.domainPowerFail d) s (· ∈ [Reg.PWR_FAIL, Reg.PWR_TRANS, Reg.RSV_STATUS, Reg.KX_MERGED]) (fun t => { s.signal t with pwr := t.pwr })) ∧
  (∀ d, Frame (.domainRetry d) s (· ∈ [Reg.PWR_TRANS]) (fun t => { s with regs := t.regs, pwr := t.pwr })) ∧
  (∀ c, Frame (.strandTimeout c) s (· ∈ [Reg.PWR_FAIL]) (fun t => { s.coreOf t c with regs := t.regs })) ∧
  (∀ who key ret lim tie, Frame (.stopRequest who key ret lim tie) s
    (· ∈ [Reg.PWR_COINCIDE, Reg.PWR_STOP_STAT, Reg.RSV_STATUS, Reg.VLT_STATUS, Reg.KX_MERGED])
    (fun t => { ((s.signal t).answer t).vcoded t with coreA := t.coreA, coreB := t.coreB, pwr := t.pwr })) ∧
  Frame .stopPartnerTimeout s (· ∈ [Reg.PWR_STOP_STAT, Reg.RSV_STATUS, Reg.KX_MERGED]) (fun t => { s.signal t with coreA := t.coreA, coreB := t.coreB, pwr := t.pwr }) ∧
  (∀ who key, ∀ c ∈ [Instr.program who key, .eraseSector who key, .eraseHalf who key, .blankCheck who key, .flashAbort who key],
    Frame c s (· ∈ [Reg.FLC_COUNTS, Reg.FLC_STATUS, Reg.KX_MERGED]) (fun t => { (s.signal t).answer t with flash := t.flash })) ∧
  (∀ same, s.servesImages = false → Frame (.flashCommandDone same) s (· ∈ [Reg.FLC_STATUS, Reg.FLC_ECC_ADDR, Reg.FLC_COUNTS, Reg.KX_MERGED])
      (fun t => { s.signal t with flash := t.flash, mem := t.mem, eccBad := t.eccBad, free := t.free }) ∧
    MemoryIn (.flashCommandDone same) s (fun a => ∃ c ∈ s.flash.cmd, flashBase + (flashRegion c.op c.addr).1 ≤ a ∧
      a < flashBase + (flashRegion c.op c.addr).1 + (flashRegion c.op c.addr).2)) ∧
  (∀ corrected bad, Frame (.flashScrubRead corrected bad) s
    (· ∈ [Reg.FLC_COUNTS, Reg.FLC_ECC_ADDR, Reg.FLC_SCRUB_STAT, Reg.FLC_STATUS, Reg.KX_MERGED])
    (fun t => { s.signal t with flash := t.flash, eccBad := t.eccBad }))

/-- What the Sequencer's rows may change: its own state, the Daybook queue, the host wires and the Clearing house; a RUN command
may write the Vault's intent word and nothing else of memory (R176-R207). -/
def Obligations.SequencerFrames : Prop := ∀ s : State,
  (∀ pg n, ∀ c ∈ [Instr.sequencerCycle pg, .stepDelayElapsed n, .railSettled n, .pgLate n, .pgStuck n, .seqFallLate n],
    Frame c s (fun a => a ∈ sequencerRegs) (fun t => { s.alerted t with
      regs := t.regs, kx := { t.kx with heldRoutes := s.kx.heldRoutes }, seq := t.seq, vlt := t.vlt,
      pwr := { s.pwr with wakeLevel := t.pwr.wakeLevel } })) ∧
  (∀ rail, Frame (.dischargeTimeout rail) s (fun _ => False) (fun t => { s with seq := t.seq })) ∧
  (∀ rail, Frame (.railRetryRestart rail) s (· ∈ [Reg.SEQ_RAIL_EN]) (fun t => { s with regs := t.regs, seq := t.seq })) ∧
  (∀ m code, Frame (.monitorSample m code) s (· ∈ [Reg.SEQ_MON m, Reg.KX_MERGED])
    (fun t => { s.signal t with seq := t.seq, pwr := { s.pwr with wakeLevel := t.pwr.wakeLevel } })) ∧
  (∀ who key met, ∀ c ∈ [Instr.runSet who key met, .runClr who key met, .runToggle who key met, .clearLock who key met],
    Frame c s (· ∈ [Reg.SEQ_STATUS, Reg.RSV_BUDGET, Reg.VLT_STATUS, Reg.KX_MERGED])
      (fun t => { ((s.signal t).answer t).vcoded t with vlt := t.vlt, mem := t.mem }) ∧ MemoryIn c s s.intentCell) ∧
  (∀ who key arg, Frame (.stepReq who key arg) s (· ∈ [Reg.SEQ_FAULT_LOG, Reg.SEQ_OVR, Reg.KX_MERGED])
    (fun t => { (s.signal t).answer t with seq := t.seq })) ∧
  (∀ who key arg, Frame (.rearm who key arg) s
    (· ∈ [Reg.SEQ_ACTIVE_LO, Reg.SEQ_ACTIVE_HI, Reg.SEQ_DONE_LO, Reg.SEQ_DONE_HI, Reg.SEQ_FAULTED_LO, Reg.SEQ_FAULTED_HI])
    (fun t => { s.answer t with regs := t.regs, seq := t.seq })) ∧
  (∀ who key arg met, ∀ c ∈ [Instr.forceOff who key arg, .allOff who key, .condSet who key arg met, .condClr who key arg],
    Frame c s (fun _ => False) (fun t => { s.answer t with seq := t.seq })) ∧
  (∀ tie, ∀ c ∈ [Instr.pfailFall, .pfailHoldElapsed tie, .pfailRise, .pfailRecover, .policyApply],
    Frame c s (· ∈ [Reg.SEQ_STATUS, Reg.SEQ_COINCIDE, Reg.SEQ_POLICY, Reg.SEQ_ACTIVE_LO, Reg.SEQ_ACTIVE_HI, Reg.SEQ_DONE_LO, Reg.SEQ_DONE_HI,
        Reg.SEQ_FAULTED_LO, Reg.SEQ_FAULTED_HI, Reg.RSV_STATUS, Reg.KX_MERGED])
      (fun t => { s.signal t with
        seq := t.seq, pwr := { s.pwr with wakeLevel := t.pwr.wakeLevel }, vlt := { s.vlt with pfailOk := t.vlt.pfailOk } }))

/-- What a Vault, Daybook or Reserve row may change; a commit's start writes the standby bank's intent word, an append its own slot
(R214-R239). -/
def Obligations.VaultFrames : Prop := ∀ s : State,
  (∀ who w met, Frame (.vaultCommitRequest who ⟨w, met⟩) s (· ∈ [Reg.RSV_BUDGET, Reg.VLT_STATUS])
      (fun t => { (s.answer t).vcoded t with regs := t.regs, vlt := t.vlt, mem := t.mem }) ∧
    MemoryIn (.vaultCommitRequest who ⟨w, met⟩) s s.intentCell) ∧
  (∀ tie, Frame (.vaultGateOpen tie) s (· ∈ [Reg.RSV_BUDGET, Reg.VLT_STATUS, Reg.VLT_COINCIDE])
      (fun t => { s.vcoded t with regs := t.regs, vlt := t.vlt, mem := t.mem }) ∧ MemoryIn (.vaultGateOpen tie) s s.intentCell) ∧
  Frame .vaultWaitExpired s (· ∈ [Reg.VLT_STATUS]) (fun t => { s.vcoded t with regs := t.regs }) ∧
  (Frame .hwCommitRetry s (· ∈ [Reg.RSV_BUDGET, Reg.VLT_STATUS]) (fun t => { s.vcoded t with regs := t.regs, vlt := t.vlt, mem := t.mem }) ∧
    MemoryIn .hwCommitRetry s s.intentCell) ∧
  (∀ who w, ∀ c ∈ [Instr.vaultDraftAppend who w, .vaultDraftClear who w],
    Frame c s (· ∈ [Reg.VLT_STATUS]) (fun t => { s.answer t with regs := t.regs, vlt := t.vlt })) ∧
  (∀ who w bad, Frame (.vaultFind who w bad) s (· ∈ [Reg.VLT_FIND, Reg.VLT_FOUND, Reg.VLT_STATUS])
    (fun t => { s.answer t with regs := t.regs, vlt := t.vlt })) ∧
  (∀ who w, Frame (.daybookLog who w) s (· ∈ [Reg.VLT_DAYBOOK, Reg.VLT_LOST, Reg.VLT_STATUS, Reg.KX_MERGED])
    (fun t => { (s.signal t).answer t with vlt := t.vlt })) ∧
  (Frame .daybookAppend s (· ∈ [Reg.RSV_BUDGET, Reg.VLT_DAYBOOK]) (fun t => { s with regs := t.regs, vlt := t.vlt, mem := t.mem }) ∧
    MemoryIn .daybookAppend s (fun a => daybookSlot (s.rd F.VLT_DAYBOOK_NEXT) ≤ a ∧ a < daybookSlot (s.rd F.VLT_DAYBOOK_NEXT) + 32)) ∧
  (∀ mv ma high, Frame (.reserveSample mv ma high) s (· ∈ [Reg.RSV_ENERGY, Reg.RSV_LOAD, Reg.RSV_STATUS, Reg.RSV_VHOLD, Reg.KX_MERGED])
    (fun t => { s.signal t with vlt := t.vlt })) ∧
  (∀ who w, Frame (.rsvMeasure who w) s (fun _ => False) (fun t => { s.answer t with vlt := t.vlt })) ∧
  Frame .reservePeriodElapsed s (fun _ => False) (fun t => { s with vlt := t.vlt }) ∧
  Frame .reserveMeasureStart s (· ∈ [Reg.RSV_STATUS]) (fun t => { s with regs := t.regs, vlt := t.vlt }) ∧
  (∀ tNs tie, ∀ c ∈ [Instr.reserveMeasureDone tNs tie, .reserveMeasureTimeout],
    Frame c s (· ∈ [Reg.RSV_CAP, Reg.RSV_COINCIDE, Reg.RSV_ENERGY, Reg.RSV_STATUS, Reg.KX_MERGED]) (fun t => s.signal t))

/-- What a core's own steps and a core's writes to the Clearing house may change: the other core is left alone (R251, R268-R272,
R295, R304, R326, R333). -/
def Obligations.CoreFrames : Prop := ∀ s : State,
  (∀ c, Frame (.divideComplete c) s (fun _ => False) (fun t => s.coreOf t c)) ∧
  (∀ c turn, Frame (.exceptionEntry ⟨c, turn⟩) s (fun _ => False) (fun t => s.coreMem t c)) ∧
  (∀ c bad turn, Frame (.storeBufferWriteBack c ⟨bad, turn⟩) s (fun _ => False) (fun t => s.coreMem t c) ∧
    MemoryIn (.storeBufferWriteBack c ⟨bad, turn⟩) s (fun a => ∃ e ∈ (s.core c).sbuf.head?, e.1 ≤ a ∧ a < e.1 + e.2.length)) ∧
  (∀ c tie turn, Frame (.interruptEntry ⟨c, tie, turn⟩) s (· ∈ [Reg.EVT_COINCIDE + evtBase c]) (fun t => { s.coreMem t c with regs := t.regs })) ∧
  (∀ c, Frame (.waitRelease c) s (· ∈ [Reg.KX_MERGED]) (fun t => (s.signal t).coreOf t c)) ∧
  (∀ who sw, Frame (.kxSwev who sw) s (· ∈ [Reg.KX_MERGED]) (fun t => (s.signal t).answer t)) ∧
  (∀ who key src, Frame (.kxForce who key src) s (· ∈ [Reg.KX_MERGED, Reg.KX_STATUS]) (fun t => (s.signal t).answer t)) ∧
  (∀ who timeout, Frame (.watchdogStart who timeout) s (· ∈ [Reg.EVT_WDOG_CTL + evtBase (s.privateOf who)])
    (fun t => { s with regs := t.regs, resp := t.resp })) ∧
  (∀ who key tie, Frame (.watchdogKick who key tie) s (· ∈ [Reg.EVT_COINCIDE + evtBase (s.privateOf who)])
    (fun t => { s with regs := t.regs, resp := t.resp }))

/-- What a host access, a virtual-wire or out-of-band message and a teller's answer may change; of memory only the window the
message names (R346-R363, R382). -/
def Obligations.HostFrames : Prop := ∀ s : State,
  (∀ port n a bad, ∀ c ∈ [Instr.espiIoRead port n bad, .espiMemRead a n bad],
    Frame c s (· ∈ hostReadRegs) (fun t => { s.link t with resp := t.resp })) ∧
  (∀ port data us a bad, ∀ c ∈ [Instr.espiIoWrite port data us bad, .espiMemWrite a data bad],
    Frame c s (· ∈ hostReadRegs ++ [Reg.HST_NVX_STAT, Reg.HST_POST_LAST, Reg.RSV_BUDGET, Reg.VLT_STATUS])
      (fun t => { s.link t with resp := t.resp, vlt := t.vlt, mem := t.mem })) ∧
  (∀ freq io pin od crc ch bad, Frame (.setConfiguration freq io pin od crc ch bad) s (· ∈ [Reg.HST_LINK, Reg.HST_ERR, Reg.KX_MERGED])
    (fun t => { (s.signal t).alerted t with resp := t.resp })) ∧
  (∀ sys gen bad, Frame (.putVwire sys gen bad) s (· ∈ [Reg.HST_VW_IN, Reg.HST_VW_OUT, Reg.HST_VW_GEN, Reg.HST_ERR, Reg.HST_KBC_CMD,
      Reg.HST_KBC_STAT, Reg.HST_ECI_CMD, Reg.HST_ECI_STAT, Reg.HST_NVX_STAT, Reg.KX_MERGED])
      (fun t => { s.link t with resp := t.resp, seq := t.seq, mem := t.mem }) ∧
    MemoryIn (.putVwire sys gen bad) s (tellerCell s.nvxTeller 0x20 0x120)) ∧
  Frame .getVwire s (· ∈ [Reg.HST_VW_OUT, Reg.HST_VW_GEN, Reg.KX_MERGED]) (fun t => { s.link t with resp := t.resp }) ∧
  (∀ c ∈ [Instr.hostRstAck, .oobRstAck], Frame c s (· ∈ [Reg.HST_ERR, Reg.HST_OOB_STAT, Reg.HST_VW_OUT, Reg.KX_MERGED]) (fun t => s.link t)) ∧
  (∀ pkt bad, Frame (.putOob pkt bad) s (· ∈ [Reg.HST_ERR, Reg.HST_OOB_STAT, Reg.TLR_COUNTS, Reg.TLR_DENY_LOG, Reg.KX_MERGED])
    (fun t => { s.signal t with hst := t.hst, mem := t.mem, resp := t.resp })) ∧
  Frame .getOob s (· ∈ [Reg.HST_OOB_STAT]) (fun t => { s with regs := t.regs, hst := t.hst, mem := t.mem, resp := t.resp }) ∧
  Frame .oobRxDeliver s (· ∈ [Reg.HST_OOB_STAT, Reg.KX_MERGED]) (fun t => { s.signal t with hst := t.hst, mem := t.mem }) ∧
  (∀ who teller, Frame (.oobSend who teller) s (· ∈ [Reg.HST_OOB_STAT]) (fun t => { s.answer t with regs := t.regs, hst := t.hst })) ∧
  (∀ who teller, Frame (.oobRelease who teller) s (fun _ => False) (fun t => { s.answer t with mem := t.mem }) ∧
    MemoryIn (.oobRelease who teller) s (tellerCell (s.oobTeller (oobCtl teller.toNat 1)) 0 4)) ∧
  (∀ who c w tie, Frame (.tellerResponse who c w tie) s
    (fun a => (∃ p, a = Reg.TWB_TGT p) ∨ a ∈ [Reg.HST_COINCIDE, Reg.HST_STATUS, Reg.TLR_REQ_A, Reg.TLR_REQ_B, Reg.TLR_REQ_DATA_A,
      Reg.TLR_REQ_DATA_B, Reg.TLR_STATUS, Reg.KX_MERGED])
    (fun t => { (s.signal t).answer t with hst := t.hst, twb := t.twb })) ∧
  (∀ d, Frame (.tellerDeadline d) s
    (fun a => (∃ p, a = Reg.TWB_TGT p) ∨ a ∈ hostReadRegs ++ [Reg.HST_KBC_CMD, Reg.HST_ECI_CMD, Reg.TLR_TARDY_LOG])
    (fun t => { s.link t with resp := t.resp, twb := t.twb }))

/-- What an autoteller's row or the console may change; of memory only its own window (R364-R374, R377-R379). -/
def Obligations.AutotellerFrames : Prop := ∀ s : State,
  (Frame .kbcConsume s (· ∈ [Reg.HST_KBC_CMD, Reg.HST_KBC_STAT, Reg.HST_VW_OUT, Reg.KBD_HOSTCFG, Reg.KX_MERGED])
      (fun t => { s.link t with mem := t.mem }) ∧ MemoryIn .kbcConsume s (tellerCell s.kbcTeller 0 0x40)) ∧
  (Frame .kbcOutputLoad s (· ∈ [Reg.HST_KBC_STAT, Reg.HST_VW_OUT, Reg.KX_MERGED]) (fun t => { s.link t with mem := t.mem }) ∧
    MemoryIn .kbcOutputLoad s (tellerCell s.kbcTeller 0 0x40)) ∧
  Frame .kbdResetComplete s (fun _ => False) (fun t => { s with hst := t.hst }) ∧
  (∀ who eci w tie, Frame (.kbcFirmwareRelease who eci w tie) s
    (· ∈ [Reg.HST_COINCIDE, Reg.HST_ECI_CMD, Reg.HST_KBC_CMD, Reg.HST_KBC_STAT, Reg.HST_VW_OUT, Reg.KX_MERGED])
    (fun t => (s.link t).answer t)) ∧
  (∀ who w, Frame (.kbcPut who w) s (· ∈ [Reg.HST_KBC_STAT]) (fun t => { s.answer t with regs := t.regs, hst := t.hst })) ∧
  (Frame .eciConsume s (· ∈ [Reg.HST_ECI_CMD, Reg.HST_ECI_STAT, Reg.HST_VW_OUT, Reg.TLR_COUNTS, Reg.TLR_DENY_LOG, Reg.KX_MERGED])
      (fun t => { s.link t with mem := t.mem }) ∧
    MemoryIn .eciConsume s (fun a => ∃ e ∈ s.eciTeller, ∃ x ∈ s.hst.eci.args.head?, a = e.at x)) ∧
  (∀ who w, ∀ c ∈ [Instr.eciQueryPush who w, .eciPut who w],
    Frame c s (· ∈ [Reg.HST_ECI_STAT, Reg.HST_VW_OUT, Reg.KX_MERGED]) (fun t => (s.link t).answer t)) ∧
  (Frame .nvxLoadDone s (· ∈ [Reg.HST_NVX_STAT, Reg.VLT_STATUS]) (fun t => { s with
      regs := t.regs, hst := t.hst, mem := t.mem, free := t.free, vlt := { s.vlt with mirrorBad := t.vlt.mirrorBad } }) ∧
    MemoryIn .nvxLoadDone s (fun a => ∃ u ∈ [s, s.mirrorError s.nvxRecord],
      tellerCell s.nvxTeller 0x20 (0x20 + (stagingBytes s.nvxRecord (u.record s.nvxRecord)).length) a)) ∧
  (∀ b, Frame (.consoleRx b) s (· ∈ [Reg.HST_CONS_STAT, Reg.KX_MERGED]) (fun t =>
      { s.signal t with mem := t.mem, pwr := { s.pwr with wakeLevel := t.pwr.wakeLevel } }) ∧
    MemoryIn (.consoleRx b) s (fun a => ∃ e ∈ s.consoleTeller, a = e.at 0 ∨ a = e.at 1 ∨ a = e.at (4 + memHalf s.mem (e.at 0) % (e.ramSize - 4)))) ∧
  (∀ who w, Frame (.consoleTx who w) s (· ∈ [Reg.HST_CONS_STAT]) (fun t => { s.answer t with regs := t.regs, hst := t.hst })) ∧
  Frame .consoleByteSent s (· ∈ [Reg.HST_CONS_STAT]) (fun t => { s with regs := t.regs, hst := t.hst, resp := t.resp })

/-- What a keyboard or Calendar row may change (R387-R409, R413-R423, R135). -/
def Obligations.KeyboardAndCalendarFrames : Prop := ∀ s : State,
  (∀ rows dt, Frame (.kbdFrameStart rows dt) s (fun a => (∃ d < s.drives + s.senses, a = Reg.KBD_RAW d ∨ a = Reg.KBD_STATE d) ∨
      a ∈ [Reg.KBD_LAYER, Reg.KBD_STATUS, Reg.KBD_COUNTS, Reg.KBD_COINCIDE, Reg.KX_MERGED]) (fun t => { s.signal t with kbd := t.kbd })) ∧
  Frame .kbdFrameBoundary s (· ∈ [Reg.KBD_COUNTS, Reg.KBD_SETTLE, Reg.KBD_STATUS, Reg.KX_MERGED]) (fun t => { s.signal t with kbd := t.kbd }) ∧
  (∀ rise, Frame (.kbdLineMeasure rise) s (fun a => (∃ i ∈ s.kbd.measSet, a = Reg.KBD_RISE i) ∨
      a ∈ [Reg.KBD_SETTLE, Reg.KBD_STATUS, Reg.KX_MERGED]) (fun t => { s.signal t with kbd := t.kbd, free := t.free })) ∧
  Frame .kbdMeasurePeriod s (fun _ => False) (fun t => { s with kbd := t.kbd }) ∧
  (∀ who, Frame (.measure who) s (fun _ => False) (fun t => { s.answer t with kbd := t.kbd })) ∧
  (∀ who, ∀ c ∈ [Instr.clearKbc who, .clearFw who],
    Frame c s (· ∈ [Reg.KBD_STATUS]) (fun t => { s.answer t with regs := t.regs, kbd := t.kbd })) ∧
  (∀ when tie, Frame (.typematicRepeat ⟨when, tie⟩) s (· ∈ [Reg.KBD_COINCIDE, Reg.KBD_COUNTS, Reg.KBD_STATUS, Reg.KX_MERGED])
    (fun t => { s.signal t with kbd := t.kbd })) ∧
  (Frame .kbcStagingMove s (· ∈ [Reg.KBD_STATUS, Reg.HST_KBC_STAT]) (fun t => { s with regs := t.regs, kbd := t.kbd, mem := t.mem }) ∧
    MemoryIn .kbcStagingMove s (tellerCell s.kbcTeller 0 0x40)) ∧
  (∀ who, Frame (.kbdFifoRead who) s (· ∈ [Reg.KBD_STATUS]) (fun t => { s with regs := t.regs, resp := t.resp, kbd := t.kbd })) ∧
  (∀ who w, Frame (.kbdHostcfgWrite who w) s (· ∈ [Reg.KBD_HOSTCFG]) (fun t => { s.answer t with regs := t.regs })) ∧
  (∀ i, Frame (.kbdWakeDetect i) s (fun _ => False) (fun t => { s with pwr := { s.pwr with wakeLevel := t.pwr.wakeLevel } })) ∧
  (∀ i, Frame (.kbdSenseUnmask i) s (fun _ => False) (fun t => { s with kbd := { s.kbd with maskSense := t.kbd.maskSense } })) ∧
  (∀ c ∈ [Instr.calendarTick, .calendarSecond], Frame c s
    (· ∈ [Reg.CAL_RATE, Reg.CAL_STATUS, Reg.CLK_STATUS, Reg.CAL_ALARM0_HI, Reg.CAL_ALARM1_HI, Reg.KX_MERGED])
    (fun t => { s.signal t with cal := t.cal, free := t.free, pwr := { s.pwr with wakeLevel := t.pwr.wakeLevel } })) ∧
  (∀ k : Fin 2, Frame (.alarmMatch k) s (· ∈ [(alarmEn k).reg, Reg.KX_MERGED])
    (fun t => { s.signal t with pwr := { s.pwr with wakeLevel := t.pwr.wakeLevel } })) ∧
  (∀ since tie, Frame (.ppsEdge since tie) s (· ∈ [Reg.CAL_PHASE, Reg.CAL_PPS_COUNT, Reg.CAL_COINCIDE, Reg.CAL_STATUS, Reg.CAL_RATE,
      Reg.CAL_ALARM0_HI, Reg.CAL_ALARM1_HI, Reg.KX_MERGED])
    (fun t => { s.signal t with cal := t.cal, pwr := { s.pwr with wakeLevel := t.pwr.wakeLevel } })) ∧
  (∀ mv, ∀ c ∈ [Instr.holdover, .vbatSample mv], Frame c s (· ∈ [Reg.CAL_STATUS, Reg.KX_MERGED]) (fun t => s.signal t)) ∧
  (∀ who key w, ∀ c ∈ [Instr.calendarSet who key, .calRateWrite who w],
    Frame c s (fun _ => False) (fun t => { s.answer t with cal := t.cal })) ∧
  (∀ who, ∀ c ∈ [Instr.calNowLoRead who, .calNowHiRead who],
    Frame c s (fun _ => False) (fun t => { s with resp := t.resp, cal := { s.cal with latch := t.cal.latch } })) ∧
  Frame .xt32Loss s (· ∈ [Reg.CLK_STATUS, Reg.CAL_STATUS, Reg.KX_MERGED]) (fun t => { s.signal t with
    pwr := { s.pwr with xt32Fail := t.pwr.xt32Fail, wakeLevel := t.pwr.wakeLevel }, cal := { s.cal with trimTicks := t.cal.trimTicks } }) ∧
  Frame .xt32Return s (· ∈ [Reg.CLK_STATUS, Reg.CAL_STATUS])
    (fun t => { s with regs := t.regs, pwr := { s.pwr with xt32Fail := t.pwr.xt32Fail } }) ∧
  Frame .backupCellRestart s (· ∈ [Reg.CAL_RATE]) (fun t => { s with regs := t.regs, cal := t.cal })

/-- What a timer row may change: the channel it names and, by a cascade, the channels after it (R424-R434). -/
def Obligations.TimerFrames : Prop := ∀ s : State,
  (∀ (n : Fin 16) (m : Fin 4), ∀ c ∈ [Instr.timerWrap n, .compareMatch n m, .captureTimeout n m], Frame c s
    (fun a => (∃ k : Fin 16, n ≤ k ∧ timerReg k a) ∨ a ∈ [Reg.TC_OUT, Reg.TC_OUT + 4, Reg.KX_MERGED])
    (fun t => { s.signal t with tim := t.tim })) ∧
  (∀ (n : Fin 16) m rising adv tie, Frame (.capture n m rising adv tie) s
    (fun a => (∃ k : Fin 16, (if tie then s.tcBase 16 n else n.val) ≤ k.val ∧ timerReg k a) ∨ a ∈ [Reg.TC_OUT, Reg.TC_OUT + 4, Reg.TC_COINCIDE, Reg.KX_MERGED])
    (fun t => { s.signal t with tim := t.tim })) ∧
  (∀ who (n : Fin 16) adv met, Frame (.start who ⟨n, adv, met⟩) s (· ∈ [Reg.TC_STAT n, Reg.TC_CNT_LO n, Reg.TC_CNT_HI n]) (fun t => { s.answer t with regs := t.regs, tim := t.tim })) ∧
  (∀ who (n : Fin 16) adv, Frame (.stop who n adv) s (· ∈ [Reg.TC_STAT n, Reg.TC_CNT_LO n, Reg.TC_CNT_HI n])
    (fun t => { s.answer t with regs := t.regs, tim := t.tim })) ∧
  (∀ who (n : Fin 16), Frame (.clear who n) s (· ∈ [Reg.TC_CNT_LO n, Reg.TC_CNT_HI n, tcOutReg n])
    (fun t => { s.answer t with regs := t.regs, tim := t.tim })) ∧
  (∀ who n u w, Frame (.timerHiWrite who n u w) s (fun _ => False) (fun t => { s.answer t with tim := t.tim })) ∧
  (∀ who (n : Fin 16) (u : Option (Fin 4)) w adv, Frame (.timerLoWrite who n u ⟨w, adv⟩) s
    (· ∈ [tcLo n u, tcLo n u + 4, Reg.TC_STAT n, Reg.TC_CNT_LO n, Reg.TC_CNT_HI n])
    (fun t => { s.answer t with regs := t.regs, tim := t.tim })) ∧
  (∀ who (n : Fin 16) u adv, ∀ c ∈ [Instr.timerLoRead who n u adv, .timerHiRead who n u adv],
    Frame c s (· ∈ [Reg.TC_CNT_LO n, Reg.TC_CNT_HI n]) (fun t => { s with regs := t.regs, resp := t.resp, tim := t.tim })) ∧
  (∀ who advs, Frame (.snapshot who advs) s (fun a => a = Reg.TC_SNAP_STAT ∨ ∃ k : Fin 16, a ∈ [Reg.TC_SNAP_LO k, Reg.TC_SNAP_HI k,
      Reg.TC_CNT_LO k, Reg.TC_CNT_HI k]) (fun t => { s.answer t with regs := t.regs, tim := t.tim }))

/-- What a measurement row may change: its slice, its list, the channel results and the limits (R446-R469). -/
def Obligations.MeasurementFrames : Prop := ∀ s : State,
  (∀ who lists, ∀ c ∈ [Instr.adcTrigger who lists, .survey who], Frame c s
    (fun a => a ∈ [Reg.ADC_CMD, Reg.ADC_STAT, Reg.KX_MERGED] ∨ ∃ k : Fin 8, a = Reg.ADC_SL_OVR k ∨ a = Reg.ADC_SL_STAT k)
    (fun t => { (s.signal t).answer t with adc := t.adc })) ∧
  Frame .surveyPeriod s (· ∈ [Reg.ADC_STAT]) (fun t => { s with regs := t.regs, adc := t.adc }) ∧
  Frame .adcPassStart s (fun a => ∃ k ∈ s.nextList, a = Reg.ADC_SL_STAT k) (fun t => { s with regs := t.regs, adc := t.adc }) ∧
  (∀ x raw raw2 tie, Frame (.adcEntryDone x raw raw2 tie) s
    (fun a => (∃ p ∈ (s.slc x).pass, ∃ j < p.idx + 1, a = Reg.ADC_RES p.list j) ∨ (∃ c : Fin 40, a = Reg.ADC_CH c) ∨
      a ∈ [Reg.ADC_LIM_STAT, Reg.ADC_COINCIDE, Reg.KX_MERGED])
    (fun t => { s.signal t with adc := t.adc, free := t.free, loops := t.loops })) ∧
  (∀ x, Frame (.adcPassDone x) s (fun a => (∃ p ∈ (s.slc x).pass, a = Reg.ADC_SL_STAT p.list) ∨ (∃ j : Fin 3, a = Reg.ADC_SLICE j) ∨
      a ∈ [Reg.ADC_STAT, Reg.KX_MERGED]) (fun t => { s.signal t with adc := t.adc })) ∧
  Frame .adcSwap s (fun a => (∃ j : Fin 3, a = Reg.ADC_SLICE j) ∨ a ∈ [Reg.ADC_STAT, Reg.KX_MERGED]) (fun t => { s.signal t with adc := t.adc }) ∧
  (∀ x vz lo hi, Frame (.reliefCalibrationDone x vz lo hi) s
    (fun a => a = Reg.ADC_CORR x ∨ (∃ j : Fin 3, a = Reg.ADC_SLICE j) ∨ a ∈ [Reg.ADC_STAT, Reg.KX_MERGED])
    (fun t => { s.signal t with adc := t.adc, free := t.free })) ∧
  (∀ x : Fin 3, Frame (.badSliceRetry x) s (· ∈ [Reg.ADC_SLICE x]) (fun t => { s with regs := t.regs, adc := t.adc })) ∧
  (∀ raws, Frame (.surveyDone raws) s (fun a => (∃ j : Fin 3, a = Reg.ADC_SLICE j) ∨ (∃ i : Fin 16, a = Reg.ADC_SURVEY i) ∨
      a ∈ [Reg.ADC_STAT, Reg.KX_MERGED]) (fun t => { s.signal t with adc := t.adc, free := t.free })) ∧
  (∀ x : Fin 12, ∀ c ∈ [Instr.sensorFaultSet x, .sensorFaultClear x], Frame c s (· ∈ [Reg.ADC_FAULT_LO, Reg.ADC_CH (16 + x), Reg.KX_MERGED])
    (fun t => { s.signal t with adc := t.adc }))

/-- What a two-wire row may change: its port's registers, its receive buffer, the slot it polls, and for a target transaction the
teller it reaches (R476-R496). -/
def Obligations.TwoWireFrames : Prop := ∀ s : State,
  (∀ who (p : Fin 6), ∀ c ∈ [Instr.twbGo who p, .abort who p, .busClear who p], Frame c s (· ∈ [Reg.TWB_ERR p, Reg.TWB_STAT p, Reg.KX_MERGED])
    (fun t => { (s.signal t).answer t with free := t.free, twb := t.twb })) ∧
  (∀ p : Fin 6, ∀ c ∈ [Instr.twbTransactionStart p, .twbRetry p], Frame c s (· ∈ [Reg.TWB_STAT p])
    (fun t => { s with regs := t.regs, twb := t.twb, resp := t.resp })) ∧
  (∀ (p : Fin 6) low, Frame (.autoAra p low) s (· ∈ [Reg.TWB_STAT p, Reg.KX_MERGED]) (fun t => { s.signal t with twb := t.twb, resp := t.resp })) ∧
  (∀ (p : Fin 6) e, Frame (.twbTransactionEnd p e) s (fun a => (∃ m : Fin 9, a = Reg.TWB_RX p m) ∨
      (∃ k cfg, (s.twp p).run = some (.poll k cfg) ∧ a = Reg.TWB_SNS k) ∨
      a ∈ [Reg.TWB_STAT p, Reg.TWB_COUNTS p, Reg.TWB_ERR p, Reg.KX_MERGED]) (fun t => { s.signal t with twb := t.twb, free := t.free })) ∧
  (∀ (p : Fin 6) idx rx tie, Frame (.twbClockLowTimeout p ⟨idx, rx⟩ tie) s (fun a => (∃ m : Fin 9, a = Reg.TWB_RX p m) ∨
      (∃ k cfg, (s.twp p).run = some (.poll k cfg) ∧ a = Reg.TWB_SNS k) ∨ a ∈ [Reg.TWB_STAT p, Reg.TWB_COINCIDE, Reg.KX_MERGED])
    (fun t => { s.signal t with twb := t.twb, free := t.free })) ∧
  (∀ (p : Fin 6) tie, Frame (.twbTargetTimeout p tie) s (· ∈ [Reg.TWB_COINCIDE, Reg.TWB_ERR p, Reg.TWB_COUNTS p])
    (fun t =>
      { s with
        regs := t.regs
        twb := t.twb
        hst := { s.hst with queueA := t.hst.queueA, queueB := t.hst.queueB, held := t.hst.held } })) ∧
  (∀ (p : Fin 6) scl sda freed, Frame (.twbStuckTimeout p scl sda freed) s (fun a => (∃ k ∈ (s.duePolls p).head?, a = Reg.TWB_SNS k) ∨
      a ∈ [Reg.TWB_STAT p, Reg.KX_MERGED]) (fun t => { s.signal t with twb := t.twb, free := t.free, resp := t.resp })) ∧
  (∀ (p : Fin 6) low tie, ∀ c ∈ [Instr.twbBusFree p low, .twbStopCondition p low, .twbStartCondition p low tie],
    Frame c s (· ∈ [Reg.TWB_STAT p, Reg.TWB_COINCIDE, Reg.KX_MERGED]) (fun t => { s.signal t with twb := t.twb })) ∧
  (∀ (p : Fin 6) addr read wrote n sr won, Frame (.twbTargetTransaction p addr read wrote n sr won) s
      (· ∈ [Reg.TWB_STAT p, Reg.TWB_TGT p, Reg.TWB_HN p, Reg.TWB_ERR p, Reg.TWB_COUNTS p, Reg.HST_STATUS, Reg.TLR_COUNTS, Reg.TLR_DENY_LOG, Reg.TLR_REQ_A,
        Reg.TLR_REQ_B, Reg.TLR_REQ_DATA_A, Reg.TLR_REQ_DATA_B, Reg.KX_MERGED])
      (fun t => { s.signal t with twb := t.twb, hst := t.hst, mem := t.mem, resp := t.resp }) ∧
    MemoryIn (.twbTargetTransaction p addr read wrote n sr won) s (tellerCell (s.twTeller p addr.toNat) 0 256)) ∧
  (∀ (p : Fin 6) b, Frame (.hostNotify p b) s (· ∈ [Reg.TWB_ERR p, Reg.TWB_COUNTS p, Reg.TWB_HN p, Reg.TWB_TGT p, Reg.KX_MERGED])
    (fun t => { s.signal t with twb := t.twb })) ∧
  (∀ who (p : Fin 6) w, Frame (.twbAlertWrite who p w) s (· ∈ [Reg.TWB_TGT p, Reg.TWB_STAT p, Reg.KX_MERGED]) (fun t => (s.signal t).answer t)) ∧
  (∀ who p, Frame (.twbAraRead who p) s (fun _ => False) (fun t => { s with resp := t.resp, twb := t.twb })) ∧
  (∀ k, Frame (.sensorSlotPoll k) s (fun _ => False) (fun t => { s with twb := t.twb }))

/-- What a fan row may change: its channel, and for a learn the Vault's commit (R503-R522). -/
def Obligations.FanFrames : Prop := ∀ s : State,
  (∀ n : Fin 8, Frame (.fanLoopPeriod n) s (· ∈ [Reg.FAN_STAT n, Reg.FAN_TEMP n, Reg.KX_MERGED])
    (fun t => { s.signal t with fan := t.fan, free := t.free })) ∧
  (∀ (n : Fin 8) dt rel phase tie, Frame (.fanTachEdge n dt rel phase tie) s (· ∈ [Reg.FAN_RPM n, Reg.FAN_COINCIDE])
    (fun t => { s with regs := t.regs, fan := t.fan })) ∧
  (∀ n : Fin 8, Frame (.fanTachLapse n) s (· ∈ [Reg.FAN_RPM n]) (fun t => { s with regs := t.regs })) ∧
  (∀ n : Fin 8, ∀ c ∈ [Instr.fanKickEnd n, .fanStallClear n, .fanPumpRecover n],
    Frame c s (· ∈ [Reg.FAN_STAT n]) (fun t => { s with regs := t.regs })) ∧
  (∀ n : Fin 8, Frame (.fanStall n) s (· ∈ [Reg.FAN_STAT n, Reg.FAN_STAT (s.rd F.FAN_LEARN_STAT_CH), Reg.FAN_LEARN_STAT, Reg.KX_MERGED])
    (fun t => { s.signal t with fan := t.fan })) ∧
  (∀ n : Fin 8, Frame (.fanPumpLow n) s (· ∈ [Reg.FAN_STAT n, Reg.KX_MERGED]) (fun t => s.signal t)) ∧
  Frame .fanSafetyPeriod s (fun a => (∃ k : Fin 8, a = Reg.FAN_STAT k) ∨ a ∈ [Reg.FAN_SAFE_STAT, Reg.FAN_LEARN_STAT, Reg.KX_MERGED])
    (fun t => { s.signal t with fan := t.fan }) ∧
  (∀ who key tie, Frame (.fanHeartbeat who key tie) s (· ∈ [Reg.FAN_SAFE_STAT, Reg.FAN_COINCIDE])
    (fun t => { s.answer t with regs := t.regs, fan := t.fan })) ∧
  Frame .fanHeartbeatTimeout s (fun _ => False) (fun t => { s with fan := t.fan }) ∧
  (∀ who key, ∀ c ∈ [Instr.force who key, .unforce who key], Frame c s (fun _ => False) (fun t => { s.answer t with fan := t.fan })) ∧
  (∀ who key (ch : Fin 8), ∀ c ∈ [Instr.fanLearn who key ch, .fanLearnAbort who key],
    Frame c s (· ∈ [Reg.FAN_STAT ch, Reg.FAN_STAT (s.rd F.FAN_LEARN_STAT_CH), Reg.FAN_LEARN_STAT, Reg.KX_MERGED])
      (fun t => { (s.signal t).answer t with fan := t.fan })) ∧
  (∀ rpm, Frame (.fanLearnPoint rpm) s
      (· ∈ [Reg.FAN_STAT (s.rd F.FAN_LEARN_STAT_CH), Reg.FAN_LEARN_STAT, Reg.RSV_BUDGET, Reg.VLT_STATUS, Reg.KX_MERGED])
      (fun t => { (s.signal t).vcoded t with fan := t.fan, vlt := t.vlt, mem := t.mem }) ∧ MemoryIn (.fanLearnPoint rpm) s s.intentCell) ∧
  (∀ n tie, Frame (.fanAgeingSample n tie) s (· ∈ [Reg.FAN_COINCIDE]) (fun t => { s with regs := t.regs, fan := t.fan, free := t.free })) ∧
  (∀ n : Fin 8, Frame (.fanAgeingWindow n) s (· ∈ [Reg.FAN_AGE n, Reg.KX_MERGED]) (fun t => { s.signal t with fan := t.fan, free := t.free }))

/-- What a lamp row may change: its string, the boost stage, the matrix or its chain (R530-R557). -/
def Obligations.LampFrames : Prop := ∀ s : State,
  Frame .lampPeriodBoundary s (· ∈ [Reg.LST_BST]) (fun t => { s with regs := t.regs, lst := t.lst, free := t.free }) ∧
  (∀ (x : Fin 4) vsnk vf, Frame (.headroomSample x vsnk vf) s (fun a => a = Reg.LST_STAT x ∨ ∃ k : Fin 8, a = Reg.LST_VF x k)
    (fun t => { s with regs := t.regs, lst := t.lst, free := t.free })) ∧
  (∀ v, Frame (.boostUpdate v) s (fun a => a ∈ [Reg.LST_BST, Reg.LST_BST_TGT] ∨ ∃ x : Fin 4, a = Reg.LST_STAT x)
    (fun t => { s with regs := t.regs, lst := t.lst, free := t.free })) ∧
  Frame (.lampCompensation .strings) s (fun a => ∃ x : Fin 4, a = Reg.LST_K x ∨ a = Reg.LST_STAT x) (fun t => { s with regs := t.regs }) ∧
  Frame (.lampCompensation .matrix) s (fun a => a = Reg.LMX_STAT ∨ ∃ x : Fin 4, a = Reg.LMX_K x) (fun t => { s with regs := t.regs }) ∧
  Frame (.lampCompensation .chains) s (fun a => ∃ x : Fin 4, a = Reg.LCH_K x ∨ a = Reg.LCH_STAT x) (fun t => { s with regs := t.regs }) ∧
  (∀ (x : Fin 4) tie, ∀ c ∈ [Instr.dropoutEnter x tie, .dropoutExit x tie],
    Frame c s (· ∈ [Reg.LST_STAT x, Reg.LST_COINCIDE, Reg.KX_MERGED]) (fun t => s.signal t)) ∧
  (∀ ties, Frame (.shedTick ties) s (fun a => (∃ x : Fin 4, a = Reg.LST_LAMP x ∨ a = Reg.LST_STAT x ∨ ∃ k : Fin 8, a = Reg.LST_VF x k) ∨
      a ∈ [Reg.LST_SHED_LOG, Reg.LST_COINCIDE, Reg.KX_MERGED]) (fun t => { s.signal t with lst := t.lst })) ∧
  (∀ x : Fin 4, Frame (.lampOpen x) s (· ∈ [Reg.LST_LAMP x, Reg.LST_STAT x, Reg.KX_MERGED])
    (fun t => { s.signal t with lst := t.lst, free := t.free })) ∧
  (∀ (x : Fin 4) k, Frame (.lampShort x k) s (· ∈ [Reg.LST_LAMP x, Reg.KX_MERGED]) (fun t => s.signal t)) ∧
  (∀ who key strings, ∀ c ∈ [Instr.clearOpen who key strings, .bstRestart who key], Frame c s
    (fun a => a = Reg.LST_BST ∨ ∃ x : Fin 4, a = Reg.LST_LAMP x) (fun t => { s.answer t with regs := t.regs, lst := t.lst })) ∧
  (∀ v dt, Frame (.boostOvp v dt) s (fun a => a ∈ [Reg.LST_BST, Reg.KX_MERGED] ∨ ∃ x : Fin 4, a = Reg.LST_STAT x)
    (fun t => { s.signal t with lst := t.lst, free := t.free })) ∧
  Frame .boostWeak s (· ∈ [Reg.LST_BST, Reg.KX_MERGED]) (fun t => s.signal t) ∧
  (∀ src met who, ∀ c ∈ [Instr.matrixSync ⟨src, met⟩, .matrixFrameTimer, .matrixArm who, .matrixFrameEnd], Frame c s
    (fun a => a ∈ [Reg.LMX_STAT, Reg.LMX_SYNC_OVR, Reg.KX_MERGED] ∨ ∃ i : Fin 192, a = Reg.LMX_FRONT i ∨ a = Reg.LMX_FB i)
    (fun t => { (s.signal t).answer t with lmx := t.lmx, kx := { s.kx with
      pulses := t.kx.pulses, levels := t.kx.levels, heldRoutes := t.kx.heldRoutes } })) ∧
  Frame .matrixRowSlot s (· ∈ [Reg.LMX_STAT]) (fun t => { s with regs := t.regs, lmx := t.lmx }) ∧
  (∀ (n : Fin 4) src met who rx last rt stuck tie, ∀ c ∈ [Instr.chainSync n ⟨src, met⟩, .chainFrameTimer n, .chainArm n who,
      .chainFrameEnd n rx last rt stuck, .chainRetTimeout n rx last rt stuck tie], Frame c s
    (fun a => a ∈ [Reg.LCH_STAT n, Reg.LCH_OVR n, Reg.LCH_RT n, Reg.LCH_RT_MAX, Reg.LCH_COINCIDE, Reg.KX_MERGED] ∨
      ∃ i : Fin 512, a = Reg.LCH_FR n i ∨ a = Reg.LCH_BK n i)
    (fun t => { (s.signal t).answer t with lch := t.lch, free := t.free, kx := { s.kx with
      pulses := t.kx.pulses, levels := t.kx.levels, heldRoutes := t.kx.heldRoutes } }))

/-- What a loop-output or panel row may change (R563-R577, R582-R600). -/
def Obligations.LoopAndPanelFrames : Prop := ∀ s : State,
  (∀ c : Fin 2, Frame (.loopUpdate c) s (· ∈ [Reg.LOOP_MEAS c, Reg.LOOP_RES c, Reg.LOOP_STAT c, Reg.LOOP_TARGET c, Reg.KX_MERGED])
    (fun t => { s.signal t with loops := t.loops, free := t.free })) ∧
  (∀ (c : Fin 2) tie, ∀ i ∈ [Instr.complianceEnter c tie, .complianceExit c tie],
    Frame i s (· ∈ [Reg.LOOP_COINCIDE, Reg.LOOP_RES c, Reg.LOOP_STAT c, Reg.LOOP_TARGET c, Reg.KX_MERGED])
      (fun t => { s.signal t with loops := t.loops, free := t.free })) ∧
  (∀ c : Fin 2, Frame (.loopTrimStep c) s (· ∈ [Reg.LOOP_STAT c, Reg.LOOP_TRIM c]) (fun t => { s with regs := t.regs, loops := t.loops })) ∧
  (∀ c : Fin 2, ∀ i ∈ [Instr.overSet c, .measStale c], Frame i s (· ∈ [Reg.LOOP_STAT c, Reg.KX_MERGED]) (fun t => s.signal t)) ∧
  (∀ c : Fin 2, Frame (.overClear c) s (· ∈ [Reg.LOOP_STAT c]) (fun t => { s with regs := t.regs })) ∧
  (∀ (c : Fin 2) who key, ∀ i ∈ [Instr.retry c who key, .trimClear c who key],
    Frame i s (· ∈ [Reg.LOOP_STAT c, Reg.LOOP_TARGET c, Reg.LOOP_TRIM c, Reg.KX_MERGED])
      (fun t => { (s.signal t).answer t with loops := t.loops })) ∧
  (∀ ub uo seen cb ties, Frame (.displayLineStart ub uo seen cb ties) s
    (fun a => a ∈ [Reg.DSP_COINCIDE, Reg.DSP_CRC_COUNT, Reg.DSP_CRC_SEEN, Reg.DSP_CRC_SENT, Reg.DSP_CRC_STAT, Reg.DSP_FRAMES, Reg.DSP_PCLK_ACT,
      Reg.DSP_STATUS, Reg.DSP_UNDER, Reg.KX_MERGED] ∨ ∃ i : Fin 21, a = 0x400D0120 + 4 * i)
    (fun t => { s.signal t with dsp := t.dsp, free := t.free })) ∧
  (∀ who, ∀ c ∈ [Instr.frameCommit who, .lineCommit who], Frame c s (· ∈ [Reg.DSP_STATUS]) (fun t => { s.answer t with regs := t.regs })) ∧
  (∀ who w, Frame (.displayEnableWrite who w) s (· ∈ [Reg.DSP_CTRL]) (fun t => { s.answer t with regs := t.regs })) ∧
  (∀ who w, Frame (.xspiCommand who w) s (· ∈ [Reg.DSP_XSPI_STAT]) (fun t => { s.answer t with regs := t.regs, dsp := t.dsp })) ∧
  (∀ rx, Frame (.xspiCommandDone rx) s (fun a => a = Reg.DSP_XSPI_STAT ∨ ∃ r ∈ s.dsp.xrun, ∃ i < r.len, a = Reg.DSP_XSPI_BUF (i / 4))
    (fun t => { s with regs := t.regs, dsp := t.dsp })) ∧
  (∀ who, Frame (.xspiStrobeTimeout who) s (· ∈ [Reg.DSP_XSPI_STAT, Reg.KX_MERGED]) (fun t => { s.signal t with dsp := t.dsp, resp := t.resp })) ∧
  (∀ who off, Frame (.xspiWindowRead who off) s (· ∈ [Reg.DSP_XSPI_STAT]) (fun t => { s with regs := t.regs, resp := t.resp, free := t.free }))

/-- What a freeze's own rows, a JTAG instruction and a lifecycle command may change; none writes memory (R609-R631). -/
def Obligations.AuditFrames : Prop := ∀ s : State,
  Frame .freezeApplied s (· ∈ [Reg.AUD_STATUS, Reg.LST_BST, Reg.RSV_STATUS]) (fun t => { s with regs := t.regs, aud := t.aud, lst := t.lst, vlt := t.vlt }) ∧
  (∀ tie, Frame (.freezeWindowExpiry tie) s (· ∈ [Reg.AUD_COINCIDE])
    (fun t => { s with regs := t.regs, aud := { s.aud with releasing := t.aud.releasing } })) ∧
  Frame .freezePinRelease s (fun _ => False) (fun t => { s with aud := { s.aud with releasing := t.aud.releasing } }) ∧
  (∀ cells seen a w code, ∀ c ∈ [Instr.tapReset, .extest cells seen, .idcode, .samplePreload cells seen, .clamp, .highz, .audStat,
      .audAccessRead a, .audAccessWrite a w, .audAccessSnapshot a, .lcResult, .bypass code],
    Frame c s (· ∈ [Reg.AUD_STATUS, Reg.LGR_STATUS, Reg.LGR_WR_CTRL])
      (fun t => { s with regs := t.regs, lgr := t.lgr, resp := t.resp, aud := { s.aud with tap := t.aud.tap } })) ∧
  Frame .audRelease s (· ∈ [Reg.AUD_STATUS, Reg.LGR_STATUS, Reg.LGR_WR_CTRL]) (fun t => { s with
      regs := t.regs, lgr := t.lgr, resp := t.resp, aud := { s.aud with tap := t.aud.tap, releasing := t.aud.releasing, held := t.aud.held } }) ∧
  (∀ pin route, Frame (.freezeRequest pin route) s (· ∈ [Reg.AUD_STATUS, Reg.AUD_EXTRA, Reg.PWR_STOP_STAT, Reg.RSV_STATUS, Reg.KX_MERGED])
    (fun t => { s.signal t with aud := t.aud, cal := t.cal, coreA := t.coreA, coreB := t.coreB, pwr := t.pwr })) ∧
  Frame .audFreeze s (· ∈ [Reg.AUD_STATUS, Reg.AUD_EXTRA, Reg.PWR_STOP_STAT, Reg.RSV_STATUS, Reg.LGR_STATUS, Reg.LGR_WR_CTRL, Reg.KX_MERGED])
    (fun t => { s.signal t with aud := t.aud, cal := t.cal, coreA := t.coreA, coreB := t.coreB, pwr := t.pwr, lgr := t.lgr, resp := t.resp }) ∧
  (∀ path slot signer payload sig state epoch who key words, ∀ c ∈ [Instr.installKey path slot signer payload sig, .revoke path slot signer sig,
      .advance path state signer sig, .raiseEpoch path epoch signer sig, .unlock path signer sig, .lock path, .nonce who key, .lcNonce,
      .lcCmd words],
    Frame c s (fun a => (∃ i : Fin 33, a = Reg.AUD_LC_BUF i) ∨ (∃ i : Fin 8, a = Reg.AUD_LC_NONCE i) ∨
        a ∈ [Reg.AUD_LC_RESULT, Reg.AUD_LC_STATE, Reg.SEAL_STATUS, Reg.AUD_STATUS, Reg.LGR_STATUS, Reg.LGR_WR_CTRL])
      (fun t => { s with
        regs := t.regs, lc := t.lc, lgr := t.lgr, resp := t.resp, free := t.free, aud := { s.aud with tap := t.aud.tap, queue := t.aud.queue } })) ∧
  Frame .nonceLapse s (fun a => ∃ i : Fin 8, a = Reg.AUD_LC_NONCE i) (fun t => { s with regs := t.regs, lc := { s.lc with nonce := t.lc.nonce } }) ∧
  (∀ okA okB, Frame (.lifecycleWriteDone okA okB) s
    (· ∈ [Reg.AUD_LC_RESULT, Reg.AUD_LC_STATE, Reg.LGR_STATUS, Reg.SEAL_KS_STAT, Reg.SEAL_STATUS]) (fun t => { s with regs := t.regs, lc := t.lc }))

/-- What a SEAL row may change; an operation's end writes its destination alone (R632-R637). -/
def Obligations.SealFrames : Prop := ∀ s : State,
  (∀ who key, ∀ c ∈ [Instr.hashStart who key, .hashData who key, .hashEnd who key, .verify who key, .encrypt who key, .decrypt who key,
      .random who key, .keyStore who key, .keyLock who key],
    Frame c s (fun a => a = Reg.SEAL_STATUS ∨ ∃ i : Fin 8, a = Reg.SEAL_KEY i)
      (fun t => { s.answer t with regs := t.regs, sealEng := t.sealEng })) ∧
  Frame .sealDeferredStart s (· ∈ [Reg.SEAL_STATUS]) (fun t => { s with regs := t.regs, sealEng := t.sealEng }) ∧
  (Frame .sealOperationDone s (fun a => (∃ i : Fin 8, a = Reg.SEAL_DIGEST i) ∨ (∃ i : Fin 4, a = Reg.SEAL_IV i) ∨
        a ∈ [Reg.SEAL_STATUS, Reg.SEAL_KS_STAT, Reg.FLC_ECC_ADDR, Reg.FLC_STATUS, Reg.FLC_COUNTS, Reg.KX_MERGED])
      (fun t => { s.signal t with
        sealEng := t.sealEng, flash := t.flash, mem := t.mem, eccBad := t.eccBad, free := t.free, lc := { s.lc with ka := t.lc.ka, kb := t.lc.kb } }) ∧
    MemoryIn .sealOperationDone s (fun a => ∃ r ∈ s.sealEng.run, r.dst ≤ a ∧ a < r.dst + 16 * ((r.len + 15) / 16))) ∧
  (∀ who key, Frame (.wipe who key) s (fun a => a = Reg.SEAL_STATUS ∨ ∃ i : Fin 8, a = Reg.SEAL_KEY i)
    (fun t => { s.answer t with regs := t.regs, sealEng := t.sealEng })) ∧
  (∀ who, Frame (.sealRngRead who) s (· ∈ [Reg.SEAL_RNG, Reg.SEAL_STATUS]) (fun t => { s with regs := t.regs, resp := t.resp, sealEng := t.sealEng })) ∧
  Frame .rngRefill s (· ∈ [Reg.SEAL_RNG]) (fun t => { s with regs := t.regs, sealEng := t.sealEng, free := t.free }) ∧
  Frame .rngFailure s (· ∈ [Reg.SEAL_STATUS, Reg.KX_MERGED]) (fun t => { s.signal t with sealEng := t.sealEng })

/-! ## The whole device -/

/-- A step is exec of the command at the front of the queue on the state with the queue's rest; an empty queue idles (the model's
choice, assumption 1); and every command, in every state, answers a next state. -/
def Obligations.StepRunsFront : Prop :=
  (∀ (s : State) (c : Instr) (rest : List Instr), s.pending = c :: rest → step s = exec c { s with pending := rest }) ∧
  (∀ s : State, s.pending = [] → step s = .next s) ∧
  (∀ (c : Instr) (s : State), ∃ t, exec c s = .next t)

/-- After reset registers and memory are in canonical form, the queue is empty, and the fields whose Reset value the tables give hold
it (R8, Tables 01-9, 05-10, 09-10, 10-17, 11-7, 19-6). -/
def Obligations.ResetState : Prop :=
  State.reset.Canonical ∧ State.reset.pending = [] ∧ State.reset.rd F.PWR_STATUS_ON = 0 ∧
  State.reset.on F.AO_FL_STATUS_READY = false ∧ State.reset.on F.AUD_STATUS_FROZEN = false ∧ State.reset.on F.KX_STATUS_ROUTING = false ∧
  State.reset.on F.HST_STATUS_LIVE = false ∧ State.reset.on F.VLT_STATUS_BUSY = false ∧ State.reset.rd F.SEQ_RAIL_EN_EN = 0 ∧
  State.reset.rd F.KBD_STATUS_FWQ = 0 ∧ State.reset.on F.LGR_STATUS_WR_OPEN = false ∧ State.reset.on F.SEAL_STATUS_BUSY = false ∧
  (∀ a, a < 0x8000000 → memGet State.reset.mem a = 0) ∧ (∀ a, 0x8000000 ≤ a → a < 0x8200000 → memGet State.reset.mem a = 0xFF)

/-- Every step keeps the registers and the memory in canonical form, from any state, and takes from the queue the command in front alone. -/
def Obligations.StepKeepsCanonical : Prop :=
  ∀ s t : State, step s = .next t → (s.Canonical → t.Canonical) ∧ t.pending = s.pending.tail

/-- A write row answers DOMAIN_OFF while its block's domain is off, LEVEL to a user where the block asks for a supervisor, and is held
for release while the island is frozen (R19, R266, R619). -/
def Obligations.WritesFindTheirBlock : Prop := ∀ (s : State) (who : Agent) (key : BitVec 8) (w : Word) (b tie : Bool) (bad : BitVec 48) (mask met24 : BitVec 24),
  (∀ (limit : BitVec 8) (index : BitVec 6) (ret : BitVec 4) (sw : BitVec 8) (src : BitVec 9), ∀ r ∈ [
      (Instr.ldr who key b bad, Reg.AO_LDR, BitVec.ofNat 32 (key.toNat * 2 ^ 24 + 2 * b2n b + 1), true),
      (.swr who key mask, Reg.AO_SWR, BitVec.ofNat 32 (key.toNat * 2 ^ 24 + mask.toNat), true),
      (.ledgerWindowOpen who key b tie, Reg.LGR_WR_CTRL, lgrCtrlWord key b true, true),
      (.ledgerWindowClose who key b, Reg.LGR_WR_CTRL, lgrCtrlWord key b false, true),
      (.ledgerWordWrite who w tie, Reg.LGR_WR_DATA, w, true),
      (.ledgerCheck who b, Reg.LGR_CHECK, BitVec.ofNat 32 (2 * b2n b + 1), true),
      (.reconcileRequest who key limit ⟨index, tie⟩, Reg.TIL_RECON,
        BitVec.ofNat 32 (key.toNat * 2 ^ 24 + limit.toNat * 2 ^ 16 + index.toNat * 2 ^ 8 + 1), true),
      (.domainSet who key mask met24, Reg.PWR_SET, BitVec.ofNat 32 (key.toNat * 2 ^ 24 + mask.toNat), true),
      (.domainClear who key mask met24, Reg.PWR_CLR, BitVec.ofNat 32 (key.toNat * 2 ^ 24 + mask.toNat), true),
      (.stopRequest who key ret limit tie, Reg.PWR_STOP,
        BitVec.ofNat 32 (key.toNat * 2 ^ 24 + ret.toNat * 2 ^ 16 + limit.toNat * 2 ^ 8 + 1), true),
      (.rsvMeasure who w, Reg.RSV_MEASURE, w, true), (.kxSwev who sw, Reg.KX_SWEV, BitVec.ofNat 32 sw.toNat, false),
      (.kxForce who key src, Reg.KX_FORCE, BitVec.ofNat 32 (key.toNat * 2 ^ 24 + src.toNat), true),
      (.calendarSet who key, Reg.CAL_CMD, BitVec.ofNat 32 (key.toNat * 2 ^ 24 + 1), true), (.calRateWrite who w, Reg.CAL_RATE, w, true),
      (.fanHeartbeat who key tie, Reg.FAN_SAFE_HB, BitVec.ofNat 32 (key.toNat * 2 ^ 24), false),
      (.force who key, Reg.FAN_SAFE_CMD, BitVec.ofNat 32 (key.toNat * 2 ^ 24 + 1), true),
      (.unforce who key, Reg.FAN_SAFE_CMD, BitVec.ofNat 32 (key.toNat * 2 ^ 24 + 2), true)],
    RowWrite r.1 s who 0 r.2.1 r.2.2.1 r.2.2.2) ∧
  (∀ (met : BitVec 4) (arg : BitVec 7), ∀ r ∈ [
      (Instr.runSet who key met, 0, 1), (.runClr who key met, 0, 2), (.runToggle who key met, 0, 3), (.clearLock who key met, 0, 4),
      (.stepReq who key arg, arg.toNat, 5), (.rearm who key arg, arg.toNat, 6), (.forceOff who key arg, arg.toNat, 7), (.allOff who key, 0, 8),
      (.condSet who key arg tie, arg.toNat, 9), (.condClr who key arg, arg.toNat, 10)],
    RowWrite r.1 s who 0 Reg.SEQ_CMD (BitVec.ofNat 32 (key.toNat * 2 ^ 24 + r.2.1 * 2 ^ 8 + r.2.2)) true) ∧
  (∀ met : BitVec 2, ∀ r ∈ [(Instr.vaultCommitRequest who ⟨w, met⟩, Reg.VLT_COMMIT, true), (.vaultDraftAppend who w, Reg.VLT_DRAFT_DATA, true),
      (.vaultDraftClear who w, Reg.VLT_DRAFT_CTL, true), (.vaultFind who w tie, Reg.VLT_FIND, false), (.daybookLog who w, Reg.VLT_LOG, false)],
    RowWrite r.1 s who domFRAM r.2.1 w r.2.2) ∧
  (∀ r ∈ [(Instr.program who key, 1), (.eraseSector who key, 2), (.eraseHalf who key, 3), (.blankCheck who key, 4)],
    RowWrite r.1 s who domFLASH Reg.FLC_CMD (BitVec.ofNat 32 (key.toNat * 2 ^ 24 + r.2 * 256 + 1)) true) ∧
  RowWrite (.flashAbort who key) s who domFLASH Reg.FLC_CMD (BitVec.ofNat 32 (key.toNat * 2 ^ 24 + 2)) true ∧
  (∀ r ∈ [(Instr.hashStart who key, 1), (.hashData who key, 2), (.hashEnd who key, 3), (.verify who key, 4), (.encrypt who key, 5),
      (.decrypt who key, 6), (.random who key, 7), (.keyStore who key, 8), (.keyLock who key, 9)],
    RowWrite r.1 s who domSEAL Reg.SEAL_CMD (BitVec.ofNat 32 (key.toNat * 2 ^ 24 + r.2 * 256 + 1)) true) ∧
  RowWrite (.wipe who key) s who domSEAL Reg.SEAL_CMD (BitVec.ofNat 32 (key.toNat * 2 ^ 24 + 2)) true ∧
  (∀ ch : Fin 8, RowWrite (.fanLearn who key ch) s who domFAN Reg.FAN_LEARN (BitVec.ofNat 32 (key.toNat * 2 ^ 24 + ch.val * 256 + 1)) true) ∧
  RowWrite (.fanLearnAbort who key) s who domFAN Reg.FAN_LEARN (BitVec.ofNat 32 (key.toNat * 2 ^ 24 + 2)) true ∧
  (∀ (teller : BitVec 7), ∀ r ∈ [(Instr.tellerResponse who .a w tie, Reg.TLR_RSP_A, w), (.tellerResponse who .b w tie, Reg.TLR_RSP_B, w),
      (.oobSend who teller, Reg.HST_OOB_CTL, oobCtl teller 2), (.oobRelease who teller, Reg.HST_OOB_CTL, oobCtl teller 1),
      (.consoleTx who w, Reg.HST_CONS_TX, w), (.kbcPut who w, Reg.HST_KBC_PUT, w), (.kbcFirmwareRelease who true w tie, Reg.HST_ECI_CMD, w),
      (.kbcFirmwareRelease who false w tie, Reg.HST_KBC_CMD, w), (.eciQueryPush who w, Reg.HST_ECI_QUERY, w), (.eciPut who w, Reg.HST_ECI_PUT, w)],
    RowWrite r.1 s who domHOST r.2.1 r.2.2 false) ∧
  (∀ r ∈ [(Instr.measure who, Reg.KBD_CMD, 1, true), (.clearKbc who, Reg.KBD_CMD, 2, true), (.clearFw who, Reg.KBD_CMD, 4, true),
      (.kbdHostcfgWrite who w, Reg.KBD_HOSTCFG, w, false)], RowWrite r.1 s who domKBD r.2.1 r.2.2.1 r.2.2.2) ∧
  (∀ (n : Fin 16) (u : Option (Fin 4)) (adv : Nat) (advs : List Nat), ∀ r ∈ [(Instr.start who ⟨n, adv, tie⟩, Reg.TC_CMD n, 1), (.stop who n adv, Reg.TC_CMD n, 2),
      (.clear who n, Reg.TC_CMD n, 4), (.timerHiWrite who n u w, tcLo n u + 4, w), (.timerLoWrite who n u ⟨w, adv⟩, tcLo n u, w),
      (.snapshot who advs, Reg.TC_SNAP, 1)], RowWrite r.1 s who domTIME r.2.1 r.2.2 false) ∧
  (∀ lists : BitVec 8,
    RowWrite (.adcTrigger who lists) s who domAREF Reg.ADC_CMD (BitVec.ofNat 32 (s.rd F.ADC_CMD_ROT_MS * 2 ^ 24 + lists.toNat)) false ∧
    RowWrite (.survey who) s who domAREF Reg.ADC_CMD (BitVec.ofNat 32 (s.rd F.ADC_CMD_ROT_MS * 2 ^ 24 + 2 ^ 9)) false) ∧
  (∀ p : Fin 6, ∀ r ∈ [(Instr.twbGo who p, Reg.TWB_CMD p, 1), (.abort who p, Reg.TWB_CMD p, 2), (.busClear who p, Reg.TWB_CMD p, 4),
      (.twbAlertWrite who p w, Reg.TWB_TGT p, w)], RowWrite r.1 s who domTWB r.2.1 r.2.2 false) ∧
  (∀ strings : BitVec 4,
    RowWrite (.clearOpen who key strings) s who domLAMPS Reg.LST_CMD (BitVec.ofNat 32 (key.toNat * 2 ^ 24 + strings.toNat)) true) ∧
  RowWrite (.bstRestart who key) s who domLAMPS Reg.LST_CMD (BitVec.ofNat 32 (key.toNat * 2 ^ 24 + 256)) true ∧
  RowWrite (.matrixSync ⟨.write who, tie⟩) s who domLAMPM Reg.LMX_CMD 1 false ∧ RowWrite (.matrixArm who) s who domLAMPM Reg.LMX_CMD 2 false ∧
  (∀ n : Fin 4, RowWrite (.chainSync n ⟨.write who, tie⟩) s who domLAMPC (Reg.LCH_CMD n) 1 false ∧
    RowWrite (.chainArm n who) s who domLAMPC (Reg.LCH_CMD n) 2 false) ∧
  (∀ c : Fin 2, RowWrite (.retry c who key) s who domLOOP (Reg.LOOP_OP c) (BitVec.ofNat 32 (key.toNat * 2 ^ 24 + 1)) true ∧
    RowWrite (.trimClear c who key) s who domLOOP (Reg.LOOP_OP c) (BitVec.ofNat 32 (key.toNat * 2 ^ 24 + 2)) true) ∧
  (∀ r ∈ [(Instr.frameCommit who, Reg.DSP_COMMIT, 1, false), (.lineCommit who, Reg.DSP_COMMIT, 2, false),
      (.displayEnableWrite who w, Reg.DSP_CTRL, w, true), (.xspiCommand who w, Reg.DSP_XSPI_CMD, w, true)],
    RowWrite r.1 s who domDISP r.2.1 r.2.2.1 r.2.2.2)

/-- While a domain is off or its island is frozen, what its hardware would do does not happen (R20, R611, R612). -/
def Obligations.StoppedIslandsDoNothing : Prop := ∀ (s : State) (tie b b2 : Bool) (k : Nat),
  (s.live domKBD = false → ∀ rows rise, ∀ c ∈ [Instr.kbdFrameStart rows k, .kbdFrameBoundary, .kbdLineMeasure rise, .kbdMeasurePeriod,
    .typematicRepeat ⟨k, tie⟩, .kbcStagingMove], Idles c s) ∧
  (s.live domTIME = false → ∀ n m, ∀ c ∈ [Instr.timerWrap n, .compareMatch n m, .capture n m b k tie, .captureTimeout n m], Idles c s) ∧
  (s.domOn domAREF = false → ∀ x raw raw2, Idles (.adcEntryDone x raw raw2 tie) s) ∧
  (s.live domAREF = false → ∀ x vz lo raws i, ∀ c ∈ [Instr.surveyPeriod, .adcPassStart, .adcPassDone x, .adcSwap,
    .reliefCalibrationDone x vz lo k, .badSliceRetry x, .surveyDone raws, .sensorFaultSet i, .sensorFaultClear i], Idles c s) ∧
  (s.live domTWB = false → ∀ p e addr wrote bs j, ∀ c ∈ [Instr.twbTransactionStart p, .twbTransactionEnd p e, .twbRetry p,
    .twbClockLowTimeout p ⟨k, bs⟩ tie, .twbTargetTimeout p tie, .twbStuckTimeout p tie b b2, .twbBusFree p tie,
    .twbTargetTransaction p addr tie wrote k b b2, .hostNotify p bs, .autoAra p b, .sensorSlotPoll j, .twbStartCondition p b tie,
    .twbStopCondition p b], Idles c s) ∧
  (s.live domFAN = false → ∀ n rpm, ∀ c ∈ [Instr.fanLoopPeriod n, .fanTachEdge n k b b2 tie, .fanTachLapse n, .fanKickEnd n, .fanStall n, .fanStallClear n,
    .fanPumpLow n, .fanPumpRecover n, .fanLearnPoint rpm, .fanAgeingSample n tie, .fanAgeingWindow n], Idles c s) ∧
  (s.live domLAMPS = false → ∀ x v vf j ties, ∀ c ∈ [Instr.lampPeriodBoundary, .headroomSample x v vf, .boostUpdate v, .lampCompensation .strings,
    .dropoutEnter x tie, .dropoutExit x tie, .shedTick ties, .lampOpen x, .lampShort x j, .boostOvp v k, .boostWeak], Idles c s) ∧
  (s.live domLAMPM = false → ∀ c ∈ [Instr.matrixFrameTimer, .matrixRowSlot, .matrixFrameEnd, .lampCompensation .matrix], Idles c s) ∧
  (s.live domLAMPC = false → ∀ n last rt, ∀ c ∈ [Instr.chainFrameTimer n, .chainFrameEnd n k last rt b, .chainRetTimeout n k last rt b tie,
    .lampCompensation .chains], Idles c s) ∧
  (s.live domLOOP = false → ∀ n, ∀ c ∈ [Instr.loopUpdate n, .complianceEnter n tie, .complianceExit n tie, .loopTrimStep n, .overSet n, .overClear n,
    .measStale n], Idles c s) ∧
  (s.live domDISP = false → ∀ seen rx who, ∀ c ∈ [Instr.displayLineStart b b2 seen tie k, .xspiCommandDone rx, .xspiStrobeTimeout who], Idles c s) ∧
  (s.live domSEAL = false → ∀ c ∈ [Instr.sealDeferredStart, .sealOperationDone, .rngRefill, .rngFailure], Idles c s) ∧
  (s.live domFRAM = false → ∀ bad okA okB, ∀ c ∈ [Instr.vaultGateOpen tie, .vaultCommitDone b bad, .vaultWaitExpired, .hwCommitRetry, .daybookAppend,
    .lifecycleWriteDone okA okB], Idles c s) ∧
  (s.live domFLASH = false → ∀ c ∈ [Instr.flashCommandDone tie, .flashScrubRead b b2], Idles c s) ∧
  (s.live domHOST = false → s.pwr.phase = .run → ∀ x, Idles (.consoleRx x) s) ∧
  (s.live domHOST = false → ∀ d, ∀ c ∈ [Instr.hostRstAck, .oobRstAck, .oobRxDeliver, .kbcConsume, .kbcOutputLoad, .kbdResetComplete, .eciConsume,
    .nvxLoadDone, .consoleByteSent, .tellerDeadline d], Idles c s) ∧
  (s.frozen 0 = true → ∀ pg n m code mv ma i, ∀ c ∈ [Instr.ledgerWindowIdle, .ledgerCheckDone, .fanSafetyPeriod, .fanHeartbeatTimeout, .ppsEdge k tie,
    .holdover, .vbatSample k, .xt32Loss, .xt32Return, .alarmMatch i, .sequencerCycle pg, .stepDelayElapsed n, .railSettled n, .pgLate n, .pgStuck n,
    .seqFallLate n, .dischargeTimeout n, .railRetryRestart n, .monitorSample m code, .pfailFall, .pfailHoldElapsed tie, .pfailRise, .pfailRecover,
    .policyApply, .reserveSample mv ma b, .reservePeriodElapsed, .reserveMeasureStart, .reserveMeasureDone k tie, .reserveMeasureTimeout],
    Idles c s)

/-- A read by the Audit chain changes no register, queue or latch: R12's promise, over every register and core-private address. -/
def Obligations.JtagReadsChangeNothing : Prop :=
  (∀ (s : State) (a : BitVec 32), 0x40000000 ≤ a.toNat → ∃ r, exec (.counterReadClear .jtag a) s = .next (s.reply r)) ∧
  (∀ (s : State) (p : Fin 6), ∀ c ∈ [Instr.kbdFifoRead .jtag, .twbAraRead .jtag p, .sealRngRead .jtag, .calNowLoRead .jtag, .calNowHiRead .jtag],
    ∃ r, exec c s = .next (s.reply r)) ∧
  (∀ (s : State) (note : BusNote), s.aud.tap.busy = true → s.aud.tap.op ≠ 2 → 0x40000000 ≤ s.aud.tap.addr →
    Gives (.audAccessDone note) s fun t => t = { s with resp := t.resp, aud := { s.aud with tap := t.aud.tap } })

/-- CAL_NOW_LO latches the high bits for the core that reads it, CAL_NOW_HI releases them, and the cores' latches are apart (R422). -/
def Obligations.CalendarReadLatch : Prop :=
  (∀ (s : State) (c : Core) (user : Bool), s.domOn 0 = true → Gives (.calNowLoRead (.core c user)) s fun t =>
    t.resp = .word (BitVec.ofNat 32 s.cal.count) ∧ t.cal.latch.find? (·.1 == c) = some (c, s.cal.count / 2 ^ 32) ∧
    (∀ d, d ≠ c → t.cal.latch.find? (·.1 == d) = s.cal.latch.find? (·.1 == d)) ∧ t.cal.count = s.cal.count) ∧
  (∀ (s : State) (c : Core) (user : Bool) (h : Nat), s.domOn 0 = true → s.cal.latch.find? (·.1 == c) = some (c, h) →
    Gives (.calNowHiRead (.core c user)) s fun t => t.resp = .word (BitVec.ofNat 32 h) ∧ t.cal.latch.find? (·.1 == c) = none ∧
      ∀ d, d ≠ c → t.cal.latch.find? (·.1 == d) = s.cal.latch.find? (·.1 == d)) ∧
  (∀ (s : State) (c : Core) (user : Bool), s.domOn 0 = true → s.cal.latch.find? (·.1 == c) = none →
    Gives (.calNowHiRead (.core c user)) s fun t => t.resp = .word (BitVec.ofNat 32 (s.cal.count / 2 ^ 32)) ∧ t.cal = s.cal) ∧
  (∀ s : State, s.domOn 0 = true →
    exec (.calNowLoRead .jtag) s = .next (s.reply (.word (BitVec.ofNat 32 s.cal.count))) ∧
    exec (.calNowHiRead .jtag) s = .next (s.reply (.word (BitVec.ofNat 32 (s.cal.count / 2 ^ 32)))))
end

