-- ==== Sys2Proof/Laws/Fields.lean ====
section
/-! SUPPORT. Bit fields of numbers and of register words: reading back a field that was written, and fields that do not meet it. -/

namespace Sys2Proof.Machine

/-- A bit of a field's value. -/
theorem testBit_bits (n hi lo i : Nat) : (bits n hi lo).testBit i = (decide (i < hi + 1 - lo) && n.testBit (lo + i)) := by
  simp [bits, Nat.testBit_mod_two_pow, Nat.testBit_shiftRight]

/-- A number with a field replaced, as its three parts. -/
theorem setBits_parts (n hi lo v : Nat) : setBits n hi lo v =
    2 ^ lo * (2 ^ (hi + 1 - lo) * (n / 2 ^ lo / 2 ^ (hi + 1 - lo)) + v % 2 ^ (hi + 1 - lo)) + n % 2 ^ lo := by
  have h1 := Nat.div_add_mod n (2 ^ lo)
  have h2 := Nat.div_add_mod (n / 2 ^ lo) (2 ^ (hi + 1 - lo))
  simp only [setBits, bits, Nat.shiftRight_eq_div_pow, Nat.shiftLeft_eq]
  generalize n % 2 ^ lo = r at *
  generalize n / 2 ^ lo % 2 ^ (hi + 1 - lo) = m at *
  generalize v % 2 ^ (hi + 1 - lo) = w
  generalize n / 2 ^ lo / 2 ^ (hi + 1 - lo) = q at *
  rw [← h2] at h1
  subst h1
  have e : 2 ^ lo * (2 ^ (hi + 1 - lo) * q + m) + r - m * 2 ^ lo = 2 ^ lo * (2 ^ (hi + 1 - lo) * q) + r := by
    rw [Nat.mul_add, Nat.mul_comm m]; omega
  rw [e, Nat.mul_add, Nat.mul_comm w]; omega

/-- A bit of a number with a field replaced. -/
theorem testBit_setBits (n hi lo v i : Nat) : (setBits n hi lo v).testBit i =
    if lo ≤ i ∧ i < lo + (hi + 1 - lo) then v.testBit (i - lo) else n.testBit i := by
  rw [setBits_parts, Nat.testBit_two_pow_mul_add _ (Nat.mod_lt _ (Nat.two_pow_pos _))]
  split
  · rename_i h
    rw [if_neg (by omega), Nat.testBit_mod_two_pow]; simp [h]
  · rename_i h
    rw [Nat.testBit_two_pow_mul_add _ (Nat.mod_lt _ (Nat.two_pow_pos _))]
    split
    · rename_i h'
      rw [if_pos (by omega), Nat.testBit_mod_two_pow]; simp [h']
    · rename_i h'
      rw [if_neg (by omega), ← Nat.shiftRight_eq_div_pow, ← Nat.shiftRight_eq_div_pow, Nat.testBit_shiftRight, Nat.testBit_shiftRight]
      congr 1; omega

/-- A field that was replaced reads as the low bits of its value. -/
theorem bits_setBits_same (n hi lo v : Nat) : bits (setBits n hi lo v) hi lo = v % 2 ^ (hi + 1 - lo) := by
  refine Nat.eq_of_testBit_eq fun i => ?_
  rw [testBit_bits, testBit_setBits, Nat.testBit_mod_two_pow]
  by_cases h : i < hi + 1 - lo
  · rw [if_pos (by omega)]; simp [h]
  · simp [h]

/-- A field apart from the one replaced keeps its value. -/
theorem bits_setBits_apart (n hi lo v hi' lo' : Nat) (h : hi < lo' ∨ hi' < lo) :
    bits (setBits n hi lo v) hi' lo' = bits n hi' lo' := by
  refine Nat.eq_of_testBit_eq fun i => ?_
  rw [testBit_bits, testBit_bits, testBit_setBits]
  by_cases h' : i < hi' + 1 - lo'
  · rw [if_neg (by omega)]
  · simp [h']

/-- A word with a field replaced is still a word. -/
theorem setBits_lt (n hi lo v : Nat) (hn : n < 2 ^ 32) (hf : hi < 32) : setBits n hi lo v < 2 ^ 32 := by
  refine Nat.lt_pow_two_of_testBit _ fun i hi' => ?_
  rw [testBit_setBits, if_neg (by omega)]
  exact Nat.testBit_lt_two_pow (lt_of_lt_of_le hn (Nat.pow_le_pow_right (by norm_num) hi'))

/-- A register word with a field replaced, as a number. -/
theorem Fld.set_toNat (f : Fld) (w : Word) (v : Nat) (hf : f.hi < 32) : (f.set w v).toNat = setBits w.toNat f.hi f.lo v := by
  rw [Fld.set, BitVec.toNat_ofNat, Nat.mod_eq_of_lt (setBits_lt _ _ _ _ w.isLt hf)]

/-- A field that was written reads as the low bits of its value. -/
theorem Fld.get_set_same (f : Fld) (w : Word) (v : Nat) (hf : f.hi < 32) : f.get (f.set w v) = v % 2 ^ (f.hi + 1 - f.lo) := by
  rw [Fld.get, Fld.set_toNat _ _ _ hf, bits_setBits_same]

/-- A field apart from the one written keeps its value. -/
theorem Fld.get_set_apart (f g : Fld) (w : Word) (v : Nat) (hf : f.hi < 32) (h : f.hi < g.lo ∨ g.hi < f.lo) :
    g.get (f.set w v) = g.get w := by
  rw [Fld.get, Fld.set_toNat _ _ _ hf, bits_setBits_apart _ _ _ _ _ _ h, Fld.get]

/-- A field's value lies below its bound. -/
theorem Fld.get_lt (f : Fld) (w : Word) : f.get w < 2 ^ (f.hi + 1 - f.lo) := Nat.mod_lt _ (Nat.two_pow_pos _)

end Sys2Proof.Machine
end

