-- ==== Sys2Proof/Laws/Memory.lean ====
section
/-! SUPPORT. The memory: reading after writing and clearing, runs of bytes, and that every operation keeps the canonical form. -/

namespace Sys2Proof.Machine

/-- Memory is sorted when its head is below the rest and the rest is sorted. -/
theorem memSorted_cons (p : Host.Cell) (t : Memory) : memSorted (p :: t) = true ↔ (∀ q ∈ t, p.1 < q.1) ∧ memSorted t = true := by
  induction t generalizing p with
  | nil => simp [memSorted]
  | cons q t ih =>
    rw [show memSorted (p :: q :: t) = (decide (p.1 < q.1) && memSorted (q :: t)) from rfl]
    simp only [Bool.and_eq_true, decide_eq_true_eq, List.forall_mem_cons]
    constructor
    · exact fun h => ⟨⟨h.1, fun r hr => h.1.trans (((ih q).1 h.2).1 r hr)⟩, h.2⟩
    · exact fun h => ⟨h.1.1, h.2⟩

/-- Sorted means pairwise rising addresses. -/
theorem memSorted_iff (m : Memory) : memSorted m = true ↔ m.Pairwise fun p q => p.1 < q.1 := by
  induction m with
  | nil => simp [memSorted]
  | cons p t ih => rw [memSorted_cons, ih, List.pairwise_cons]

/-- The canonical form, as two statements about lists. -/
theorem Memory.wf_iff (m : Memory) : Memory.wf m = true ↔ (m.Pairwise fun p q => p.1 < q.1) ∧ ∀ p ∈ m, p.2 ≠ memDefault p.1 := by
  simp [Memory.wf, memSorted_iff]

/-- The empty memory is canonical. -/
theorem Memory.wf_nil : Memory.wf [] = true := rfl

/-- The cells of a run lie in it and hold no default. -/
theorem memCells_mem (a : Nat) (b : List Byte) (p : Host.Cell) (h : p ∈ memCells a b) :
    a ≤ p.1 ∧ p.1 < a + b.length ∧ p.2 ≠ memDefault p.1 := by
  induction b generalizing a with
  | nil => simp [memCells] at h
  | cons x b ih =>
    rw [memCells] at h
    split at h
    · have := ih (a + 1) h; simp only [List.length_cons]; exact ⟨by omega, by omega, this.2.2⟩
    · rename_i hx
      rcases List.mem_cons.1 h with rfl | h
      · simp only [List.length_cons]; exact ⟨le_rfl, by omega, hx⟩
      · have := ih (a + 1) h; simp only [List.length_cons]; exact ⟨by omega, by omega, this.2.2⟩

/-- The cells of a run rise. -/
theorem memCells_sorted (a : Nat) (b : List Byte) : (memCells a b).Pairwise fun p q => p.1 < q.1 := by
  induction b generalizing a with
  | nil => simp [memCells]
  | cons x b ih =>
    rw [memCells]
    split
    · exact ih _
    · exact List.pairwise_cons.2 ⟨fun q hq => by have := memCells_mem _ _ _ hq; simp only; omega, ih _⟩

/-- Writing a run of bytes keeps the canonical form. -/
theorem memWrite_wf (m : Memory) (a : Nat) (b : List Byte) (h : Memory.wf m = true) : Memory.wf (memWrite m a b) = true := by
  rw [Memory.wf_iff] at *
  obtain ⟨hs, hn⟩ := h
  constructor
  · rw [memWrite, List.append_assoc, List.pairwise_append, List.pairwise_append]
    refine ⟨hs.filter _, ⟨memCells_sorted a b, hs.filter _, ?_⟩, ?_⟩
    · intro p hp q hq
      have := memCells_mem _ _ _ hp
      simp only [List.mem_filter, decide_eq_true_eq] at hq
      omega
    · intro p hp q hq
      simp only [List.mem_filter, decide_eq_true_eq, List.mem_append] at hp hq
      rcases hq with hq | hq
      · have := memCells_mem _ _ _ hq; omega
      · omega
  · intro p hp
    simp only [memWrite, List.mem_append, List.mem_filter] at hp
    rcases hp with (hp | hp) | hp
    · exact hn p hp.1
    · exact (memCells_mem _ _ _ hp).2.2
    · exact hn p hp.1

/-- Clearing a run of bytes keeps the canonical form. -/
theorem memClear_wf (m : Memory) (a n : Nat) (h : Memory.wf m = true) : Memory.wf (memClear m a n) = true := by
  rw [Memory.wf_iff] at *
  obtain ⟨hs, hn⟩ := h
  constructor
  · rw [memClear, List.pairwise_append]
    refine ⟨hs.filter _, hs.filter _, fun p hp q hq => ?_⟩
    simp only [List.mem_filter, decide_eq_true_eq] at hp hq
    omega
  · intro p hp
    simp only [memClear, List.mem_append, List.mem_filter] at hp
    exact hp.elim (fun h => hn p h.1) fun h => hn p h.1

/-- Removing cells keeps the canonical form. -/
theorem memFilter_wf (m : Memory) (f : Host.Cell → Bool) (h : Memory.wf m = true) : Memory.wf (m.filter f) = true := by
  rw [Memory.wf_iff] at *
  exact ⟨h.1.filter _, fun p hp => h.2 p (List.mem_of_mem_filter hp)⟩

/-- Reading a memory that is joined: a part that does not list the address is passed over. -/
theorem memGet_append (m t : Memory) (a : Nat) (h : ∀ p ∈ m, p.1 ≠ a) : memGet (m ++ t) a = memGet t a := by
  induction m with
  | nil => rfl
  | cons p m ih =>
    obtain ⟨b, w⟩ := p
    rw [List.cons_append, memGet, if_neg (h (b, w) (by simp)), ih fun q hq => h q (by simp [hq])]

/-- An address that is not listed reads as its default. -/
theorem memGet_none (m : Memory) (a : Nat) (h : ∀ p ∈ m, p.1 ≠ a) : memGet m a = memDefault a := by
  simpa [memGet] using memGet_append m [] a h

/-- The second of two parts does not matter to an address it does not list. -/
theorem memGet_append_left (m t : Memory) (a : Nat) (h : ∀ p ∈ t, p.1 ≠ a) : memGet (m ++ t) a = memGet m a := by
  induction m with
  | nil => rw [List.nil_append, memGet_none _ _ h]; rfl
  | cons p m ih => obtain ⟨b, w⟩ := p; rw [List.cons_append, memGet, memGet, ih]

/-- Cells kept by a filter that keeps an address read the same there. -/
theorem memGet_filter (m : Memory) (f : Host.Cell → Bool) (a : Nat) (h : ∀ w, f (a, w) = true) : memGet (m.filter f) a = memGet m a := by
  induction m with
  | nil => rfl
  | cons p m ih =>
    obtain ⟨b, w⟩ := p
    by_cases hb : b = a
    · subst hb; rw [List.filter_cons, if_pos (h w)]; simp [memGet]
    · rw [List.filter_cons]
      split
      · rw [memGet, memGet, if_neg hb, if_neg hb, ih]
      · rw [memGet, if_neg hb, ih]

/-- The cells of a run read as its bytes. -/
theorem memGet_memCells (a : Nat) (b : List Byte) (i : Nat) (h : i < b.length) : memGet (memCells a b) (a + i) = b.getD i 0 := by
  induction b generalizing a i with
  | nil => simp at h
  | cons x b ih =>
    rw [memCells]
    cases i with
    | zero =>
      split
      · rename_i hx
        rw [memGet_none _ _ fun p hp => by have := memCells_mem _ _ _ hp; omega]
        simp [hx]
      · simp [memGet]
    | succ i =>
      have := ih (a + 1) i (by simpa using h)
      rw [show a + (i + 1) = a + 1 + i by omega]
      split
      · simpa using this
      · rw [memGet, if_neg (by omega)]; simpa using this

/-- A byte that was written reads back. -/
theorem memGet_memWrite_in (m : Memory) (a : Nat) (b : List Byte) (i : Nat) (h : i < b.length) :
    memGet (memWrite m a b) (a + i) = b.getD i 0 := by
  rw [memWrite, List.append_assoc, memGet_append _ _ _ (fun p hp => by simp only [List.mem_filter, decide_eq_true_eq] at hp; omega),
    memGet_append_left _ _ _ (fun p hp => by simp only [List.mem_filter, decide_eq_true_eq] at hp; omega), memGet_memCells _ _ _ h]

/-- Writing a run leaves every byte outside it. -/
theorem memGet_memWrite_out (m : Memory) (a : Nat) (b : List Byte) (x : Nat) (h : x < a ∨ a + b.length ≤ x) :
    memGet (memWrite m a b) x = memGet m x := by
  rcases h with h | h
  · rw [memWrite, List.append_assoc, memGet_append_left _ _ _ (fun p hp => ?_), memGet_filter _ _ _ (fun w => by simpa using h)]
    rcases List.mem_append.1 hp with hp | hp
    · have := memCells_mem _ _ _ hp; omega
    · simp only [List.mem_filter, decide_eq_true_eq] at hp; omega
  · rw [memWrite, memGet_append _ _ _ (fun p hp => ?_), memGet_filter _ _ _ (fun w => by simpa using h)]
    rcases List.mem_append.1 hp with hp | hp
    · simp only [List.mem_filter, decide_eq_true_eq] at hp; omega
    · have := memCells_mem _ _ _ hp; omega

/-- A byte that was cleared reads as its default. -/
theorem memGet_memClear_in (m : Memory) (a n x : Nat) (h : a ≤ x ∧ x < a + n) : memGet (memClear m a n) x = memDefault x := by
  refine memGet_none _ _ fun p hp => ?_
  rcases List.mem_append.1 hp with hp | hp <;> simp only [List.mem_filter, decide_eq_true_eq] at hp <;> omega

/-- Clearing a run leaves every byte outside it. -/
theorem memGet_memClear_out (m : Memory) (a n x : Nat) (h : x < a ∨ a + n ≤ x) : memGet (memClear m a n) x = memGet m x := by
  rcases h with h | h
  · rw [memClear, memGet_append_left _ _ _ (fun p hp => by simp only [List.mem_filter, decide_eq_true_eq] at hp; omega),
      memGet_filter _ _ _ (fun w => by simpa using h)]
  · rw [memClear, memGet_append _ _ _ (fun p hp => by simp only [List.mem_filter, decide_eq_true_eq] at hp; omega),
      memGet_filter _ _ _ (fun w => by simpa using h)]

/-- A run of n bytes has n bytes. -/
@[simp] theorem memBytes_length (m : Memory) (a n : Nat) : (memBytes m a n).length = n := by
  unfold memBytes
  generalize m.filter (fun p => decide (a ≤ p.1 ∧ p.1 < a + n)) = t
  induction n generalizing a t with
  | zero => cases t <;> rfl
  | succ n ih =>
    match t with
    | [] => simp [memBytes.fill, ih]
    | (b, x) :: t => rw [memBytes.fill]; split <;> simp [ih]

/-- The bytes of a number, put together again. -/
theorem ofLe_leBytes (n v : Nat) : ofLe (leBytes n v) = v % 256 ^ n := by
  induction n generalizing v with
  | zero => simp [leBytes, ofLe, Nat.mod_one]
  | succ n ih =>
    have h : v % (256 * 256 ^ n) = v % 256 + 256 * (v / 256 % 256 ^ n) := Nat.mod_mul
    rw [leBytes, ofLe, ih, BitVec.toNat_ofNat, show 256 ^ (n + 1) = 256 * 256 ^ n from Nat.pow_succ', h]

/-- n bytes of a number are n. -/
@[simp] theorem leBytes_length (n v : Nat) : (leBytes n v).length = n := by
  induction n generalizing v with
  | zero => rfl
  | succ n ih => simp [leBytes, ih]

/-- A word that was written reads back. -/
theorem memWord_memWrite (m : Memory) (a v : Nat) : memWord (memWrite m a (leBytes 4 v)) a = v % 2 ^ 32 := by
  have h (i : Nat) (hi : i < 4) := memGet_memWrite_in m a (leBytes 4 v) i (by simpa using hi)
  have h0 := h 0 (by omega)
  rw [Nat.add_zero] at h0
  rw [memWord, h0, h 1 (by omega), h 2 (by omega), h 3 (by omega)]
  simp only [leBytes, List.getD_cons_zero, List.getD_cons_succ, BitVec.toNat_ofNat]
  omega

end Sys2Proof.Machine
end

