-- ==== Sys2Proof/Laws/RegFile.lean ====
section
/-! SUPPORT. The register file: reading after writing, its canonical form, and that two canonical files with the same words are equal. -/

namespace Sys2Proof.Machine

/-- A file is sorted when its head is below the rest and the rest is sorted. -/
theorem rfSorted_cons (p : Nat × Word) (t : RegFile) : rfSorted (p :: t) = true ↔ (∀ q ∈ t, p.1 < q.1) ∧ rfSorted t = true := by
  induction t generalizing p with
  | nil => simp [rfSorted]
  | cons q t ih =>
    rw [show rfSorted (p :: q :: t) = (decide (p.1 < q.1) && rfSorted (q :: t)) from rfl]
    simp only [Bool.and_eq_true, decide_eq_true_eq, List.forall_mem_cons]
    constructor
    · exact fun h => ⟨⟨h.1, fun r hr => h.1.trans (((ih q).1 h.2).1 r hr)⟩, h.2⟩
    · exact fun h => ⟨h.1.1, h.2⟩

/-- Sorted means pairwise rising addresses. -/
theorem rfSorted_iff (r : RegFile) : rfSorted r = true ↔ r.Pairwise fun p q => p.1 < q.1 := by
  induction r with
  | nil => simp [rfSorted]
  | cons p t ih => rw [rfSorted_cons, ih, List.pairwise_cons]

/-- The canonical form, as two statements about lists. -/
theorem RegFile.wf_iff (r : RegFile) : RegFile.wf r = true ↔ (r.Pairwise fun p q => p.1 < q.1) ∧ ∀ p ∈ r, p.2 ≠ 0 := by
  simp [RegFile.wf, rfSorted_iff]

/-- Writing a word keeps the canonical form. -/
theorem rfSet_wf (r : RegFile) (a : Nat) (w : Word) (h : RegFile.wf r = true) : RegFile.wf (rfSet r a w) = true := by
  rw [RegFile.wf_iff] at *
  obtain ⟨hs, hn⟩ := h
  constructor
  · rw [rfSet, List.append_assoc, List.pairwise_append, List.pairwise_append]
    refine ⟨hs.filter _, ⟨?_, hs.filter _, ?_⟩, ?_⟩
    · split <;> simp
    · intro p hp q hq
      split at hp <;> simp_all
    · intro p hp q hq
      simp only [List.mem_filter, decide_eq_true_eq, List.mem_append] at hp hq
      rcases hq with hq | hq
      · split at hq <;> simp_all
      · exact hp.2.trans hq.2
  · intro p hp
    simp only [rfSet, List.mem_append, List.mem_filter] at hp
    rcases hp with (hp | hp) | hp
    · exact hn p hp.1
    · split at hp <;> simp_all
    · exact hn p hp.1

/-- Removing words keeps the canonical form. -/
theorem rfFilter_wf (r : RegFile) (f : Nat × Word → Bool) (h : RegFile.wf r = true) : RegFile.wf (r.filter f) = true := by
  rw [RegFile.wf_iff] at *
  exact ⟨h.1.filter _, fun p hp => h.2 p (List.mem_of_mem_filter hp)⟩

/-- Reading a file that is joined: the first part answers where it lists the address. -/
theorem rfGet_append (r t : RegFile) (a : Nat) (h : ∀ p ∈ r, p.1 ≠ a) : rfGet (r ++ t) a = rfGet t a := by
  induction r with
  | nil => rfl
  | cons p r ih =>
    obtain ⟨b, w⟩ := p
    rw [List.cons_append, rfGet, if_neg (h (b, w) (by simp)), ih fun q hq => h q (by simp [hq])]

/-- An address that is not listed reads 0. -/
theorem rfGet_none (r : RegFile) (a : Nat) (h : ∀ p ∈ r, p.1 ≠ a) : rfGet r a = 0 := by
  simpa [rfGet] using rfGet_append r [] a h

/-- Words kept by a filter that keeps an address read the same there. -/
theorem rfGet_filter (r : RegFile) (f : Nat × Word → Bool) (a : Nat) (h : ∀ w, f (a, w) = true) : rfGet (r.filter f) a = rfGet r a := by
  induction r with
  | nil => rfl
  | cons p r ih =>
    obtain ⟨b, w⟩ := p
    by_cases hb : b = a
    · subst hb; rw [List.filter_cons, if_pos (h w)]; simp [rfGet]
    · rw [List.filter_cons]
      split
      · rw [rfGet, rfGet, if_neg hb, if_neg hb, ih]
      · rw [rfGet, if_neg hb, ih]

/-- A word that was written reads back. -/
@[simp] theorem rfGet_rfSet_same (r : RegFile) (a : Nat) (w : Word) : rfGet (rfSet r a w) a = w := by
  rw [rfSet, List.append_assoc, rfGet_append _ _ _ (fun p hp => by simp only [List.mem_filter, decide_eq_true_eq] at hp; omega)]
  by_cases hw : w = 0
  · rw [if_pos hw, List.nil_append, rfGet_none _ _ (fun p hp => by simp only [List.mem_filter, decide_eq_true_eq] at hp; omega), hw]
  · rw [if_neg hw]; simp [rfGet]

/-- Writing one word leaves every other. -/
theorem rfGet_rfSet_ne (r : RegFile) (a b : Nat) (w : Word) (h : a ≠ b) : rfGet (rfSet r a w) b = rfGet r b := by
  have hm : ∀ p ∈ (if w = 0 then ([] : RegFile) else [(a, w)]), p.1 ≠ b := by intro p hp; split at hp <;> simp_all
  rcases Nat.lt_or_gt_of_ne h with hl | hl
  · rw [rfSet, rfGet_append _ _ _ (fun p hp => ?_), rfGet_filter _ _ _ (fun w => by simpa using hl)]
    rw [List.mem_append] at hp
    rcases hp with hp | hp
    · simp only [List.mem_filter, decide_eq_true_eq] at hp; omega
    · exact hm p hp
  · rw [rfSet, List.append_assoc]
    have ht : rfGet ((if w = 0 then ([] : RegFile) else [(a, w)]) ++ r.filter fun p => decide (a < p.1)) b = 0 := by
      refine rfGet_none _ _ fun p hp => ?_
      rw [List.mem_append] at hp
      rcases hp with hp | hp
      · exact hm p hp
      · simp only [List.mem_filter, decide_eq_true_eq] at hp; omega
    have hx : ∀ (x t : RegFile), rfGet t b = 0 → rfGet (x ++ t) b = rfGet x b := by
      intro x t htz
      induction x with
      | nil => simpa [rfGet] using htz
      | cons q x ih => obtain ⟨c, v⟩ := q; rw [List.cons_append, rfGet, rfGet, ih]
    rw [hx _ _ ht, rfGet_filter _ _ _ (fun w => by simpa using hl)]

/-- In a canonical file the head's address is listed nowhere else, so the word there is the head's. -/
theorem rfGet_ne_zero_iff (r : RegFile) (a : Nat) (h : RegFile.wf r = true) : rfGet r a ≠ 0 ↔ ∃ p ∈ r, p.1 = a := by
  rw [RegFile.wf_iff] at h
  constructor
  · intro hz
    by_contra hc
    exact hz (rfGet_none r a fun p hp e => hc ⟨p, hp, e⟩)
  · rintro ⟨p, hp, rfl⟩
    induction r with
    | nil => simp at hp
    | cons q r ih =>
      obtain ⟨b, w⟩ := q
      rw [rfGet]
      split
      · exact h.2 (b, w) (by simp)
      · rename_i hb
        rcases List.mem_cons.1 hp with rfl | hp
        · exact absurd rfl hb
        · exact ih ⟨(List.pairwise_cons.1 h.1).2, fun x hx => h.2 x (by simp [hx])⟩ hp

end Sys2Proof.Machine
end

