-- ==== Sys2Proof/Laws/State.lean ====
section
/-! SUPPORT. What each small update of State leaves alone, field by field: no proof need unfold a record update. -/

namespace Sys2Proof.Machine

/-! ## setWord -/

@[simp] theorem State.setWord_pending (s : State) (a : Nat) (w : Word) : (s.setWord a w).pending = s.pending := rfl
@[simp] theorem State.setWord_resp (s : State) (a : Nat) (w : Word) : (s.setWord a w).resp = s.resp := rfl
@[simp] theorem State.setWord_free (s : State) (a : Nat) (w : Word) : (s.setWord a w).free = s.free := rfl
@[simp] theorem State.setWord_mem (s : State) (a : Nat) (w : Word) : (s.setWord a w).mem = s.mem := rfl
@[simp] theorem State.setWord_eccBad (s : State) (a : Nat) (w : Word) : (s.setWord a w).eccBad = s.eccBad := rfl
@[simp] theorem State.setWord_fl (s : State) (a : Nat) (w : Word) : (s.setWord a w).fl = s.fl := rfl
@[simp] theorem State.setWord_tills (s : State) (a : Nat) (w : Word) : (s.setWord a w).tills = s.tills := rfl
@[simp] theorem State.setWord_lgr (s : State) (a : Nat) (w : Word) : (s.setWord a w).lgr = s.lgr := rfl
@[simp] theorem State.setWord_recon (s : State) (a : Nat) (w : Word) : (s.setWord a w).recon = s.recon := rfl
@[simp] theorem State.setWord_pwr (s : State) (a : Nat) (w : Word) : (s.setWord a w).pwr = s.pwr := rfl
@[simp] theorem State.setWord_flash (s : State) (a : Nat) (w : Word) : (s.setWord a w).flash = s.flash := rfl
@[simp] theorem State.setWord_kx (s : State) (a : Nat) (w : Word) : (s.setWord a w).kx = s.kx := rfl
@[simp] theorem State.setWord_vlt (s : State) (a : Nat) (w : Word) : (s.setWord a w).vlt = s.vlt := rfl
@[simp] theorem State.setWord_cal (s : State) (a : Nat) (w : Word) : (s.setWord a w).cal = s.cal := rfl
@[simp] theorem State.setWord_aud (s : State) (a : Nat) (w : Word) : (s.setWord a w).aud = s.aud := rfl
@[simp] theorem State.setWord_seq (s : State) (a : Nat) (w : Word) : (s.setWord a w).seq = s.seq := rfl
@[simp] theorem State.setWord_coreA (s : State) (a : Nat) (w : Word) : (s.setWord a w).coreA = s.coreA := rfl
@[simp] theorem State.setWord_coreB (s : State) (a : Nat) (w : Word) : (s.setWord a w).coreB = s.coreB := rfl
@[simp] theorem State.setWord_hst (s : State) (a : Nat) (w : Word) : (s.setWord a w).hst = s.hst := rfl
@[simp] theorem State.setWord_kbd (s : State) (a : Nat) (w : Word) : (s.setWord a w).kbd = s.kbd := rfl
@[simp] theorem State.setWord_tim (s : State) (a : Nat) (w : Word) : (s.setWord a w).tim = s.tim := rfl
@[simp] theorem State.setWord_adc (s : State) (a : Nat) (w : Word) : (s.setWord a w).adc = s.adc := rfl
@[simp] theorem State.setWord_loops (s : State) (a : Nat) (w : Word) : (s.setWord a w).loops = s.loops := rfl
@[simp] theorem State.setWord_twb (s : State) (a : Nat) (w : Word) : (s.setWord a w).twb = s.twb := rfl
@[simp] theorem State.setWord_fan (s : State) (a : Nat) (w : Word) : (s.setWord a w).fan = s.fan := rfl
@[simp] theorem State.setWord_lst (s : State) (a : Nat) (w : Word) : (s.setWord a w).lst = s.lst := rfl
@[simp] theorem State.setWord_lmx (s : State) (a : Nat) (w : Word) : (s.setWord a w).lmx = s.lmx := rfl
@[simp] theorem State.setWord_lch (s : State) (a : Nat) (w : Word) : (s.setWord a w).lch = s.lch := rfl
@[simp] theorem State.setWord_dsp (s : State) (a : Nat) (w : Word) : (s.setWord a w).dsp = s.dsp := rfl
@[simp] theorem State.setWord_lc (s : State) (a : Nat) (w : Word) : (s.setWord a w).lc = s.lc := rfl
@[simp] theorem State.setWord_sealEng (s : State) (a : Nat) (w : Word) : (s.setWord a w).sealEng = s.sealEng := rfl

/-! ## wr -/

@[simp] theorem State.wr_pending (s : State) (f : Fld) (v : Nat) : (s.wr f v).pending = s.pending := rfl
@[simp] theorem State.wr_resp (s : State) (f : Fld) (v : Nat) : (s.wr f v).resp = s.resp := rfl
@[simp] theorem State.wr_free (s : State) (f : Fld) (v : Nat) : (s.wr f v).free = s.free := rfl
@[simp] theorem State.wr_mem (s : State) (f : Fld) (v : Nat) : (s.wr f v).mem = s.mem := rfl
@[simp] theorem State.wr_eccBad (s : State) (f : Fld) (v : Nat) : (s.wr f v).eccBad = s.eccBad := rfl
@[simp] theorem State.wr_fl (s : State) (f : Fld) (v : Nat) : (s.wr f v).fl = s.fl := rfl
@[simp] theorem State.wr_tills (s : State) (f : Fld) (v : Nat) : (s.wr f v).tills = s.tills := rfl
@[simp] theorem State.wr_lgr (s : State) (f : Fld) (v : Nat) : (s.wr f v).lgr = s.lgr := rfl
@[simp] theorem State.wr_recon (s : State) (f : Fld) (v : Nat) : (s.wr f v).recon = s.recon := rfl
@[simp] theorem State.wr_pwr (s : State) (f : Fld) (v : Nat) : (s.wr f v).pwr = s.pwr := rfl
@[simp] theorem State.wr_flash (s : State) (f : Fld) (v : Nat) : (s.wr f v).flash = s.flash := rfl
@[simp] theorem State.wr_kx (s : State) (f : Fld) (v : Nat) : (s.wr f v).kx = s.kx := rfl
@[simp] theorem State.wr_vlt (s : State) (f : Fld) (v : Nat) : (s.wr f v).vlt = s.vlt := rfl
@[simp] theorem State.wr_cal (s : State) (f : Fld) (v : Nat) : (s.wr f v).cal = s.cal := rfl
@[simp] theorem State.wr_aud (s : State) (f : Fld) (v : Nat) : (s.wr f v).aud = s.aud := rfl
@[simp] theorem State.wr_seq (s : State) (f : Fld) (v : Nat) : (s.wr f v).seq = s.seq := rfl
@[simp] theorem State.wr_coreA (s : State) (f : Fld) (v : Nat) : (s.wr f v).coreA = s.coreA := rfl
@[simp] theorem State.wr_coreB (s : State) (f : Fld) (v : Nat) : (s.wr f v).coreB = s.coreB := rfl
@[simp] theorem State.wr_hst (s : State) (f : Fld) (v : Nat) : (s.wr f v).hst = s.hst := rfl
@[simp] theorem State.wr_kbd (s : State) (f : Fld) (v : Nat) : (s.wr f v).kbd = s.kbd := rfl
@[simp] theorem State.wr_tim (s : State) (f : Fld) (v : Nat) : (s.wr f v).tim = s.tim := rfl
@[simp] theorem State.wr_adc (s : State) (f : Fld) (v : Nat) : (s.wr f v).adc = s.adc := rfl
@[simp] theorem State.wr_loops (s : State) (f : Fld) (v : Nat) : (s.wr f v).loops = s.loops := rfl
@[simp] theorem State.wr_twb (s : State) (f : Fld) (v : Nat) : (s.wr f v).twb = s.twb := rfl
@[simp] theorem State.wr_fan (s : State) (f : Fld) (v : Nat) : (s.wr f v).fan = s.fan := rfl
@[simp] theorem State.wr_lst (s : State) (f : Fld) (v : Nat) : (s.wr f v).lst = s.lst := rfl
@[simp] theorem State.wr_lmx (s : State) (f : Fld) (v : Nat) : (s.wr f v).lmx = s.lmx := rfl
@[simp] theorem State.wr_lch (s : State) (f : Fld) (v : Nat) : (s.wr f v).lch = s.lch := rfl
@[simp] theorem State.wr_dsp (s : State) (f : Fld) (v : Nat) : (s.wr f v).dsp = s.dsp := rfl
@[simp] theorem State.wr_lc (s : State) (f : Fld) (v : Nat) : (s.wr f v).lc = s.lc := rfl
@[simp] theorem State.wr_sealEng (s : State) (f : Fld) (v : Nat) : (s.wr f v).sealEng = s.sealEng := rfl

/-! ## reply -/

@[simp] theorem State.reply_pending (s : State) (r : Resp) : (s.reply r).pending = s.pending := rfl
@[simp] theorem State.reply_free (s : State) (r : Resp) : (s.reply r).free = s.free := rfl
@[simp] theorem State.reply_regs (s : State) (r : Resp) : (s.reply r).regs = s.regs := rfl
@[simp] theorem State.reply_mem (s : State) (r : Resp) : (s.reply r).mem = s.mem := rfl
@[simp] theorem State.reply_eccBad (s : State) (r : Resp) : (s.reply r).eccBad = s.eccBad := rfl
@[simp] theorem State.reply_fl (s : State) (r : Resp) : (s.reply r).fl = s.fl := rfl
@[simp] theorem State.reply_tills (s : State) (r : Resp) : (s.reply r).tills = s.tills := rfl
@[simp] theorem State.reply_lgr (s : State) (r : Resp) : (s.reply r).lgr = s.lgr := rfl
@[simp] theorem State.reply_recon (s : State) (r : Resp) : (s.reply r).recon = s.recon := rfl
@[simp] theorem State.reply_pwr (s : State) (r : Resp) : (s.reply r).pwr = s.pwr := rfl
@[simp] theorem State.reply_flash (s : State) (r : Resp) : (s.reply r).flash = s.flash := rfl
@[simp] theorem State.reply_kx (s : State) (r : Resp) : (s.reply r).kx = s.kx := rfl
@[simp] theorem State.reply_vlt (s : State) (r : Resp) : (s.reply r).vlt = s.vlt := rfl
@[simp] theorem State.reply_cal (s : State) (r : Resp) : (s.reply r).cal = s.cal := rfl
@[simp] theorem State.reply_aud (s : State) (r : Resp) : (s.reply r).aud = s.aud := rfl
@[simp] theorem State.reply_seq (s : State) (r : Resp) : (s.reply r).seq = s.seq := rfl
@[simp] theorem State.reply_coreA (s : State) (r : Resp) : (s.reply r).coreA = s.coreA := rfl
@[simp] theorem State.reply_coreB (s : State) (r : Resp) : (s.reply r).coreB = s.coreB := rfl
@[simp] theorem State.reply_hst (s : State) (r : Resp) : (s.reply r).hst = s.hst := rfl
@[simp] theorem State.reply_kbd (s : State) (r : Resp) : (s.reply r).kbd = s.kbd := rfl
@[simp] theorem State.reply_tim (s : State) (r : Resp) : (s.reply r).tim = s.tim := rfl
@[simp] theorem State.reply_adc (s : State) (r : Resp) : (s.reply r).adc = s.adc := rfl
@[simp] theorem State.reply_loops (s : State) (r : Resp) : (s.reply r).loops = s.loops := rfl
@[simp] theorem State.reply_twb (s : State) (r : Resp) : (s.reply r).twb = s.twb := rfl
@[simp] theorem State.reply_fan (s : State) (r : Resp) : (s.reply r).fan = s.fan := rfl
@[simp] theorem State.reply_lst (s : State) (r : Resp) : (s.reply r).lst = s.lst := rfl
@[simp] theorem State.reply_lmx (s : State) (r : Resp) : (s.reply r).lmx = s.lmx := rfl
@[simp] theorem State.reply_lch (s : State) (r : Resp) : (s.reply r).lch = s.lch := rfl
@[simp] theorem State.reply_dsp (s : State) (r : Resp) : (s.reply r).dsp = s.dsp := rfl
@[simp] theorem State.reply_lc (s : State) (r : Resp) : (s.reply r).lc = s.lc := rfl
@[simp] theorem State.reply_sealEng (s : State) (r : Resp) : (s.reply r).sealEng = s.sealEng := rfl

/-! ## store -/

@[simp] theorem State.store_pending (s : State) (a : Nat) (b : List Byte) : (s.store a b).pending = s.pending := rfl
@[simp] theorem State.store_resp (s : State) (a : Nat) (b : List Byte) : (s.store a b).resp = s.resp := rfl
@[simp] theorem State.store_free (s : State) (a : Nat) (b : List Byte) : (s.store a b).free = s.free := rfl
@[simp] theorem State.store_regs (s : State) (a : Nat) (b : List Byte) : (s.store a b).regs = s.regs := rfl
@[simp] theorem State.store_eccBad (s : State) (a : Nat) (b : List Byte) : (s.store a b).eccBad = s.eccBad := rfl
@[simp] theorem State.store_fl (s : State) (a : Nat) (b : List Byte) : (s.store a b).fl = s.fl := rfl
@[simp] theorem State.store_tills (s : State) (a : Nat) (b : List Byte) : (s.store a b).tills = s.tills := rfl
@[simp] theorem State.store_lgr (s : State) (a : Nat) (b : List Byte) : (s.store a b).lgr = s.lgr := rfl
@[simp] theorem State.store_recon (s : State) (a : Nat) (b : List Byte) : (s.store a b).recon = s.recon := rfl
@[simp] theorem State.store_pwr (s : State) (a : Nat) (b : List Byte) : (s.store a b).pwr = s.pwr := rfl
@[simp] theorem State.store_flash (s : State) (a : Nat) (b : List Byte) : (s.store a b).flash = s.flash := rfl
@[simp] theorem State.store_kx (s : State) (a : Nat) (b : List Byte) : (s.store a b).kx = s.kx := rfl
@[simp] theorem State.store_vlt (s : State) (a : Nat) (b : List Byte) : (s.store a b).vlt = s.vlt := rfl
@[simp] theorem State.store_cal (s : State) (a : Nat) (b : List Byte) : (s.store a b).cal = s.cal := rfl
@[simp] theorem State.store_aud (s : State) (a : Nat) (b : List Byte) : (s.store a b).aud = s.aud := rfl
@[simp] theorem State.store_seq (s : State) (a : Nat) (b : List Byte) : (s.store a b).seq = s.seq := rfl
@[simp] theorem State.store_coreA (s : State) (a : Nat) (b : List Byte) : (s.store a b).coreA = s.coreA := rfl
@[simp] theorem State.store_coreB (s : State) (a : Nat) (b : List Byte) : (s.store a b).coreB = s.coreB := rfl
@[simp] theorem State.store_hst (s : State) (a : Nat) (b : List Byte) : (s.store a b).hst = s.hst := rfl
@[simp] theorem State.store_kbd (s : State) (a : Nat) (b : List Byte) : (s.store a b).kbd = s.kbd := rfl
@[simp] theorem State.store_tim (s : State) (a : Nat) (b : List Byte) : (s.store a b).tim = s.tim := rfl
@[simp] theorem State.store_adc (s : State) (a : Nat) (b : List Byte) : (s.store a b).adc = s.adc := rfl
@[simp] theorem State.store_loops (s : State) (a : Nat) (b : List Byte) : (s.store a b).loops = s.loops := rfl
@[simp] theorem State.store_twb (s : State) (a : Nat) (b : List Byte) : (s.store a b).twb = s.twb := rfl
@[simp] theorem State.store_fan (s : State) (a : Nat) (b : List Byte) : (s.store a b).fan = s.fan := rfl
@[simp] theorem State.store_lst (s : State) (a : Nat) (b : List Byte) : (s.store a b).lst = s.lst := rfl
@[simp] theorem State.store_lmx (s : State) (a : Nat) (b : List Byte) : (s.store a b).lmx = s.lmx := rfl
@[simp] theorem State.store_lch (s : State) (a : Nat) (b : List Byte) : (s.store a b).lch = s.lch := rfl
@[simp] theorem State.store_dsp (s : State) (a : Nat) (b : List Byte) : (s.store a b).dsp = s.dsp := rfl
@[simp] theorem State.store_lc (s : State) (a : Nat) (b : List Byte) : (s.store a b).lc = s.lc := rfl
@[simp] theorem State.store_sealEng (s : State) (a : Nat) (b : List Byte) : (s.store a b).sealEng = s.sealEng := rfl

@[simp] theorem State.setWord_regs (s : State) (a : Nat) (w : Word) : (s.setWord a w).regs = rfSet s.regs a w := rfl
@[simp] theorem State.reply_resp (s : State) (r : Resp) : (s.reply r).resp = r := rfl
@[simp] theorem State.store_mem (s : State) (a : Nat) (b : List Byte) : (s.store a b).mem = memWrite s.mem a b := rfl

/-! ## The other field writes are wr, and busErr is reply -/

@[simp] theorem State.setOn_eq (s : State) (f : Fld) : s.setOn f = s.wr f 1 := rfl
@[simp] theorem State.clr_eq (s : State) (f : Fld) : s.clr f = s.wr f 0 := rfl
@[simp] theorem State.wrB_eq (s : State) (f : Fld) (b : Bool) : s.wrB f b = s.wr f (b2n b) := rfl
@[simp] theorem State.count_eq (s : State) (f : Fld) (k : Nat) : s.count f k = s.wr f (satAdd f.max (s.rd f) k) := rfl
@[simp] theorem State.countWrap_eq (s : State) (f : Fld) (k : Nat) : s.countWrap f k = s.wr f (s.rd f + k) := rfl
@[simp] theorem State.busErr_eq (s : State) (code : Nat) : s.busErr code = s.reply (.busError code) := rfl

/-! ## Changes of one block -/

/-- modCal changes cal alone. -/
@[simp] theorem State.modCal_others (s : State) (f : Calendar → Calendar) :
    (s.modCal f).pending = s.pending ∧ (s.modCal f).resp = s.resp ∧ (s.modCal f).free = s.free ∧ (s.modCal f).regs = s.regs ∧ (s.modCal f).mem =
    s.mem ∧ (s.modCal f).eccBad = s.eccBad ∧ (s.modCal f).fl = s.fl ∧ (s.modCal f).tills = s.tills ∧ (s.modCal f).lgr = s.lgr ∧ (s.modCal f).recon =
    s.recon ∧ (s.modCal f).pwr = s.pwr ∧ (s.modCal f).flash = s.flash ∧ (s.modCal f).kx = s.kx ∧ (s.modCal f).vlt = s.vlt ∧ (s.modCal f).aud = s.aud
    ∧ (s.modCal f).seq = s.seq ∧ (s.modCal f).coreA = s.coreA ∧ (s.modCal f).coreB = s.coreB ∧ (s.modCal f).hst = s.hst ∧ (s.modCal f).kbd = s.kbd ∧
    (s.modCal f).tim = s.tim ∧ (s.modCal f).adc = s.adc ∧ (s.modCal f).loops = s.loops ∧ (s.modCal f).twb = s.twb ∧ (s.modCal f).fan = s.fan ∧
    (s.modCal f).lst = s.lst ∧ (s.modCal f).lmx = s.lmx ∧ (s.modCal f).lch = s.lch ∧ (s.modCal f).dsp = s.dsp ∧ (s.modCal f).lc = s.lc ∧ (s.modCal
    f).sealEng = s.sealEng := by
  refine ⟨rfl, rfl, rfl, rfl, rfl, rfl, rfl, rfl, rfl, rfl, rfl, rfl, rfl, rfl, rfl, rfl, rfl, rfl, rfl, rfl, rfl, rfl, rfl, rfl, rfl, rfl, rfl, rfl, rfl, rfl, rfl⟩

/-- modFan changes fan alone. -/
@[simp] theorem State.modFan_others (s : State) (f : Cooling → Cooling) :
    (s.modFan f).pending = s.pending ∧ (s.modFan f).resp = s.resp ∧ (s.modFan f).free = s.free ∧ (s.modFan f).regs = s.regs ∧ (s.modFan f).mem =
    s.mem ∧ (s.modFan f).eccBad = s.eccBad ∧ (s.modFan f).fl = s.fl ∧ (s.modFan f).tills = s.tills ∧ (s.modFan f).lgr = s.lgr ∧ (s.modFan f).recon =
    s.recon ∧ (s.modFan f).pwr = s.pwr ∧ (s.modFan f).flash = s.flash ∧ (s.modFan f).kx = s.kx ∧ (s.modFan f).vlt = s.vlt ∧ (s.modFan f).cal = s.cal
    ∧ (s.modFan f).aud = s.aud ∧ (s.modFan f).seq = s.seq ∧ (s.modFan f).coreA = s.coreA ∧ (s.modFan f).coreB = s.coreB ∧ (s.modFan f).hst = s.hst ∧
    (s.modFan f).kbd = s.kbd ∧ (s.modFan f).tim = s.tim ∧ (s.modFan f).adc = s.adc ∧ (s.modFan f).loops = s.loops ∧ (s.modFan f).twb = s.twb ∧
    (s.modFan f).lst = s.lst ∧ (s.modFan f).lmx = s.lmx ∧ (s.modFan f).lch = s.lch ∧ (s.modFan f).dsp = s.dsp ∧ (s.modFan f).lc = s.lc ∧ (s.modFan
    f).sealEng = s.sealEng := by
  refine ⟨rfl, rfl, rfl, rfl, rfl, rfl, rfl, rfl, rfl, rfl, rfl, rfl, rfl, rfl, rfl, rfl, rfl, rfl, rfl, rfl, rfl, rfl, rfl, rfl, rfl, rfl, rfl, rfl, rfl, rfl, rfl⟩

/-- modFch changes fan alone. -/
@[simp] theorem State.modFch_others (s : State) (n : Nat) (f : FanChan → FanChan) :
    (s.modFch n f).pending = s.pending ∧ (s.modFch n f).resp = s.resp ∧ (s.modFch n f).free = s.free ∧ (s.modFch n f).regs = s.regs ∧ (s.modFch n
    f).mem = s.mem ∧ (s.modFch n f).eccBad = s.eccBad ∧ (s.modFch n f).fl = s.fl ∧ (s.modFch n f).tills = s.tills ∧ (s.modFch n f).lgr = s.lgr ∧
    (s.modFch n f).recon = s.recon ∧ (s.modFch n f).pwr = s.pwr ∧ (s.modFch n f).flash = s.flash ∧ (s.modFch n f).kx = s.kx ∧ (s.modFch n f).vlt =
    s.vlt ∧ (s.modFch n f).cal = s.cal ∧ (s.modFch n f).aud = s.aud ∧ (s.modFch n f).seq = s.seq ∧ (s.modFch n f).coreA = s.coreA ∧ (s.modFch n
    f).coreB = s.coreB ∧ (s.modFch n f).hst = s.hst ∧ (s.modFch n f).kbd = s.kbd ∧ (s.modFch n f).tim = s.tim ∧ (s.modFch n f).adc = s.adc ∧
    (s.modFch n f).loops = s.loops ∧ (s.modFch n f).twb = s.twb ∧ (s.modFch n f).lst = s.lst ∧ (s.modFch n f).lmx = s.lmx ∧ (s.modFch n f).lch =
    s.lch ∧ (s.modFch n f).dsp = s.dsp ∧ (s.modFch n f).lc = s.lc ∧ (s.modFch n f).sealEng = s.sealEng := by
  refine ⟨rfl, rfl, rfl, rfl, rfl, rfl, rfl, rfl, rfl, rfl, rfl, rfl, rfl, rfl, rfl, rfl, rfl, rfl, rfl, rfl, rfl, rfl, rfl, rfl, rfl, rfl, rfl, rfl, rfl, rfl, rfl⟩

/-- modEci changes hst alone. -/
@[simp] theorem State.modEci_others (s : State) (f : Eci → Eci) :
    (s.modEci f).pending = s.pending ∧ (s.modEci f).resp = s.resp ∧ (s.modEci f).free = s.free ∧ (s.modEci f).regs = s.regs ∧ (s.modEci f).mem =
    s.mem ∧ (s.modEci f).eccBad = s.eccBad ∧ (s.modEci f).fl = s.fl ∧ (s.modEci f).tills = s.tills ∧ (s.modEci f).lgr = s.lgr ∧ (s.modEci f).recon =
    s.recon ∧ (s.modEci f).pwr = s.pwr ∧ (s.modEci f).flash = s.flash ∧ (s.modEci f).kx = s.kx ∧ (s.modEci f).vlt = s.vlt ∧ (s.modEci f).cal = s.cal
    ∧ (s.modEci f).aud = s.aud ∧ (s.modEci f).seq = s.seq ∧ (s.modEci f).coreA = s.coreA ∧ (s.modEci f).coreB = s.coreB ∧ (s.modEci f).kbd = s.kbd ∧
    (s.modEci f).tim = s.tim ∧ (s.modEci f).adc = s.adc ∧ (s.modEci f).loops = s.loops ∧ (s.modEci f).twb = s.twb ∧ (s.modEci f).fan = s.fan ∧
    (s.modEci f).lst = s.lst ∧ (s.modEci f).lmx = s.lmx ∧ (s.modEci f).lch = s.lch ∧ (s.modEci f).dsp = s.dsp ∧ (s.modEci f).lc = s.lc ∧ (s.modEci
    f).sealEng = s.sealEng := by
  refine ⟨rfl, rfl, rfl, rfl, rfl, rfl, rfl, rfl, rfl, rfl, rfl, rfl, rfl, rfl, rfl, rfl, rfl, rfl, rfl, rfl, rfl, rfl, rfl, rfl, rfl, rfl, rfl, rfl, rfl, rfl, rfl⟩

/-- modKbc changes hst alone. -/
@[simp] theorem State.modKbc_others (s : State) (f : Kbc → Kbc) :
    (s.modKbc f).pending = s.pending ∧ (s.modKbc f).resp = s.resp ∧ (s.modKbc f).free = s.free ∧ (s.modKbc f).regs = s.regs ∧ (s.modKbc f).mem =
    s.mem ∧ (s.modKbc f).eccBad = s.eccBad ∧ (s.modKbc f).fl = s.fl ∧ (s.modKbc f).tills = s.tills ∧ (s.modKbc f).lgr = s.lgr ∧ (s.modKbc f).recon =
    s.recon ∧ (s.modKbc f).pwr = s.pwr ∧ (s.modKbc f).flash = s.flash ∧ (s.modKbc f).kx = s.kx ∧ (s.modKbc f).vlt = s.vlt ∧ (s.modKbc f).cal = s.cal
    ∧ (s.modKbc f).aud = s.aud ∧ (s.modKbc f).seq = s.seq ∧ (s.modKbc f).coreA = s.coreA ∧ (s.modKbc f).coreB = s.coreB ∧ (s.modKbc f).kbd = s.kbd ∧
    (s.modKbc f).tim = s.tim ∧ (s.modKbc f).adc = s.adc ∧ (s.modKbc f).loops = s.loops ∧ (s.modKbc f).twb = s.twb ∧ (s.modKbc f).fan = s.fan ∧
    (s.modKbc f).lst = s.lst ∧ (s.modKbc f).lmx = s.lmx ∧ (s.modKbc f).lch = s.lch ∧ (s.modKbc f).dsp = s.dsp ∧ (s.modKbc f).lc = s.lc ∧ (s.modKbc
    f).sealEng = s.sealEng := by
  refine ⟨rfl, rfl, rfl, rfl, rfl, rfl, rfl, rfl, rfl, rfl, rfl, rfl, rfl, rfl, rfl, rfl, rfl, rfl, rfl, rfl, rfl, rfl, rfl, rfl, rfl, rfl, rfl, rfl, rfl, rfl, rfl⟩

/-- modNvx changes hst alone. -/
@[simp] theorem State.modNvx_others (s : State) (f : Nvx → Nvx) :
    (s.modNvx f).pending = s.pending ∧ (s.modNvx f).resp = s.resp ∧ (s.modNvx f).free = s.free ∧ (s.modNvx f).regs = s.regs ∧ (s.modNvx f).mem =
    s.mem ∧ (s.modNvx f).eccBad = s.eccBad ∧ (s.modNvx f).fl = s.fl ∧ (s.modNvx f).tills = s.tills ∧ (s.modNvx f).lgr = s.lgr ∧ (s.modNvx f).recon =
    s.recon ∧ (s.modNvx f).pwr = s.pwr ∧ (s.modNvx f).flash = s.flash ∧ (s.modNvx f).kx = s.kx ∧ (s.modNvx f).vlt = s.vlt ∧ (s.modNvx f).cal = s.cal
    ∧ (s.modNvx f).aud = s.aud ∧ (s.modNvx f).seq = s.seq ∧ (s.modNvx f).coreA = s.coreA ∧ (s.modNvx f).coreB = s.coreB ∧ (s.modNvx f).kbd = s.kbd ∧
    (s.modNvx f).tim = s.tim ∧ (s.modNvx f).adc = s.adc ∧ (s.modNvx f).loops = s.loops ∧ (s.modNvx f).twb = s.twb ∧ (s.modNvx f).fan = s.fan ∧
    (s.modNvx f).lst = s.lst ∧ (s.modNvx f).lmx = s.lmx ∧ (s.modNvx f).lch = s.lch ∧ (s.modNvx f).dsp = s.dsp ∧ (s.modNvx f).lc = s.lc ∧ (s.modNvx
    f).sealEng = s.sealEng := by
  refine ⟨rfl, rfl, rfl, rfl, rfl, rfl, rfl, rfl, rfl, rfl, rfl, rfl, rfl, rfl, rfl, rfl, rfl, rfl, rfl, rfl, rfl, rfl, rfl, rfl, rfl, rfl, rfl, rfl, rfl, rfl, rfl⟩

/-- modKbd changes kbd alone. -/
@[simp] theorem State.modKbd_others (s : State) (f : Keyboard → Keyboard) :
    (s.modKbd f).pending = s.pending ∧ (s.modKbd f).resp = s.resp ∧ (s.modKbd f).free = s.free ∧ (s.modKbd f).regs = s.regs ∧ (s.modKbd f).mem =
    s.mem ∧ (s.modKbd f).eccBad = s.eccBad ∧ (s.modKbd f).fl = s.fl ∧ (s.modKbd f).tills = s.tills ∧ (s.modKbd f).lgr = s.lgr ∧ (s.modKbd f).recon =
    s.recon ∧ (s.modKbd f).pwr = s.pwr ∧ (s.modKbd f).flash = s.flash ∧ (s.modKbd f).kx = s.kx ∧ (s.modKbd f).vlt = s.vlt ∧ (s.modKbd f).cal = s.cal
    ∧ (s.modKbd f).aud = s.aud ∧ (s.modKbd f).seq = s.seq ∧ (s.modKbd f).coreA = s.coreA ∧ (s.modKbd f).coreB = s.coreB ∧ (s.modKbd f).hst = s.hst ∧
    (s.modKbd f).tim = s.tim ∧ (s.modKbd f).adc = s.adc ∧ (s.modKbd f).loops = s.loops ∧ (s.modKbd f).twb = s.twb ∧ (s.modKbd f).fan = s.fan ∧
    (s.modKbd f).lst = s.lst ∧ (s.modKbd f).lmx = s.lmx ∧ (s.modKbd f).lch = s.lch ∧ (s.modKbd f).dsp = s.dsp ∧ (s.modKbd f).lc = s.lc ∧ (s.modKbd
    f).sealEng = s.sealEng := by
  refine ⟨rfl, rfl, rfl, rfl, rfl, rfl, rfl, rfl, rfl, rfl, rfl, rfl, rfl, rfl, rfl, rfl, rfl, rfl, rfl, rfl, rfl, rfl, rfl, rfl, rfl, rfl, rfl, rfl, rfl, rfl, rfl⟩

/-- modLst changes lst alone. -/
@[simp] theorem State.modLst_others (s : State) (f : Strings → Strings) :
    (s.modLst f).pending = s.pending ∧ (s.modLst f).resp = s.resp ∧ (s.modLst f).free = s.free ∧ (s.modLst f).regs = s.regs ∧ (s.modLst f).mem =
    s.mem ∧ (s.modLst f).eccBad = s.eccBad ∧ (s.modLst f).fl = s.fl ∧ (s.modLst f).tills = s.tills ∧ (s.modLst f).lgr = s.lgr ∧ (s.modLst f).recon =
    s.recon ∧ (s.modLst f).pwr = s.pwr ∧ (s.modLst f).flash = s.flash ∧ (s.modLst f).kx = s.kx ∧ (s.modLst f).vlt = s.vlt ∧ (s.modLst f).cal = s.cal
    ∧ (s.modLst f).aud = s.aud ∧ (s.modLst f).seq = s.seq ∧ (s.modLst f).coreA = s.coreA ∧ (s.modLst f).coreB = s.coreB ∧ (s.modLst f).hst = s.hst ∧
    (s.modLst f).kbd = s.kbd ∧ (s.modLst f).tim = s.tim ∧ (s.modLst f).adc = s.adc ∧ (s.modLst f).loops = s.loops ∧ (s.modLst f).twb = s.twb ∧
    (s.modLst f).fan = s.fan ∧ (s.modLst f).lmx = s.lmx ∧ (s.modLst f).lch = s.lch ∧ (s.modLst f).dsp = s.dsp ∧ (s.modLst f).lc = s.lc ∧ (s.modLst
    f).sealEng = s.sealEng := by
  refine ⟨rfl, rfl, rfl, rfl, rfl, rfl, rfl, rfl, rfl, rfl, rfl, rfl, rfl, rfl, rfl, rfl, rfl, rfl, rfl, rfl, rfl, rfl, rfl, rfl, rfl, rfl, rfl, rfl, rfl, rfl, rfl⟩

/-- modStr changes lst alone. -/
@[simp] theorem State.modStr_others (s : State) (x : Nat) (f : LampString → LampString) :
    (s.modStr x f).pending = s.pending ∧ (s.modStr x f).resp = s.resp ∧ (s.modStr x f).free = s.free ∧ (s.modStr x f).regs = s.regs ∧ (s.modStr x
    f).mem = s.mem ∧ (s.modStr x f).eccBad = s.eccBad ∧ (s.modStr x f).fl = s.fl ∧ (s.modStr x f).tills = s.tills ∧ (s.modStr x f).lgr = s.lgr ∧
    (s.modStr x f).recon = s.recon ∧ (s.modStr x f).pwr = s.pwr ∧ (s.modStr x f).flash = s.flash ∧ (s.modStr x f).kx = s.kx ∧ (s.modStr x f).vlt =
    s.vlt ∧ (s.modStr x f).cal = s.cal ∧ (s.modStr x f).aud = s.aud ∧ (s.modStr x f).seq = s.seq ∧ (s.modStr x f).coreA = s.coreA ∧ (s.modStr x
    f).coreB = s.coreB ∧ (s.modStr x f).hst = s.hst ∧ (s.modStr x f).kbd = s.kbd ∧ (s.modStr x f).tim = s.tim ∧ (s.modStr x f).adc = s.adc ∧
    (s.modStr x f).loops = s.loops ∧ (s.modStr x f).twb = s.twb ∧ (s.modStr x f).fan = s.fan ∧ (s.modStr x f).lmx = s.lmx ∧ (s.modStr x f).lch =
    s.lch ∧ (s.modStr x f).dsp = s.dsp ∧ (s.modStr x f).lc = s.lc ∧ (s.modStr x f).sealEng = s.sealEng := by
  refine ⟨rfl, rfl, rfl, rfl, rfl, rfl, rfl, rfl, rfl, rfl, rfl, rfl, rfl, rfl, rfl, rfl, rfl, rfl, rfl, rfl, rfl, rfl, rfl, rfl, rfl, rfl, rfl, rfl, rfl, rfl, rfl⟩

/-- modLmx changes lmx alone. -/
@[simp] theorem State.modLmx_others (s : State) (f : Matrix → Matrix) :
    (s.modLmx f).pending = s.pending ∧ (s.modLmx f).resp = s.resp ∧ (s.modLmx f).free = s.free ∧ (s.modLmx f).regs = s.regs ∧ (s.modLmx f).mem =
    s.mem ∧ (s.modLmx f).eccBad = s.eccBad ∧ (s.modLmx f).fl = s.fl ∧ (s.modLmx f).tills = s.tills ∧ (s.modLmx f).lgr = s.lgr ∧ (s.modLmx f).recon =
    s.recon ∧ (s.modLmx f).pwr = s.pwr ∧ (s.modLmx f).flash = s.flash ∧ (s.modLmx f).kx = s.kx ∧ (s.modLmx f).vlt = s.vlt ∧ (s.modLmx f).cal = s.cal
    ∧ (s.modLmx f).aud = s.aud ∧ (s.modLmx f).seq = s.seq ∧ (s.modLmx f).coreA = s.coreA ∧ (s.modLmx f).coreB = s.coreB ∧ (s.modLmx f).hst = s.hst ∧
    (s.modLmx f).kbd = s.kbd ∧ (s.modLmx f).tim = s.tim ∧ (s.modLmx f).adc = s.adc ∧ (s.modLmx f).loops = s.loops ∧ (s.modLmx f).twb = s.twb ∧
    (s.modLmx f).fan = s.fan ∧ (s.modLmx f).lst = s.lst ∧ (s.modLmx f).lch = s.lch ∧ (s.modLmx f).dsp = s.dsp ∧ (s.modLmx f).lc = s.lc ∧ (s.modLmx
    f).sealEng = s.sealEng := by
  refine ⟨rfl, rfl, rfl, rfl, rfl, rfl, rfl, rfl, rfl, rfl, rfl, rfl, rfl, rfl, rfl, rfl, rfl, rfl, rfl, rfl, rfl, rfl, rfl, rfl, rfl, rfl, rfl, rfl, rfl, rfl, rfl⟩

/-- modChain changes lch alone. -/
@[simp] theorem State.modChain_others (s : State) (n : Nat) (f : Chain → Chain) :
    (s.modChain n f).pending = s.pending ∧ (s.modChain n f).resp = s.resp ∧ (s.modChain n f).free = s.free ∧ (s.modChain n f).regs = s.regs ∧
    (s.modChain n f).mem = s.mem ∧ (s.modChain n f).eccBad = s.eccBad ∧ (s.modChain n f).fl = s.fl ∧ (s.modChain n f).tills = s.tills ∧ (s.modChain
    n f).lgr = s.lgr ∧ (s.modChain n f).recon = s.recon ∧ (s.modChain n f).pwr = s.pwr ∧ (s.modChain n f).flash = s.flash ∧ (s.modChain n f).kx =
    s.kx ∧ (s.modChain n f).vlt = s.vlt ∧ (s.modChain n f).cal = s.cal ∧ (s.modChain n f).aud = s.aud ∧ (s.modChain n f).seq = s.seq ∧ (s.modChain n
    f).coreA = s.coreA ∧ (s.modChain n f).coreB = s.coreB ∧ (s.modChain n f).hst = s.hst ∧ (s.modChain n f).kbd = s.kbd ∧ (s.modChain n f).tim =
    s.tim ∧ (s.modChain n f).adc = s.adc ∧ (s.modChain n f).loops = s.loops ∧ (s.modChain n f).twb = s.twb ∧ (s.modChain n f).fan = s.fan ∧
    (s.modChain n f).lst = s.lst ∧ (s.modChain n f).lmx = s.lmx ∧ (s.modChain n f).dsp = s.dsp ∧ (s.modChain n f).lc = s.lc ∧ (s.modChain n
    f).sealEng = s.sealEng := by
  refine ⟨rfl, rfl, rfl, rfl, rfl, rfl, rfl, rfl, rfl, rfl, rfl, rfl, rfl, rfl, rfl, rfl, rfl, rfl, rfl, rfl, rfl, rfl, rfl, rfl, rfl, rfl, rfl, rfl, rfl, rfl, rfl⟩

/-- modLoop changes loops alone. -/
@[simp] theorem State.modLoop_others (s : State) (c : Nat) (f : LoopChan → LoopChan) :
    (s.modLoop c f).pending = s.pending ∧ (s.modLoop c f).resp = s.resp ∧ (s.modLoop c f).free = s.free ∧ (s.modLoop c f).regs = s.regs ∧ (s.modLoop
    c f).mem = s.mem ∧ (s.modLoop c f).eccBad = s.eccBad ∧ (s.modLoop c f).fl = s.fl ∧ (s.modLoop c f).tills = s.tills ∧ (s.modLoop c f).lgr = s.lgr
    ∧ (s.modLoop c f).recon = s.recon ∧ (s.modLoop c f).pwr = s.pwr ∧ (s.modLoop c f).flash = s.flash ∧ (s.modLoop c f).kx = s.kx ∧ (s.modLoop c
    f).vlt = s.vlt ∧ (s.modLoop c f).cal = s.cal ∧ (s.modLoop c f).aud = s.aud ∧ (s.modLoop c f).seq = s.seq ∧ (s.modLoop c f).coreA = s.coreA ∧
    (s.modLoop c f).coreB = s.coreB ∧ (s.modLoop c f).hst = s.hst ∧ (s.modLoop c f).kbd = s.kbd ∧ (s.modLoop c f).tim = s.tim ∧ (s.modLoop c f).adc
    = s.adc ∧ (s.modLoop c f).twb = s.twb ∧ (s.modLoop c f).fan = s.fan ∧ (s.modLoop c f).lst = s.lst ∧ (s.modLoop c f).lmx = s.lmx ∧ (s.modLoop c
    f).lch = s.lch ∧ (s.modLoop c f).dsp = s.dsp ∧ (s.modLoop c f).lc = s.lc ∧ (s.modLoop c f).sealEng = s.sealEng := by
  refine ⟨rfl, rfl, rfl, rfl, rfl, rfl, rfl, rfl, rfl, rfl, rfl, rfl, rfl, rfl, rfl, rfl, rfl, rfl, rfl, rfl, rfl, rfl, rfl, rfl, rfl, rfl, rfl, rfl, rfl, rfl, rfl⟩

/-- modAdc changes adc alone. -/
@[simp] theorem State.modAdc_others (s : State) (f : Measurement → Measurement) :
    (s.modAdc f).pending = s.pending ∧ (s.modAdc f).resp = s.resp ∧ (s.modAdc f).free = s.free ∧ (s.modAdc f).regs = s.regs ∧ (s.modAdc f).mem =
    s.mem ∧ (s.modAdc f).eccBad = s.eccBad ∧ (s.modAdc f).fl = s.fl ∧ (s.modAdc f).tills = s.tills ∧ (s.modAdc f).lgr = s.lgr ∧ (s.modAdc f).recon =
    s.recon ∧ (s.modAdc f).pwr = s.pwr ∧ (s.modAdc f).flash = s.flash ∧ (s.modAdc f).kx = s.kx ∧ (s.modAdc f).vlt = s.vlt ∧ (s.modAdc f).cal = s.cal
    ∧ (s.modAdc f).aud = s.aud ∧ (s.modAdc f).seq = s.seq ∧ (s.modAdc f).coreA = s.coreA ∧ (s.modAdc f).coreB = s.coreB ∧ (s.modAdc f).hst = s.hst ∧
    (s.modAdc f).kbd = s.kbd ∧ (s.modAdc f).tim = s.tim ∧ (s.modAdc f).loops = s.loops ∧ (s.modAdc f).twb = s.twb ∧ (s.modAdc f).fan = s.fan ∧
    (s.modAdc f).lst = s.lst ∧ (s.modAdc f).lmx = s.lmx ∧ (s.modAdc f).lch = s.lch ∧ (s.modAdc f).dsp = s.dsp ∧ (s.modAdc f).lc = s.lc ∧ (s.modAdc
    f).sealEng = s.sealEng := by
  refine ⟨rfl, rfl, rfl, rfl, rfl, rfl, rfl, rfl, rfl, rfl, rfl, rfl, rfl, rfl, rfl, rfl, rfl, rfl, rfl, rfl, rfl, rfl, rfl, rfl, rfl, rfl, rfl, rfl, rfl, rfl, rfl⟩

/-- modSlc changes adc alone. -/
@[simp] theorem State.modSlc_others (s : State) (x : Nat) (f : AdcSlice → AdcSlice) :
    (s.modSlc x f).pending = s.pending ∧ (s.modSlc x f).resp = s.resp ∧ (s.modSlc x f).free = s.free ∧ (s.modSlc x f).regs = s.regs ∧ (s.modSlc x
    f).mem = s.mem ∧ (s.modSlc x f).eccBad = s.eccBad ∧ (s.modSlc x f).fl = s.fl ∧ (s.modSlc x f).tills = s.tills ∧ (s.modSlc x f).lgr = s.lgr ∧
    (s.modSlc x f).recon = s.recon ∧ (s.modSlc x f).pwr = s.pwr ∧ (s.modSlc x f).flash = s.flash ∧ (s.modSlc x f).kx = s.kx ∧ (s.modSlc x f).vlt =
    s.vlt ∧ (s.modSlc x f).cal = s.cal ∧ (s.modSlc x f).aud = s.aud ∧ (s.modSlc x f).seq = s.seq ∧ (s.modSlc x f).coreA = s.coreA ∧ (s.modSlc x
    f).coreB = s.coreB ∧ (s.modSlc x f).hst = s.hst ∧ (s.modSlc x f).kbd = s.kbd ∧ (s.modSlc x f).tim = s.tim ∧ (s.modSlc x f).loops = s.loops ∧
    (s.modSlc x f).twb = s.twb ∧ (s.modSlc x f).fan = s.fan ∧ (s.modSlc x f).lst = s.lst ∧ (s.modSlc x f).lmx = s.lmx ∧ (s.modSlc x f).lch = s.lch ∧
    (s.modSlc x f).dsp = s.dsp ∧ (s.modSlc x f).lc = s.lc ∧ (s.modSlc x f).sealEng = s.sealEng := by
  refine ⟨rfl, rfl, rfl, rfl, rfl, rfl, rfl, rfl, rfl, rfl, rfl, rfl, rfl, rfl, rfl, rfl, rfl, rfl, rfl, rfl, rfl, rfl, rfl, rfl, rfl, rfl, rfl, rfl, rfl, rfl, rfl⟩

/-- modSensor changes adc alone. -/
@[simp] theorem State.modSensor_others (s : State) (c : Nat) (f : SensorRun → SensorRun) :
    (s.modSensor c f).pending = s.pending ∧ (s.modSensor c f).resp = s.resp ∧ (s.modSensor c f).free = s.free ∧ (s.modSensor c f).regs = s.regs ∧
    (s.modSensor c f).mem = s.mem ∧ (s.modSensor c f).eccBad = s.eccBad ∧ (s.modSensor c f).fl = s.fl ∧ (s.modSensor c f).tills = s.tills ∧
    (s.modSensor c f).lgr = s.lgr ∧ (s.modSensor c f).recon = s.recon ∧ (s.modSensor c f).pwr = s.pwr ∧ (s.modSensor c f).flash = s.flash ∧
    (s.modSensor c f).kx = s.kx ∧ (s.modSensor c f).vlt = s.vlt ∧ (s.modSensor c f).cal = s.cal ∧ (s.modSensor c f).aud = s.aud ∧ (s.modSensor c
    f).seq = s.seq ∧ (s.modSensor c f).coreA = s.coreA ∧ (s.modSensor c f).coreB = s.coreB ∧ (s.modSensor c f).hst = s.hst ∧ (s.modSensor c f).kbd =
    s.kbd ∧ (s.modSensor c f).tim = s.tim ∧ (s.modSensor c f).loops = s.loops ∧ (s.modSensor c f).twb = s.twb ∧ (s.modSensor c f).fan = s.fan ∧
    (s.modSensor c f).lst = s.lst ∧ (s.modSensor c f).lmx = s.lmx ∧ (s.modSensor c f).lch = s.lch ∧ (s.modSensor c f).dsp = s.dsp ∧ (s.modSensor c
    f).lc = s.lc ∧ (s.modSensor c f).sealEng = s.sealEng := by
  refine ⟨rfl, rfl, rfl, rfl, rfl, rfl, rfl, rfl, rfl, rfl, rfl, rfl, rfl, rfl, rfl, rfl, rfl, rfl, rfl, rfl, rfl, rfl, rfl, rfl, rfl, rfl, rfl, rfl, rfl, rfl, rfl⟩

/-- modDsp changes dsp alone. -/
@[simp] theorem State.modDsp_others (s : State) (f : Panel → Panel) :
    (s.modDsp f).pending = s.pending ∧ (s.modDsp f).resp = s.resp ∧ (s.modDsp f).free = s.free ∧ (s.modDsp f).regs = s.regs ∧ (s.modDsp f).mem =
    s.mem ∧ (s.modDsp f).eccBad = s.eccBad ∧ (s.modDsp f).fl = s.fl ∧ (s.modDsp f).tills = s.tills ∧ (s.modDsp f).lgr = s.lgr ∧ (s.modDsp f).recon =
    s.recon ∧ (s.modDsp f).pwr = s.pwr ∧ (s.modDsp f).flash = s.flash ∧ (s.modDsp f).kx = s.kx ∧ (s.modDsp f).vlt = s.vlt ∧ (s.modDsp f).cal = s.cal
    ∧ (s.modDsp f).aud = s.aud ∧ (s.modDsp f).seq = s.seq ∧ (s.modDsp f).coreA = s.coreA ∧ (s.modDsp f).coreB = s.coreB ∧ (s.modDsp f).hst = s.hst ∧
    (s.modDsp f).kbd = s.kbd ∧ (s.modDsp f).tim = s.tim ∧ (s.modDsp f).adc = s.adc ∧ (s.modDsp f).loops = s.loops ∧ (s.modDsp f).twb = s.twb ∧
    (s.modDsp f).fan = s.fan ∧ (s.modDsp f).lst = s.lst ∧ (s.modDsp f).lmx = s.lmx ∧ (s.modDsp f).lch = s.lch ∧ (s.modDsp f).lc = s.lc ∧ (s.modDsp
    f).sealEng = s.sealEng := by
  refine ⟨rfl, rfl, rfl, rfl, rfl, rfl, rfl, rfl, rfl, rfl, rfl, rfl, rfl, rfl, rfl, rfl, rfl, rfl, rfl, rfl, rfl, rfl, rfl, rfl, rfl, rfl, rfl, rfl, rfl, rfl, rfl⟩

/-- modSeal changes sealEng alone. -/
@[simp] theorem State.modSeal_others (s : State) (f : SealEngine → SealEngine) :
    (s.modSeal f).pending = s.pending ∧ (s.modSeal f).resp = s.resp ∧ (s.modSeal f).free = s.free ∧ (s.modSeal f).regs = s.regs ∧ (s.modSeal f).mem
    = s.mem ∧ (s.modSeal f).eccBad = s.eccBad ∧ (s.modSeal f).fl = s.fl ∧ (s.modSeal f).tills = s.tills ∧ (s.modSeal f).lgr = s.lgr ∧ (s.modSeal
    f).recon = s.recon ∧ (s.modSeal f).pwr = s.pwr ∧ (s.modSeal f).flash = s.flash ∧ (s.modSeal f).kx = s.kx ∧ (s.modSeal f).vlt = s.vlt ∧
    (s.modSeal f).cal = s.cal ∧ (s.modSeal f).aud = s.aud ∧ (s.modSeal f).seq = s.seq ∧ (s.modSeal f).coreA = s.coreA ∧ (s.modSeal f).coreB =
    s.coreB ∧ (s.modSeal f).hst = s.hst ∧ (s.modSeal f).kbd = s.kbd ∧ (s.modSeal f).tim = s.tim ∧ (s.modSeal f).adc = s.adc ∧ (s.modSeal f).loops =
    s.loops ∧ (s.modSeal f).twb = s.twb ∧ (s.modSeal f).fan = s.fan ∧ (s.modSeal f).lst = s.lst ∧ (s.modSeal f).lmx = s.lmx ∧ (s.modSeal f).lch =
    s.lch ∧ (s.modSeal f).dsp = s.dsp ∧ (s.modSeal f).lc = s.lc := by
  refine ⟨rfl, rfl, rfl, rfl, rfl, rfl, rfl, rfl, rfl, rfl, rfl, rfl, rfl, rfl, rfl, rfl, rfl, rfl, rfl, rfl, rfl, rfl, rfl, rfl, rfl, rfl, rfl, rfl, rfl, rfl, rfl⟩

/-- modStep changes seq alone. -/
@[simp] theorem State.modStep_others (s : State) (n : Nat) (f : StepRun → StepRun) :
    (s.modStep n f).pending = s.pending ∧ (s.modStep n f).resp = s.resp ∧ (s.modStep n f).free = s.free ∧ (s.modStep n f).regs = s.regs ∧ (s.modStep
    n f).mem = s.mem ∧ (s.modStep n f).eccBad = s.eccBad ∧ (s.modStep n f).fl = s.fl ∧ (s.modStep n f).tills = s.tills ∧ (s.modStep n f).lgr = s.lgr
    ∧ (s.modStep n f).recon = s.recon ∧ (s.modStep n f).pwr = s.pwr ∧ (s.modStep n f).flash = s.flash ∧ (s.modStep n f).kx = s.kx ∧ (s.modStep n
    f).vlt = s.vlt ∧ (s.modStep n f).cal = s.cal ∧ (s.modStep n f).aud = s.aud ∧ (s.modStep n f).coreA = s.coreA ∧ (s.modStep n f).coreB = s.coreB ∧
    (s.modStep n f).hst = s.hst ∧ (s.modStep n f).kbd = s.kbd ∧ (s.modStep n f).tim = s.tim ∧ (s.modStep n f).adc = s.adc ∧ (s.modStep n f).loops =
    s.loops ∧ (s.modStep n f).twb = s.twb ∧ (s.modStep n f).fan = s.fan ∧ (s.modStep n f).lst = s.lst ∧ (s.modStep n f).lmx = s.lmx ∧ (s.modStep n
    f).lch = s.lch ∧ (s.modStep n f).dsp = s.dsp ∧ (s.modStep n f).lc = s.lc ∧ (s.modStep n f).sealEng = s.sealEng := by
  refine ⟨rfl, rfl, rfl, rfl, rfl, rfl, rfl, rfl, rfl, rfl, rfl, rfl, rfl, rfl, rfl, rfl, rfl, rfl, rfl, rfl, rfl, rfl, rfl, rfl, rfl, rfl, rfl, rfl, rfl, rfl, rfl⟩

/-- modRail changes seq alone. -/
@[simp] theorem State.modRail_others (s : State) (r : Nat) (f : RailRun → RailRun) :
    (s.modRail r f).pending = s.pending ∧ (s.modRail r f).resp = s.resp ∧ (s.modRail r f).free = s.free ∧ (s.modRail r f).regs = s.regs ∧ (s.modRail
    r f).mem = s.mem ∧ (s.modRail r f).eccBad = s.eccBad ∧ (s.modRail r f).fl = s.fl ∧ (s.modRail r f).tills = s.tills ∧ (s.modRail r f).lgr = s.lgr
    ∧ (s.modRail r f).recon = s.recon ∧ (s.modRail r f).pwr = s.pwr ∧ (s.modRail r f).flash = s.flash ∧ (s.modRail r f).kx = s.kx ∧ (s.modRail r
    f).vlt = s.vlt ∧ (s.modRail r f).cal = s.cal ∧ (s.modRail r f).aud = s.aud ∧ (s.modRail r f).coreA = s.coreA ∧ (s.modRail r f).coreB = s.coreB ∧
    (s.modRail r f).hst = s.hst ∧ (s.modRail r f).kbd = s.kbd ∧ (s.modRail r f).tim = s.tim ∧ (s.modRail r f).adc = s.adc ∧ (s.modRail r f).loops =
    s.loops ∧ (s.modRail r f).twb = s.twb ∧ (s.modRail r f).fan = s.fan ∧ (s.modRail r f).lst = s.lst ∧ (s.modRail r f).lmx = s.lmx ∧ (s.modRail r
    f).lch = s.lch ∧ (s.modRail r f).dsp = s.dsp ∧ (s.modRail r f).lc = s.lc ∧ (s.modRail r f).sealEng = s.sealEng := by
  refine ⟨rfl, rfl, rfl, rfl, rfl, rfl, rfl, rfl, rfl, rfl, rfl, rfl, rfl, rfl, rfl, rfl, rfl, rfl, rfl, rfl, rfl, rfl, rfl, rfl, rfl, rfl, rfl, rfl, rfl, rfl, rfl⟩

/-- modTim changes tim alone. -/
@[simp] theorem State.modTim_others (s : State) (f : Timers → Timers) :
    (s.modTim f).pending = s.pending ∧ (s.modTim f).resp = s.resp ∧ (s.modTim f).free = s.free ∧ (s.modTim f).regs = s.regs ∧ (s.modTim f).mem =
    s.mem ∧ (s.modTim f).eccBad = s.eccBad ∧ (s.modTim f).fl = s.fl ∧ (s.modTim f).tills = s.tills ∧ (s.modTim f).lgr = s.lgr ∧ (s.modTim f).recon =
    s.recon ∧ (s.modTim f).pwr = s.pwr ∧ (s.modTim f).flash = s.flash ∧ (s.modTim f).kx = s.kx ∧ (s.modTim f).vlt = s.vlt ∧ (s.modTim f).cal = s.cal
    ∧ (s.modTim f).aud = s.aud ∧ (s.modTim f).seq = s.seq ∧ (s.modTim f).coreA = s.coreA ∧ (s.modTim f).coreB = s.coreB ∧ (s.modTim f).hst = s.hst ∧
    (s.modTim f).kbd = s.kbd ∧ (s.modTim f).adc = s.adc ∧ (s.modTim f).loops = s.loops ∧ (s.modTim f).twb = s.twb ∧ (s.modTim f).fan = s.fan ∧
    (s.modTim f).lst = s.lst ∧ (s.modTim f).lmx = s.lmx ∧ (s.modTim f).lch = s.lch ∧ (s.modTim f).dsp = s.dsp ∧ (s.modTim f).lc = s.lc ∧ (s.modTim
    f).sealEng = s.sealEng := by
  refine ⟨rfl, rfl, rfl, rfl, rfl, rfl, rfl, rfl, rfl, rfl, rfl, rfl, rfl, rfl, rfl, rfl, rfl, rfl, rfl, rfl, rfl, rfl, rfl, rfl, rfl, rfl, rfl, rfl, rfl, rfl, rfl⟩

/-- modChan changes tim alone. -/
@[simp] theorem State.modChan_others (s : State) (n : Nat) (f : TimerChan → TimerChan) :
    (s.modChan n f).pending = s.pending ∧ (s.modChan n f).resp = s.resp ∧ (s.modChan n f).free = s.free ∧ (s.modChan n f).regs = s.regs ∧ (s.modChan
    n f).mem = s.mem ∧ (s.modChan n f).eccBad = s.eccBad ∧ (s.modChan n f).fl = s.fl ∧ (s.modChan n f).tills = s.tills ∧ (s.modChan n f).lgr = s.lgr
    ∧ (s.modChan n f).recon = s.recon ∧ (s.modChan n f).pwr = s.pwr ∧ (s.modChan n f).flash = s.flash ∧ (s.modChan n f).kx = s.kx ∧ (s.modChan n
    f).vlt = s.vlt ∧ (s.modChan n f).cal = s.cal ∧ (s.modChan n f).aud = s.aud ∧ (s.modChan n f).seq = s.seq ∧ (s.modChan n f).coreA = s.coreA ∧
    (s.modChan n f).coreB = s.coreB ∧ (s.modChan n f).hst = s.hst ∧ (s.modChan n f).kbd = s.kbd ∧ (s.modChan n f).adc = s.adc ∧ (s.modChan n
    f).loops = s.loops ∧ (s.modChan n f).twb = s.twb ∧ (s.modChan n f).fan = s.fan ∧ (s.modChan n f).lst = s.lst ∧ (s.modChan n f).lmx = s.lmx ∧
    (s.modChan n f).lch = s.lch ∧ (s.modChan n f).dsp = s.dsp ∧ (s.modChan n f).lc = s.lc ∧ (s.modChan n f).sealEng = s.sealEng := by
  refine ⟨rfl, rfl, rfl, rfl, rfl, rfl, rfl, rfl, rfl, rfl, rfl, rfl, rfl, rfl, rfl, rfl, rfl, rfl, rfl, rfl, rfl, rfl, rfl, rfl, rfl, rfl, rfl, rfl, rfl, rfl, rfl⟩

/-- modUnit changes tim alone. -/
@[simp] theorem State.modUnit_others (s : State) (n m : Nat) (f : TimerUnit → TimerUnit) :
    (s.modUnit n m f).pending = s.pending ∧ (s.modUnit n m f).resp = s.resp ∧ (s.modUnit n m f).free = s.free ∧ (s.modUnit n m f).regs = s.regs ∧
    (s.modUnit n m f).mem = s.mem ∧ (s.modUnit n m f).eccBad = s.eccBad ∧ (s.modUnit n m f).fl = s.fl ∧ (s.modUnit n m f).tills = s.tills ∧
    (s.modUnit n m f).lgr = s.lgr ∧ (s.modUnit n m f).recon = s.recon ∧ (s.modUnit n m f).pwr = s.pwr ∧ (s.modUnit n m f).flash = s.flash ∧
    (s.modUnit n m f).kx = s.kx ∧ (s.modUnit n m f).vlt = s.vlt ∧ (s.modUnit n m f).cal = s.cal ∧ (s.modUnit n m f).aud = s.aud ∧ (s.modUnit n m
    f).seq = s.seq ∧ (s.modUnit n m f).coreA = s.coreA ∧ (s.modUnit n m f).coreB = s.coreB ∧ (s.modUnit n m f).hst = s.hst ∧ (s.modUnit n m f).kbd =
    s.kbd ∧ (s.modUnit n m f).adc = s.adc ∧ (s.modUnit n m f).loops = s.loops ∧ (s.modUnit n m f).twb = s.twb ∧ (s.modUnit n m f).fan = s.fan ∧
    (s.modUnit n m f).lst = s.lst ∧ (s.modUnit n m f).lmx = s.lmx ∧ (s.modUnit n m f).lch = s.lch ∧ (s.modUnit n m f).dsp = s.dsp ∧ (s.modUnit n m
    f).lc = s.lc ∧ (s.modUnit n m f).sealEng = s.sealEng := by
  refine ⟨rfl, rfl, rfl, rfl, rfl, rfl, rfl, rfl, rfl, rfl, rfl, rfl, rfl, rfl, rfl, rfl, rfl, rfl, rfl, rfl, rfl, rfl, rfl, rfl, rfl, rfl, rfl, rfl, rfl, rfl, rfl⟩

/-- modTw changes twb alone. -/
@[simp] theorem State.modTw_others (s : State) (p : Nat) (f : TwPort → TwPort) :
    (s.modTw p f).pending = s.pending ∧ (s.modTw p f).resp = s.resp ∧ (s.modTw p f).free = s.free ∧ (s.modTw p f).regs = s.regs ∧ (s.modTw p f).mem
    = s.mem ∧ (s.modTw p f).eccBad = s.eccBad ∧ (s.modTw p f).fl = s.fl ∧ (s.modTw p f).tills = s.tills ∧ (s.modTw p f).lgr = s.lgr ∧ (s.modTw p
    f).recon = s.recon ∧ (s.modTw p f).pwr = s.pwr ∧ (s.modTw p f).flash = s.flash ∧ (s.modTw p f).kx = s.kx ∧ (s.modTw p f).vlt = s.vlt ∧ (s.modTw
    p f).cal = s.cal ∧ (s.modTw p f).aud = s.aud ∧ (s.modTw p f).seq = s.seq ∧ (s.modTw p f).coreA = s.coreA ∧ (s.modTw p f).coreB = s.coreB ∧
    (s.modTw p f).hst = s.hst ∧ (s.modTw p f).kbd = s.kbd ∧ (s.modTw p f).tim = s.tim ∧ (s.modTw p f).adc = s.adc ∧ (s.modTw p f).loops = s.loops ∧
    (s.modTw p f).fan = s.fan ∧ (s.modTw p f).lst = s.lst ∧ (s.modTw p f).lmx = s.lmx ∧ (s.modTw p f).lch = s.lch ∧ (s.modTw p f).dsp = s.dsp ∧
    (s.modTw p f).lc = s.lc ∧ (s.modTw p f).sealEng = s.sealEng := by
  refine ⟨rfl, rfl, rfl, rfl, rfl, rfl, rfl, rfl, rfl, rfl, rfl, rfl, rfl, rfl, rfl, rfl, rfl, rfl, rfl, rfl, rfl, rfl, rfl, rfl, rfl, rfl, rfl, rfl, rfl, rfl, rfl⟩

/-- modCore changes a core alone. -/
@[simp] theorem State.modCore_others (s : State) (c : Core) (f : CoreUnit → CoreUnit) :
    (s.modCore c f).pending = s.pending ∧ (s.modCore c f).resp = s.resp ∧ (s.modCore c f).free = s.free ∧ (s.modCore c f).regs = s.regs ∧ (s.modCore
    c f).mem = s.mem ∧ (s.modCore c f).eccBad = s.eccBad ∧ (s.modCore c f).fl = s.fl ∧ (s.modCore c f).tills = s.tills ∧ (s.modCore c f).lgr = s.lgr
    ∧ (s.modCore c f).recon = s.recon ∧ (s.modCore c f).pwr = s.pwr ∧ (s.modCore c f).flash = s.flash ∧ (s.modCore c f).kx = s.kx ∧ (s.modCore c
    f).vlt = s.vlt ∧ (s.modCore c f).cal = s.cal ∧ (s.modCore c f).aud = s.aud ∧ (s.modCore c f).seq = s.seq ∧ (s.modCore c f).hst = s.hst ∧
    (s.modCore c f).kbd = s.kbd ∧ (s.modCore c f).tim = s.tim ∧ (s.modCore c f).adc = s.adc ∧ (s.modCore c f).loops = s.loops ∧ (s.modCore c f).twb
    = s.twb ∧ (s.modCore c f).fan = s.fan ∧ (s.modCore c f).lst = s.lst ∧ (s.modCore c f).lmx = s.lmx ∧ (s.modCore c f).lch = s.lch ∧ (s.modCore c
    f).dsp = s.dsp ∧ (s.modCore c f).lc = s.lc ∧ (s.modCore c f).sealEng = s.sealEng := by
  cases c <;> refine ⟨rfl, rfl, rfl, rfl, rfl, rfl, rfl, rfl, rfl, rfl, rfl, rfl, rfl, rfl, rfl, rfl, rfl, rfl, rfl, rfl, rfl, rfl, rfl, rfl, rfl, rfl, rfl, rfl, rfl, rfl⟩

/-- A core that was changed. -/
@[simp] theorem State.modCore_same (s : State) (c : Core) (f : CoreUnit → CoreUnit) : (s.modCore c f).core c = f (s.core c) := by
  cases c <;> rfl

/-- The other core. -/
theorem State.modCore_ne (s : State) (c d : Core) (f : CoreUnit → CoreUnit) (h : d ≠ c) : (s.modCore c f).core d = s.core d := by
  cases c <;> cases d <;> simp_all <;> rfl

end Sys2Proof.Machine
end

