-- ==== Sys2Proof/Laws/Ops.lean ====
section
/-! SUPPORT. What each shared operation can do, said once: field reads after field writes, writes that reach a block, sources raised at an
island, free values, and that each of them keeps registers and memory canonical. -/

namespace Sys2Proof.Machine

/-! ## Register words and fields -/

@[simp] theorem State.word_setWord_same (s : State) (a : Nat) (w : Word) : (s.setWord a w).word a = w := rfGet_rfSet_same _ _ _

theorem State.word_setWord_ne (s : State) (a b : Nat) (w : Word) (h : a ≠ b) : (s.setWord a w).word b = s.word b := rfGet_rfSet_ne _ _ _ _ h

@[simp] theorem State.word_wr_same (s : State) (f : Fld) (v : Nat) : (s.wr f v).word f.reg = f.set (s.word f.reg) v :=
  State.word_setWord_same _ _ _

theorem State.word_wr_ne (s : State) (f : Fld) (v a : Nat) (h : f.reg ≠ a) : (s.wr f v).word a = s.word a := State.word_setWord_ne _ _ _ _ h

@[simp] theorem State.word_reply (s : State) (r : Resp) (a : Nat) : (s.reply r).word a = s.word a := rfl

@[simp] theorem State.word_store (s : State) (x : Nat) (b : List Byte) (a : Nat) : (s.store x b).word a = s.word a := rfl

/-- A field that was written reads as the low bits of its value. -/
theorem State.rd_wr_same (s : State) (f : Fld) (v : Nat) (hf : f.hi < 32) : (s.wr f v).rd f = v % 2 ^ (f.hi + 1 - f.lo) := by
  rw [State.rd, State.word_wr_same, Fld.get_set_same _ _ _ hf]

/-- A field of another register keeps its value. -/
theorem State.rd_wr_ne (s : State) (f g : Fld) (v : Nat) (h : f.reg ≠ g.reg) : (s.wr f v).rd g = s.rd g := by
  rw [State.rd, State.word_wr_ne _ _ _ _ h, State.rd]

/-- A field of the same register that lies apart keeps its value. -/
theorem State.rd_wr_apart (s : State) (f g : Fld) (v : Nat) (hr : f.reg = g.reg) (hf : f.hi < 32) (h : f.hi < g.lo ∨ g.hi < f.lo) :
    (s.wr f v).rd g = s.rd g := by
  rw [State.rd, ← hr, State.word_wr_same, Fld.get_set_apart _ _ _ _ hf h, State.rd, hr]

/-- A field that does not meet the written one, in this register or another, keeps its value. -/
theorem State.rd_wr_other (s : State) (f g : Fld) (v : Nat) (hf : f.hi < 32) (h : f.reg ≠ g.reg ∨ f.hi < g.lo ∨ g.hi < f.lo) :
    (s.wr f v).rd g = s.rd g := by
  by_cases hr : f.reg = g.reg
  · exact s.rd_wr_apart f g v hr hf (h.resolve_left fun h => h hr)
  · exact s.rd_wr_ne f g v hr

/-- The same for a field read as a truth value. -/
theorem State.on_wr_other (s : State) (f g : Fld) (v : Nat) (hf : f.hi < 32) (h : f.reg ≠ g.reg ∨ f.hi < g.lo ∨ g.hi < f.lo) :
    (s.wr f v).on g = s.on g := by rw [State.on, s.rd_wr_other f g v hf h, State.on]

/-- A one-bit field that was written with a truth value reads as that value. -/
theorem State.on_wrB_same (s : State) (f : Fld) (b : Bool) (hf : f.hi < 32) (h : f.lo = f.hi) : (s.wr f (b2n b)).on f = b := by
  rw [State.on, s.rd_wr_same f _ hf, h, show f.hi + 1 - f.hi = 1 by omega]
  cases b <;> rfl

/-- Whether a domain is on or frozen is told by two words. -/
theorem State.domOn_congr (s t : State) (d : Nat) (h : t.word Reg.PWR_STATUS = s.word Reg.PWR_STATUS) : t.domOn d = s.domOn d := by
  rw [State.domOn, State.domOn, State.rd, State.rd, show F.PWR_STATUS_ON.reg = Reg.PWR_STATUS from rfl, h]

theorem State.frozen_congr (s t : State) (d : Nat) (h : t.word Reg.AUD_STATUS = s.word Reg.AUD_STATUS) : t.frozen d = s.frozen d := by
  have e (f : Fld) (hf : f.reg = Reg.AUD_STATUS) : t.rd f = s.rd f := by rw [State.rd, State.rd, hf, h]
  simp only [State.frozen, State.on, e F.AUD_STATUS_FROZEN rfl, e F.AUD_STATUS_EXEMPT rfl]

@[simp] theorem State.domOn_reply (s : State) (r : Resp) (d : Nat) : (s.reply r).domOn d = s.domOn d := rfl
@[simp] theorem State.frozen_reply (s : State) (r : Resp) (d : Nat) : (s.reply r).frozen d = s.frozen d := rfl
@[simp] theorem State.live_reply (s : State) (r : Resp) (d : Nat) : (s.reply r).live d = s.live d := rfl
@[simp] theorem State.rd_reply (s : State) (r : Resp) (f : Fld) : (s.reply r).rd f = s.rd f := rfl
@[simp] theorem State.on_reply (s : State) (r : Resp) (f : Fld) : (s.reply r).on f = s.on f := rfl

/-- Live is on and not frozen. -/
theorem State.live_iff (s : State) (d : Nat) : s.live d = true ↔ s.domOn d = true ∧ s.frozen d = false := by
  simp [State.live]

/-! ## Writes that reach a block -/

/-- A block whose domain is off answers DOMAIN_OFF (R19). -/
theorem State.access_off (s : State) (who : Agent) (d a : Nat) (w : Word) (lvl : Bool) (act : State → State) (h : s.domOn d = false) :
    s.access who d a w lvl act = s.busErr busDomainOff := by rw [State.access, h]; rfl

/-- A user is refused where the block asks for a supervisor (R266). -/
theorem State.access_level (s : State) (who : Agent) (d a : Nat) (w : Word) (act : State → State) (h : s.domOn d = true)
    (hu : who.user = true) : s.access who d a w true act = s.busErr busLevel := by rw [State.access, h, hu]; rfl

/-- A block that is on and not frozen takes the write. -/
theorem State.access_open (s : State) (who : Agent) (d a : Nat) (w : Word) (lvl : Bool) (act : State → State) (h : s.Open d)
    (hl : (lvl && who.user) = false) : s.access who d a w lvl act = act (s.reply .none) := by
  rw [State.access, h.1, h.2, hl]; rfl

/-- The same for a write at supervisor level. -/
theorem State.access_takes (s : State) (who : Agent) (d a : Nat) (w : Word) (lvl : Bool) (act : State → State) (h : s.Takes who d) :
    s.access who d a w lvl act = act (s.reply .none) := s.access_open who d a w lvl act ⟨h.1, h.2.1⟩ (by rw [h.2.2, Bool.and_false])

/-- A frozen block holds the write while the queue has a place (R619). -/
theorem State.access_held (s : State) (who : Agent) (d a : Nat) (w : Word) (lvl : Bool) (act : State → State) (h : s.domOn d = true)
    (hl : (lvl && who.user) = false) (hf : s.frozen d = true) (hq : s.aud.queue.length < 16) :
    s.access who d a w lvl act = { s with resp := .none, aud := { s.aud with queue := s.aud.queue ++ [(a, w)] } } := by
  rw [State.access, h, hl, hf, if_pos hq]; rfl

/-- All that a write can come to: a bus error, a place in the queue, or the block's action. -/
theorem State.access_cases (s : State) (who : Agent) (d a : Nat) (w : Word) (lvl : Bool) (act : State → State) :
    (∃ c, s.access who d a w lvl act = s.busErr c) ∨
    s.access who d a w lvl act = { s with resp := .none, aud := { s.aud with queue := s.aud.queue ++ [(a, w)] } } ∨
    (s.Open d ∧ (lvl && who.user) = false ∧ s.access who d a w lvl act = act (s.reply .none)) := by
  rw [State.access]
  split
  · exact .inl ⟨_, rfl⟩
  · split
    · exact .inl ⟨_, rfl⟩
    · split
      · split
        · exact .inr (.inl rfl)
        · exact .inl ⟨_, rfl⟩
      · rename_i h1 h2 h3
        exact .inr (.inr ⟨⟨by simpa using h1, by simpa using h3⟩, by simpa using h2, rfl⟩)

/-- What holds of the state, of every bus error, of every held write and of what the action gives holds of a write. -/
theorem State.access_ind (P : State → Prop) (s : State) (who : Agent) (d a : Nat) (w : Word) (lvl : Bool) (act : State → State)
    (hr : ∀ r, P (s.reply r)) (hq : ∀ q, P { s with resp := .none, aud := { s.aud with queue := q } })
    (ha : P (s.reply .none) → P (act (s.reply .none))) : P (s.access who d a w lvl act) := by
  rcases s.access_cases who d a w lvl act with ⟨c, h⟩ | h | ⟨_, _, h⟩ <;> rw [h]
  · exact hr _
  · exact hq _
  · exact ha (hr _)

/-! ## Sources at their islands (R318, R324) -/

/-- Raising a source changes the merge count and the pulse latches alone. -/
theorem State.raise_frame (s : State) (ev : Nat) :
    s.raise ev = { s with regs := (s.raise ev).regs, kx := { s.kx with pulses := (s.raise ev).kx.pulses } } := by
  rw [State.raise]
  split
  · rfl
  · split <;> rfl

/-- Raising a source writes no register but KX_MERGED. -/
theorem State.word_raise (s : State) (ev a : Nat) (h : a ≠ Reg.KX_MERGED) : (s.raise ev).word a = s.word a := by
  rw [State.raise]
  split
  · rfl
  · split
    · exact s.word_wr_ne _ _ _ h.symm
    · rfl

/-- A pulse source of a running domain has a pulse in its latch once it is raised. -/
theorem State.raise_pulses (s : State) (ev : Nat) (hd : s.domOn (sourceDomain ev) = true) (hr : s.on F.KX_STATUS_ROUTING = true) :
    ev ∈ (s.raise ev).kx.pulses := by
  rw [State.raise, hd, hr]
  simp only [Bool.not_true, Bool.or_self, Bool.false_eq_true, if_false]
  split
  · rename_i h; simpa using h
  · simp

/-- A level source changes the merge count and the levels alone. -/
theorem State.level_frame (s : State) (ev : Nat) (v : Bool) :
    s.level ev v = { s with regs := (s.level ev v).regs, kx := { s.kx with levels := (s.level ev v).kx.levels } } := by
  rw [State.level]
  split
  · rfl
  · dsimp only
    split <;> rfl

/-- A level source writes no register but KX_MERGED. -/
theorem State.word_level (s : State) (ev : Nat) (v : Bool) (a : Nat) (h : a ≠ Reg.KX_MERGED) : (s.level ev v).word a = s.word a := by
  rw [State.level]
  split
  · rfl
  · dsimp only
    split
    · exact State.word_wr_ne _ _ _ _ h.symm
    · rfl

/-- A level source stands at the level it was given. -/
theorem State.level_levels (s : State) (ev : Nat) (v : Bool) : (s.level ev v).kx.levels.contains ev = v := by
  have h : (if v then ev :: s.kx.levels else s.kx.levels.filter (· != ev)).contains ev = v := by
    cases v <;> simp
  rw [State.level]
  split
  · rename_i e; simpa using e
  · dsimp only
    split <;> exact h

/-! ## Free values -/

/-- A free value lies below its bound. -/
theorem State.freeBelow_lt (s : State) (n : Nat) (h : 0 < n) : (s.freeBelow n).1 < n := Nat.mod_lt _ h

/-- Taking a free value counts it and changes nothing else. -/
@[simp] theorem State.freeBelow_state (s : State) (n : Nat) : (s.freeBelow n).2 = { s with free := s.free + 1 } := rfl

/-- A free rounding is one of the two neighbours. -/
theorem State.roundFree_near (s : State) (num : Int) (den : Nat) :
    (s.roundFree num den).1 = num / (den : Int) ∨ (s.roundFree num den).1 = num / (den : Int) + 1 := by
  rw [State.roundFree]
  split
  · exact .inl rfl
  · have h := s.freeBelow_lt 2 (by norm_num)
    dsimp only
    omega

/-- An exact quotient is not rounded. -/
theorem State.roundFree_exact (s : State) (num : Int) (den : Nat) (h : num % (den : Int) = 0) :
    s.roundFree num den = (num / (den : Int), s) := by rw [State.roundFree, if_pos h]

/-- Rounding counts at most one free value and changes nothing else. -/
theorem State.roundFree_frame (s : State) (num : Int) (den : Nat) :
    (s.roundFree num den).2 = { s with free := (s.roundFree num den).2.free } := by
  rw [State.roundFree]
  split <;> rfl

/-! ## The canonical form -/

theorem State.canonical_congr (s t : State) (h : s.Canonical) (hr : t.regs = s.regs) (hm : t.mem = s.mem) : t.Canonical := by
  rw [State.Canonical, hr, hm]; exact h

theorem State.setWord_canonical (s : State) (a : Nat) (w : Word) (h : s.Canonical) : (s.setWord a w).Canonical := ⟨rfSet_wf _ _ _ h.1, h.2⟩

theorem State.wr_canonical (s : State) (f : Fld) (v : Nat) (h : s.Canonical) : (s.wr f v).Canonical := s.setWord_canonical _ _ h

theorem State.store_canonical (s : State) (a : Nat) (b : List Byte) (h : s.Canonical) : (s.store a b).Canonical := ⟨h.1, memWrite_wf _ _ _ h.2⟩

theorem State.raise_canonical (s : State) (ev : Nat) (h : s.Canonical) : (s.raise ev).Canonical := by
  rw [State.raise]
  split
  · exact h
  · split
    · exact s.wr_canonical _ _ h
    · exact h

theorem State.level_canonical (s : State) (ev : Nat) (v : Bool) (h : s.Canonical) : (s.level ev v).Canonical := by
  rw [State.level]
  split
  · exact h
  · dsimp only
    split
    · exact State.wr_canonical _ _ _ h
    · exact h

theorem State.access_canonical (s : State) (who : Agent) (d a : Nat) (w : Word) (lvl : Bool) (act : State → State) (h : s.Canonical)
    (ha : (act (s.reply .none)).Canonical) : (s.access who d a w lvl act).Canonical :=
  State.access_ind State.Canonical s who d a w lvl act (fun _ => h) (fun _ => h) fun _ => ha

/-- A run over a list keeps what each of its steps keeps. -/
theorem foldl_keeps {α : Type} (P : State → Prop) (f : State → α → State) (l : List α) (s : State) (h : P s)
    (hf : ∀ s x, P s → P (f s x)) : P (l.foldl f s) := by
  induction l generalizing s with
  | nil => exact h
  | cons x l ih => exact ih _ (hf _ _ h)

/-! ## Memory through the state -/

/-- A byte outside a stored run reads as before. -/
theorem State.memGet_store_out (s : State) (a : Nat) (b : List Byte) (x : Nat) (h : x < a ∨ a + b.length ≤ x) :
    memGet (s.store a b).mem x = memGet s.mem x := memGet_memWrite_out _ _ _ _ h

/-- A word that was stored is held. -/
theorem State.holdsWord_store (s : State) (a : Nat) (w : Word) : (s.store a (leBytes 4 w.toNat)).HoldsWord a w := by
  rw [State.HoldsWord, State.store_mem, memWord_memWrite, Nat.mod_eq_of_lt w.isLt]

end Sys2Proof.Machine
end

