-- ==== Sys2Proof/Tests/Slice0.lean ====
section
/-! SUPPORT. Tests: ill-formed commands, figures of the spec's worked examples, and a state and operands that meet the hypotheses of each
clause of each statement. -/

set_option linter.unusedVariables false
set_option Elab.async false

namespace Sys2Proof.Tests

open Sys2Proof Sys2Proof.Machine

/-- The state with these fields written. -/
def put (s : State) (l : List (Fld × Nat)) : State := l.foldl (fun s p => s.wr p.1 p.2) s

/-- A device that runs from store A: every domain is on, the Clearing house routes and PFAIL_N is high. -/
def run : State :=
  put { State.reset with regs := [], kx := {}, fl := { State.reset.fl with vinValid := true, runStore := some 0 } }
    [(F.PWR_STATUS_ON, 0xFFFFFF), (F.AO_FL_STATUS_READY, 1), (F.KX_STATUS_ROUTING, 1), (F.SEQ_STATUS_PFAIL_PIN, 1),
      (F.HST_STATUS_LIVE, 1)]

/-- The section of a till with index 0. -/
def sec (code : Nat) (body : List Byte) : SecTill := ⟨0, code, 0, body, 0, true⟩

/-- A running Sequencer with rail 0, whose power-good comes from src, and step 0, whose action is act, in a phase; rail 0 and step 0 are on. -/
def graph (src act : Byte) (p : StepPhase) : State :=
  { put run [(F.SEQ_ACTIVE_LO_ACTIVE, 1), (F.SEQ_RAIL_EN_EN, 1)] with
    tills := [sec 0x010 [1, 1, 0, 0, 0, src, 0, 0, 0, 0, 1, 0, 0, act, 0xFF, 0xFF, 0xFF, 0, 0, 0]]
    seq := { State.reset.seq with running := true, steps := [{ num := 0, phase := p }] } }

/-- The host link with one teller. -/
def host (e : List Byte) : State := { run with tills := [sec 0x030 ([1, 0, 0, 0] ++ e)] }

/-- A KBC teller at ports 0x60 and 0x64. -/
def kbc : State := host [1, 1, 0, 1, 0x60, 0, 0x64, 0, 1, 3, 1, 0, 0, 0, 64, 0]

/-- An ECI teller at ports 0x62 and 0x66. -/
def eci : State := host [2, 2, 0, 1, 0x62, 0, 0x66, 0, 1, 3, 1, 0, 0, 0, 0x20, 1]

/-- A console teller, with CONS_RXD on AOP74. -/
def cons : State :=
  let s := host [3, 0, 4, 1, 0, 0, 0, 0, 1, 3, 1, 0, 0, 0, 64, 0]
  { s with tills := sec 0x002 ([1, 0, 0, 0] ++ leBytes 4 (74 + 2 ^ 24)) :: s.tills }

/-- An OOB teller of a kind at address 0x20. -/
def oob (k : Byte) : State := host [4, k, 2, 1, 0x20, 0, 0, 0, 64, 3, 1, 0, 0, 0, 160, 0]

/-- A device whose PINS gives one ball a function. -/
def pins (w : Nat) : State := { run with tills := [sec 0x002 ([1, 0, 0, 0] ++ leBytes 4 w)] }

/-- Core A runs. -/
def coreRun : State := { run with coreA.on := true }

/-- An unlocked, valid Reserve with energy for any image, and PFAIL_N high long enough for a commit. -/
def gate : State := { put run [(F.RSV_STATUS_VALID, 1), (F.RSV_ENERGY_UJ, 60000)] with vlt.pfailOk := true }

/-- A reconcile of a CALENDAR section whose snapshot is due, with the section in the shadow. -/
def recon : State :=
  { put run [(F.TIL_STATUS_BUSY, 1)] with
    fl := { run.fl with runStore := none }
    tills := [sec 0x018 [1, 0, 0, 0]]
    mem := memWrite [] 0x28000040 ([0x18, 0, 0, 0] ++ leBytes 4 0x100 ++ leBytes 4 4 ++ leBytes 4 0x99F8B879) ++ [(0x28000100, 1)] }

/-- A stop that has been accepted, with wake source 0 enabled and core A's wake vector in SRAM0, which is retained. -/
def stopping : State :=
  { put run [(F.PWR_VEC_A_ADDR, 0x8000000)] with pwr := { State.reset.pwr with phase := .accepted, retained := 1 } }.setWord Reg.PWR_WAKE_EN 1

/-- Core A at a bundle of one syllable in SRAM0: an X syllable with STOP that adds x0 to x0. -/
def issue : State := { coreRun with coreA.pc := 0x20000000, mem := memWrite [] 0x20000000 (leBytes 4 0x20000000) }

/-- A core at this syllable in SRAM0, in a state like s. -/
def word (s : State) (w : Nat) : State := { s with mem := memWrite [] 0x20000000 (leBytes 4 w) }

/-- The fetch of core A's bundle after no cycle. -/
def fetched (s : State) : (List Nat ⊕ Fail) × State :=
  (s.modCore .a fun u => { u with cycle := (u.cycle + 0) % 2 ^ 64 }).fetchBundle .a 0

/-- The state after that fetch, with the bundle noted as the last issued. -/
def noted (s : State) : State := (fetched s).2.modCore .a fun x => { x with lastPc := x.pc }

/-- Two-wire port 0 is enabled on its three balls. -/
def ported (s : State) : State :=
  { put s [(F.AO_PAD_STAT_A_OK, 1), (F.TWB_CFG_EN 0, 1)] with
    tills := sec 0x002 ([3, 0, 0, 0] ++ [80, 81, 82].flatMap fun b => leBytes 4 (b + 2 ^ 24)) :: s.tills }

/-- A hardware commit of one record waits, and LAST is in no doubt. -/
def pending : State := { gate with vlt.hwWaiting := true, vlt.pend := [(0x01010200, [4])] }

/-- A signed image of 64 bytes for half 0, its key the base point and its nonce 1. -/
def image : List Byte :=
  leBytes 4 0x4B34494D ++ leBytes 4 1 ++ leBytes 4 0x40 ++ leBytes 4 0x8000020 ++ List.replicate 48 0 ++ (leBytes 32 p256Gx).reverse ++
    (leBytes 32 0xE79301B19C1D9ABC8E2FA4AF908A8ABDAAAC73346D3B24FE3093AF87AA2FDED1).reverse

/-- Core A serves recovery, and the last row of that image is being programmed. -/
def imaged : State :=
  { put coreRun [(F.AO_FL_STATUS_FW_NONE, 1)] with
    coreA.rom := true, flash.cmd := some ⟨1, 0x70, image.drop 0x70, false⟩, mem := memWrite [] 0x8000000 (image.take 0x70)
    tills := [sec 0x003 ([1, 0, 0, 0, 0, 1, 0, 0] ++ (leBytes 32 p256Gx).reverse ++ (leBytes 32 p256Gy).reverse)] }

/-- Core A with interrupts on and vector 3 pending at level 2. -/
def vector : State :=
  { coreRun with coreA.ie := true, coreA.pulses := [(3, 2)] }.setWord Reg.EVT_EN_LO 8

/-- PPS_IN is a pin and PPS_EN is 1. -/
def pps : State := put (pins (75 + 2 ^ 24)) [(F.CAL_CFG_PPS_EN, 1)]

/-- A panel of ten lines, with four blanking lines before and three after. -/
def panel : State := { run with tills := [sec 0x048 ([10, 0, 1, 0, 1, 0, 1, 0, 10, 0, 3, 0, 3, 0, 4, 0] ++ List.replicate 16 0)] }

/-! ## States and operands that meet the hypotheses of the statements -/

/-- The hypotheses of each clause of Obligations.ResetCommandsAct can be met. -/
theorem witness_ResetCommandsAct :
    (∃ s : State, s.fl.vinValid = false) ∧
    (∃ s : State, s.fl.vinValid = true) ∧
    (∃ s : State, s.fl.vinValid = true ∧ s.fl.vcoreLow = false) ∧
    (∃ s : State, s.fl.vinValid = true ∧ s.fl.vcoreLow = true) ∧
    (∃ s : State, ∃ c : Core, (s.core c).on = true ∧ s.live (domCore c) = true ∧ s.fl.deferred = .none ∧ s.wdrDevice c = false ∧
      (((s.core c).fatal.isSome = true ∨ s.on (F.EVT_WDOG_CTL_EN.own c) = true))) ∧
    (∃ s : State, ∃ c : Core, (s.core c).on = true ∧ s.live (domCore c) = true ∧ s.fl.deferred = .none ∧ s.wdrDevice c = true ∧
      (s.core c).fatal.isSome = true ∧ s.vlt.commit.isSome = true) ∧
    (∃ s : State, ∃ who : Agent, s.Takes who 0 ∧ s.vlt.commit = none ∧ s.fl.vcoreLow = false) ∧
    (∃ s : State, ∃ who : Agent, s.Takes who 0 ∧ s.vlt.commit.isSome = true) ∧
    (∃ s : State, ∃ who : Agent, ∃ mask : BitVec 24, ∃ d : Fin 24, s.Takes who 0 ∧ s.vlt.commit = none ∧ mask.getLsbD d = true ∧ ((d.val ≠ 0 ∧
      (d.val < 6 ∨ 9 < d.val)))) ∧
    (∃ s : State, s.fl.vinValid = true ∧ s.seq.espiHigh = true) ∧
    (∃ s : State, s.fl.vinValid = true ∧ s.seq.espiHigh = false ∧ s.on F.AO_PAD_STAT_HOST_OK = true) ∧
    (∃ s : State, ∃ k : Bank, s.fl.vinValid = true ∧ s.on (bankFields k).1 = false) ∧
    (∃ s : State, ∃ k : Bank, s.on (bankFields k).1 = true) ∧
    (∃ s : State, ∃ k : Bank × Nat × Nat, ∃ ball : Nat, k ∈ [(Bank.a, 80, 120), (Bank.b, 120, 144), (Bank.c, 160, 200)] ∧ k.2.1 ≤ ball ∧
      ball < k.2.2 ∧ s.fl.vinValid = true ∧ s.aud.tap.hold = 0 ∧ s.on (bankFields k.1).1 = true) :=
  ⟨⟨{ run with fl.vinValid := false }, by decide +kernel⟩,
   ⟨{ run with fl.vinValid := true }, by decide +kernel⟩,
   ⟨{ run with fl.vinValid := true }, by decide +kernel⟩,
   ⟨{ run with fl.vinValid := true, fl.vcoreLow := true }, by decide +kernel⟩,
   ⟨(put coreRun [((F.EVT_WDOG_CTL_EN.own .a), 1)]), .a, by decide +kernel⟩,
   ⟨{ coreRun with coreA.fatal := some 1, vlt.commit := some ⟨[], 1, 0, [], [], false, false⟩, tills := [sec 0x004 [1, 0, 0, 0]] }, .a,
     by decide +kernel⟩,
   ⟨run, (.core .a false), by decide +kernel⟩,
   ⟨{ run with vlt.commit := some ⟨[], 1, 0, [], [], false, false⟩ }, (.core .a false), by decide +kernel⟩,
   ⟨run, (.core .a false), 1024, 10, by decide +kernel⟩,
   ⟨{ run with fl.vinValid := true, seq.espiHigh := true }, by decide +kernel⟩,
   ⟨{ (put run [(F.AO_PAD_STAT_HOST_OK, 1)]) with fl.vinValid := true }, by decide +kernel⟩,
   ⟨{ run with fl.vinValid := true }, .a, by decide +kernel⟩,
   ⟨(put run [(F.AO_PAD_STAT_A_OK, 1)]), .a, by decide +kernel⟩,
   ⟨{ (put run [(F.AO_PAD_STAT_A_OK, 1)]) with fl.vinValid := true, aud.tap.hold := 0 }, (.a, 80, 120), 80, by decide +kernel⟩⟩

/-- The hypotheses of each clause of Obligations.LedgerWindowActs can be met. -/
theorem witness_LedgerWindowActs :
    (∃ s : State, ∃ c : Core, ∃ store met : Bool, s.Takes (.core c false) 0 ∧ s.runsFrom (b2n store) = false ∧ s.on F.LGR_STATUS_WR_OPEN = false ∧
      s.on F.SEQ_STATUS_PFAIL_PIN = true ∧ ((met = false ∨ c = .a))) ∧
    (∃ s : State, ∃ c : Core, ∃ store : Bool, s.Takes (.core c false) 0 ∧ ((s.runsFrom (b2n store) = true ∨ s.on F.LGR_STATUS_WR_OPEN = true ∨ s.on
      F.SEQ_STATUS_PFAIL_PIN = false))) ∧
    (∃ s : State, ∃ who : Agent, s.Takes who 0 ∧ s.on F.LGR_STATUS_WR_JTAG = false) ∧
    (∃ s : State, ∃ c : Core, s.Takes (.core c false) 0 ∧ s.on F.LGR_STATUS_WR_OPEN = true ∧ s.on F.LGR_STATUS_WR_JTAG = false ∧ s.rd
      F.LGR_STATUS_WR_OWNER = c.num ∧ s.domOn domFRAM = true) ∧
    (∃ s : State, s.domOn 0 = true ∧ s.freezing = false ∧ s.on F.LGR_STATUS_WR_OPEN = true ∧ s.on F.LGR_STATUS_WR_JTAG = false) ∧
    (∃ s : State, ∃ who : Agent, ∃ store : Bool, s.Takes who 0 ∧ s.on F.LGR_STATUS_CHECK_BUSY = false ∧ ((s.on F.LGR_STATUS_WR_OPEN = false ∨ s.rd
      F.LGR_STATUS_WR_STORE ≠ b2n store))) ∧
    (∃ s : State, s.on F.LGR_STATUS_CHECK_BUSY = true ∧ s.checkRuns = true) :=
  ⟨⟨(put run [(F.SEQ_STATUS_PFAIL_PIN, 1)]), .a, true, false, by decide +kernel⟩,
   ⟨run, .a, false, by decide +kernel⟩,
   ⟨run, (.core .a false), by decide +kernel⟩,
   ⟨(put run [(F.LGR_STATUS_WR_OPEN, 1)]), .a, by decide +kernel⟩,
   ⟨(put run [(F.LGR_STATUS_WR_OPEN, 1)]), by decide +kernel⟩,
   ⟨run, (.core .a false), false, by decide +kernel⟩,
   ⟨(put run [(F.LGR_STATUS_CHECK_BUSY, 1)]), by decide +kernel⟩⟩

set_option maxRecDepth 20000 in
/-- The hypotheses of each clause of Obligations.LedgerLoadsAct can be met. -/
theorem witness_LedgerLoadsAct :
    (∃ s : State, ∃ payload : List Byte, ∃ crc : Word, s.recoveryOn = true ∧ s.fl.runStore.isSome = true ∧ frameLenOk 2 payload.length = true ∧
      crc32 ((2 : Byte) :: leBytes 4 payload.length ++ payload) = crc.toNat) ∧
    (∃ s : State, ∃ payload : List Byte, ∃ crc : Word, s.recoveryOn = true ∧ s.fl.runStore = none ∧ frameLenOk 1 payload.length = true ∧ crc32 ((1
      : Byte) :: leBytes 4 payload.length ++ payload) = crc.toNat) ∧
    (∃ s : State, s.recoveryOn = true) ∧
    (∃ s : State, s.fl.vinValid = true) ∧
    (∃ s : State, s.aud.tap.ir = 0x18 ∧ s.live domFRAM = true ∧ s.lgr.loading = false ∧ s.lgr.dead = false) ∧
    (∃ s : State, s.aud.tap.ir = 0x18 ∧ s.live domFRAM = true ∧ s.lgr.loading = true ∧ 4 * s.lgr.taken < s.lgr.count ∧ s.lgr.blocked = false ∧
      s.lgr.dead = false ∧ s.fl.runStore.isSome = true) ∧
    (∃ s : State, s.aud.tap.ir = 0x18) :=
  ⟨⟨{ (put coreRun [(F.AO_FL_STATUS_FW_NONE, 1)]) with coreA.rom := true, tills := [sec 0x004 [0x10, 0, 0, 0]] }, (List.replicate 128 0), 0xcf9662b0,
     by decide +kernel⟩,
   ⟨{ coreRun with coreA.rom := true, fl.runStore := none }, (List.replicate 320 0), 0xee96f9e2, by decide +kernel⟩,
   ⟨{ coreRun with coreA.rom := true, fl.runStore := none }, by decide +kernel⟩,
   ⟨{ run with fl.vinValid := true }, by decide +kernel⟩,
   ⟨{ run with aud.tap.ir := 0x18 }, by decide +kernel⟩,
   ⟨{ run with aud.tap.ir := 0x18, lgr.loading := true, lgr.count := 4 }, by decide +kernel⟩,
   ⟨{ run with aud.tap.ir := 0x18 }, by decide +kernel⟩⟩

/-- The hypotheses of each clause of Obligations.ReconcileActs can be met. -/
theorem witness_ReconcileActs :
    (∃ s : State, ∃ who : Agent, ∃ index : BitVec 6, ∃ met : Bool, s.Takes who 0 ∧ s.on F.TIL_STATUS_BUSY = false ∧ (met = false ∨ who.isCore .b =
      false) ∧ index.toNat < s.tills.length) ∧
    (∃ s : State, ∃ who : Agent, ∃ met : Bool, s.Takes who 0 ∧ (s.on F.TIL_STATUS_BUSY = true ∨ (met = true ∧ who.isCore .b = true))) ∧
    (∃ s : State, ∃ x : SecTill, s.snapshotDue = true ∧ s.section' (s.rd F.TIL_STATUS_INDEX) = some x ∧ reconcilable (x.typ % 4096) = true ∧ bit
      s.present x.owner = true ∧ (s.snapshotCheck s.shadow x).1 = 0 ∧ s.domOn x.owner = true) ∧
    (∃ s : State, ∃ x : SecTill, s.snapshotDue = true ∧ s.section' (s.rd F.TIL_STATUS_INDEX) = some x ∧ reconcilable (x.typ % 4096) = true ∧ bit
      s.present x.owner = true ∧ (s.snapshotCheck s.shadow x).1 ≠ 0) ∧
    (∃ s : State, ∃ x : SecTill, s.on F.TIL_STATUS_WAITING = true ∧ s.on F.AUD_STATUS_FROZEN = false ∧ s.section' (s.rd F.TIL_STATUS_INDEX) = some
      x ∧ s.safePoint (x.typ % 4096) = true ∧ s.domOn x.owner = true) ∧
    (∃ s : State, s.on F.TIL_STATUS_WAITING = true ∧ s.on F.AUD_STATUS_FROZEN = false ∧ s.recon.limit ≠ 0) ∧
    (∃ s : State, s.on F.AUD_STATUS_FROZEN = false ∧ s.on F.KX_STATUS_ROUTING = true) :=
  ⟨⟨{ run with tills := [sec 0x018 [1, 0, 0, 0]] }, (.core .a false), 0, false, by decide +kernel⟩,
   ⟨(put run [(F.TIL_STATUS_BUSY, 1)]), (.core .a false), false, by decide +kernel⟩,
   ⟨recon, (((recon : State).section' 0).get (by decide +kernel)), by decide +kernel⟩,
   ⟨{ recon with mem := [] }, ((({ recon with mem := [] } : State).section' 0).get (by decide +kernel)), by decide +kernel⟩,
   ⟨{ (put run [(F.TIL_STATUS_WAITING, 1)]) with tills := [sec 0x018 [1, 0, 0, 0]] },
     ((({ (put run [(F.TIL_STATUS_WAITING, 1)]) with tills := [sec 0x018 [1, 0, 0, 0]] } : State).section' 0).get (by decide +kernel)),
     by decide +kernel⟩,
   ⟨{ (put run [(F.TIL_STATUS_WAITING, 1)]) with recon.limit := 1 }, by decide +kernel⟩,
   ⟨(put run [(F.KX_STATUS_ROUTING, 1)]), by decide +kernel⟩⟩

/-- The hypotheses of each clause of Obligations.DomainsSwitch can be met. -/
theorem witness_DomainsSwitch :
    (∃ s : State, ∃ who : Agent, ∃ mask : BitVec 24, ∃ met : BitVec 24, ∃ d : Fin 24, s.Takes who 0 ∧ s.on F.AUD_STATUS_FROZEN = false ∧
      mask.getLsbD d = true ∧ s.domOn d = false ∧ s.changing d = false ∧ bit s.present d = true ∧ ((domainNeeds d).all fun n => s.domOn n &&
      !s.changing n) = true ∧ bit (contradicted who met.toNat) d = false ∧ (d.val ≠ 5 ∨ s.coreBStart ≠ 0)) ∧
    (∃ s : State, ∃ who : Agent, ∃ mask : BitVec 24, ∃ d : Fin 24, s.Takes who 0 ∧ s.on F.AUD_STATUS_FROZEN = false ∧ mask.getLsbD d = true ∧
      s.domOn d = false ∧ bit s.present d = false) ∧
    (∃ s : State, ∃ who : Agent, ∃ mask : BitVec 24, ∃ met : BitVec 24, ∃ d : Fin 24, s.Takes who 0 ∧ s.on F.AUD_STATUS_FROZEN = false ∧
      mask.getLsbD d = true ∧ (s.changing d = true ∨ bit (contradicted who met.toNat) d = true)) ∧
    (∃ s : State, ∃ who : Agent, ∃ mask : BitVec 24, ∃ met : BitVec 24, ∃ d : Fin 24, s.Takes who 0 ∧ s.on F.AUD_STATUS_FROZEN = false ∧
      mask.getLsbD d = true ∧ s.domOn d = true ∧ s.changing d = false ∧ 4 < d.val ∧ bit (contradicted who met.toNat) d = false ∧ s.needed
      mask.toNat (contradicted who met.toNat) d = false) ∧
    (∃ s : State, ∃ d : Fin 24, s.changing d = true ∧ s.domOn d = false ∧ (domainNeeds d).all s.domOn = true) ∧
    (∃ s : State, ∃ d : Fin 24, s.changing d = true ∧ s.domOn d = true ∧ s.coreA.strand ≠ .waiting ∧ s.coreB.strand ≠ .waiting) ∧
    (∃ s : State, ∃ d : Fin 24, s.changing d = true ∧ s.domOn d = false) ∧
    (∃ s : State, ∃ d : Fin 24, bit s.pwr.retryDue d = true ∧ s.freezing = false ∧ s.domOn d = false ∧ s.changing d = false) :=
  ⟨⟨{ (put run [(F.PWR_STATUS_ON, 1)]) with tills := [sec 0x001 [0, 0, 0, 0, 0xFF, 0xFF, 0xFF, 0]] }, (.core .a false), 1024, 0, 10,
     by decide +kernel⟩,
   ⟨(put run [(F.PWR_STATUS_ON, 1)]), (.core .a false), 1024, 10, by decide +kernel⟩,
   ⟨(put run [(F.PWR_TRANS_BUSY, 1024)]), (.core .a false), 1024, 0, 10, by decide +kernel⟩,
   ⟨run, (.core .a false), 1024, 0, 10, by decide +kernel⟩,
   ⟨(put run [(F.PWR_STATUS_ON, 1), (F.PWR_TRANS_BUSY, 1024)]), 10, by decide +kernel⟩,
   ⟨(put run [(F.PWR_TRANS_BUSY, 1024)]), 10, by decide +kernel⟩,
   ⟨(put run [(F.PWR_STATUS_ON, 1), (F.PWR_TRANS_BUSY, 1024)]), 10, by decide +kernel⟩,
   ⟨{ (put run [(F.PWR_STATUS_ON, 1)]) with pwr.retryDue := 1024 }, 10, by decide +kernel⟩⟩

/-- The hypotheses of each clause of Obligations.StopAndWake can be met. -/
theorem witness_StopAndWake :
    (∃ s : State, ∃ c : Core, s.Takes (.core c false) 0 ∧ s.freezing = false ∧ s.pwr.phase = .run ∧ s.runsFirmware c = true) ∧
    (∃ s : State, s.Takes (.core .a false) 0 ∧ s.freezing = false ∧ s.pwr.phase = .run ∧ s.runsFirmware .a = true ∧ s.coreB.on = false ∧ s.pwr.reqB
      = none) ∧
    (∃ s : State, s.pwr.phase = .run ∧ ((s.pwr.reqA.isSome = true ∨ s.pwr.reqB.isSome = true))) ∧
    (∃ s : State, ∃ die : Int, ∃ edge : BitVec 19, s.pwr.phase = .accepted ∧ (s.stopRefusal die).1 = 0 ∧ (s.stopRefusal die).2.wakeEnabled
      (s.stopRefusal die).2.wakeActive = 0 ∧ s.vlt.commit = none ∧ s.flash.cmd = none ∧ s.sealEng.run = none ∧ s.lc.run = none ∧ (s.stopRefusal
      die).2.wakeEnabled edge.toNat = 0) ∧
    (∃ s : State, s.pwr.phase = .accepted ∧ s.seq.espiHigh = true) ∧
    (∃ s : State, ∃ src : BitVec 19, s.pwr.phase = .stopped ∧ s.wakeEnabled (src.toNat ||| s.wakeActive) ≠ 0) ∧
    (∃ s : State, ∃ src : BitVec 19, s.pwr.phase = .accepted ∧ s.wakeEnabled (src.toNat ||| s.wakeActive) ≠ 0) ∧
    (∃ s : State, ∃ die : Int, s.pwr.phase = .stopped ∧ (s.budgetCheck die).1 = false) ∧
    (∃ s : State, ∃ die : Int, s.pwr.phase = .stopped ∧ (s.budgetCheck die).1 = true) ∧
    (∃ s : State, s.pwr.phase = .stopped) :=
  ⟨⟨coreRun, .a, by decide +kernel⟩,
   ⟨coreRun, by decide +kernel⟩,
   ⟨{ run with pwr.reqA := some ⟨0, 10⟩ }, by decide +kernel⟩,
   ⟨stopping, 25, 0, by decide +kernel⟩,
   ⟨{ run with pwr.phase := .accepted, seq.espiHigh := true }, by decide +kernel⟩,
   ⟨{ run with pwr.phase := .stopped }, 0x10000, by decide +kernel⟩,
   ⟨{ run with pwr.phase := .accepted }, 0x10000, by decide +kernel⟩,
   ⟨{ run with pwr.phase := .stopped }, 0, by decide +kernel⟩,
   ⟨{ run with pwr.phase := .stopped, pwr.retained := 15 }, 150, by decide +kernel⟩,
   ⟨{ run with pwr.phase := .stopped }, by decide +kernel⟩⟩

/-- The hypotheses of each clause of Obligations.FlashCommandsAct can be met. -/
theorem witness_FlashCommandsAct :
    (∃ s : State, ∃ who : Agent, ∃ p ∈ [(Instr.program who 0xF1, 1), (.eraseSector who 0xF1, 2), (.eraseHalf who 0xF1, 3), (.blankCheck who 0xF1,
      4)], s.Takes who domFLASH ∧ s.flash.cmd = none ∧ s.pwr.phase = .run ∧ s.flashRefusal p.2 (s.rd F.FLC_ADDR_ADDR) = 0) ∧
    (∃ s : State, ∃ who : Agent, ∃ p ∈ [(Instr.program who 0xF1, 1), (.eraseSector who 0xF1, 2), (.eraseHalf who 0xF1, 3), (.blankCheck who 0xF1,
      4)], s.Takes who domFLASH ∧ s.flash.cmd = none ∧ s.pwr.phase = .run ∧ s.flashRefusal p.2 (s.rd F.FLC_ADDR_ADDR) ≠ 0) ∧
    (∃ s : State, ∃ who : Agent, ∃ c : FlashCmd, s.Takes who domFLASH ∧ s.flash.cmd = some c ∧ ((c.op = 2 ∨ c.op = 3))) ∧
    (∃ s : State, ∃ c : FlashCmd, s.flash.cmd = some c ∧ s.live domFLASH = true ∧ c.op = 1 ∧ c.data.length = 16 ∧ (s.servesImages = false ∨
      (s.flashDone true).halfCode (c.addr / 0x100000 % 2) ≠ 0)) ∧
    (∃ s : State, ∃ c : FlashCmd, s.flash.cmd = some c ∧ s.live domFLASH = true ∧ c.op = 1 ∧ s.servesImages = true ∧ (s.flashDone true).halfCode
      (c.addr / 0x100000 % 2) = 0) ∧
    (∃ s : State, ∃ c : FlashCmd, s.flash.cmd = some c ∧ s.live domFLASH = true ∧ ((c.op = 2 ∨ c.op = 3)) ∧ c.abort = false ∧ c.addr < 0x200000) ∧
    (∃ s : State, s.live domFLASH = true ∧ s.on F.FLC_SCRUB_CFG_EN = true ∧ s.flash.cmd = none) :=
  ⟨⟨(put run [(F.AO_FL_STATUS_FW_NONE, 1)]), (.core .a false), _, .head _, by decide +kernel⟩,
   ⟨run, (.core .a false), _, .head _, by decide +kernel⟩,
   ⟨{ run with flash.cmd := some ⟨2, 0, [], false⟩ }, (.core .a false), ⟨2, 0, [], false⟩, by decide +kernel⟩,
   ⟨{ run with flash.cmd := some ⟨1, 0, List.replicate 16 0, false⟩ }, ⟨1, 0, List.replicate 16 0, false⟩, by decide +kernel⟩,
   ⟨imaged, ⟨1, 0x70, (image.drop 0x70), false⟩, by decide +kernel⟩,
   ⟨{ run with flash.cmd := some ⟨3, 0, [], false⟩ }, ⟨3, 0, [], false⟩, by decide +kernel⟩,
   ⟨(put run [(F.FLC_SCRUB_CFG_EN, 1)]), by decide +kernel⟩⟩

/-- The hypotheses of each clause of Obligations.SequencerStepsAct can be met. -/
theorem witness_SequencerStepsAct :
    (∃ s : State, s.seqLive = true) ∧
    (∃ s : State, ∃ n : Nat, ∃ r : StepRec, n < 64 ∧ s.seqLive = true ∧ s.activeIn n .delay = some r ∧ r.kind = 2) ∧
    (∃ s : State, ∃ n : Nat, ∃ r : StepRec, ∃ x : RailRec, n < 64 ∧ s.seqLive = true ∧ s.activeIn n .delay = some r ∧ r.kind = 0 ∧ s.onHeld = false ∧
      s.offStepActive r.target = false ∧ r.target < 32 ∧ s.railRec r.target = some x ∧ s.pgValid x ≠ some true ∧ x.tmo ≠ 0) ∧
    (∃ s : State, ∃ n : Nat, ∃ r : StepRec, ∃ x : RailRec, n < 64 ∧ s.seqLive = true ∧ s.activeIn n .waitPg = some r ∧ s.railRec r.target = some x ∧
      x.src = 0xFF) ∧
    (∃ s : State, ∃ n : Nat, ∃ r : StepRec, ∃ x : RailRec, n < 64 ∧ s.seqLive = true ∧ s.stepRec n = some r ∧ s.stepState n = 1 ∧
      (((s.step' n).phase = .waitPg ∨ (s.step' n).phase = .waitOn)) ∧ r.target < 32 ∧ s.railRec r.target = some x ∧ s.pgValid x = some false) ∧
    (∃ s : State, ∃ n : Nat, ∃ r : StepRec, ∃ x : RailRec, n < 64 ∧ s.seqLive = true ∧ s.activeIn n .waitInvalid = some r ∧ r.target < 32 ∧
      s.railRec r.target = some x ∧ s.pgValid x = some true) ∧
    (∃ s : State, ∃ n : Nat, ∃ r : StepRec, ∃ x : RailRec, n < 64 ∧ s.seqLive = true ∧ s.activeIn n .waitFall = some r ∧ s.railRec r.target = some x ∧
      s.pgValid x = some true) ∧
    (∃ s : State, ∃ rail : Nat, ∃ x : RailRec, s.seqLive = true ∧ s.railRec rail = some x ∧ (s.rail' rail).dis = true) ∧
    (∃ s : State, ∃ rail : Nat, ∃ r : StepRec, s.seqLive = true ∧
      (s.stepRecs.find? (fun r => r.kind == 0 && r.target == rail && s.stepState r.num == 1 && (s.step' r.num).phase == .retry) = some r)) ∧
    (∃ s : State, s.frozen 0 = false ∧ s.fl.vinValid = true) :=
  ⟨⟨(graph 0xFF 0 .delay), by decide +kernel⟩,
   ⟨(graph 0xFF 0x80 .delay), 0, ((((graph 0xFF 0x80 .delay) : State).stepRec 0).get (by decide +kernel)), by decide +kernel⟩,
   ⟨(graph 0 0 .delay), 0, ((((graph 0 0 .delay) : State).stepRec 0).get (by decide +kernel)),
     ((((graph 0 0 .delay) : State).railRec 0).get (by decide +kernel)), by decide +kernel⟩,
   ⟨(graph 0xFF 0 .waitPg), 0, ((((graph 0xFF 0 .waitPg) : State).stepRec 0).get (by decide +kernel)),
     ((((graph 0xFF 0 .waitPg) : State).railRec 0).get (by decide +kernel)), by decide +kernel⟩,
   ⟨(graph 0 0 .waitPg), 0, ((((graph 0 0 .waitPg) : State).stepRec 0).get (by decide +kernel)),
     ((((graph 0 0 .waitPg) : State).railRec 0).get (by decide +kernel)), by decide +kernel⟩,
   ⟨(put (graph 0 0 .waitInvalid) [(F.SEQ_MON_IN_WIN 0, 1)]), 0,
     ((((put (graph 0 0 .waitInvalid) [(F.SEQ_MON_IN_WIN 0, 1)]) : State).stepRec 0).get (by decide +kernel)),
     ((((put (graph 0 0 .waitInvalid) [(F.SEQ_MON_IN_WIN 0, 1)]) : State).railRec 0).get (by decide +kernel)), by decide +kernel⟩,
   ⟨(put (graph 0 0x40 .waitFall) [(F.SEQ_MON_IN_WIN 0, 1)]), 0,
     ((((put (graph 0 0x40 .waitFall) [(F.SEQ_MON_IN_WIN 0, 1)]) : State).stepRec 0).get (by decide +kernel)),
     ((((put (graph 0 0x40 .waitFall) [(F.SEQ_MON_IN_WIN 0, 1)]) : State).railRec 0).get (by decide +kernel)), by decide +kernel⟩,
   ⟨((graph 0 0 .delay).modRail 0 fun x => { x with dis := true }), 0,
     (((((graph 0 0 .delay).modRail 0 fun x => { x with dis := true }) : State).railRec 0).get (by decide +kernel)), by decide +kernel⟩,
   ⟨(graph 0 0 .retry), 0, ((((graph 0 0 .retry) : State).stepRec 0).get (by decide +kernel)), by decide +kernel⟩,
   ⟨{ run with fl.vinValid := true }, by decide +kernel⟩⟩

/-- The hypotheses of each clause of Obligations.SequencerCommandsAct can be met. -/
theorem witness_SequencerCommandsAct :
    (∃ s : State, ∃ who : Agent, s.Takes who 0 ∧ s.on F.SEQ_STATUS_LOCKOUT = false) ∧
    (∃ s : State, ∃ who : Agent, s.Takes who 0) ∧
    (∃ s : State, ∃ who : Agent, ∃ met : BitVec 4, s.Takes who 0 ∧ met.getLsbD 1 = true) ∧
    (∃ s : State, ∃ who : Agent, ∃ arg : BitVec 7, ∃ r : StepRec, s.Takes who 0 ∧ s.stepRec arg.toNat = some r ∧ s.stepState arg.toNat = 0 ∧
      s.predsDone r = true ∧ ((r.kind ≠ 0 ∨ s.onHeld = false))) ∧
    (∃ s : State, ∃ who : Agent, ∃ arg : BitVec 7, s.Takes who 0 ∧ arg.toNat < 64 ∧ s.stepState arg.toNat = 3) ∧
    (∃ s : State, ∃ who : Agent, ∃ arg : BitVec 7, s.Takes who 0 ∧ s.railOn arg.toNat = true) ∧
    (∃ s : State, s.seqLive = true) ∧
    (∃ s : State, s.seqLive = true ∧ s.seq.holdRun = true ∧ s.on F.SEQ_STATUS_PFAIL_PIN = false ∧ s.on F.SEQ_PFAIL_DROP = true) ∧
    (∃ s : State, s.seqLive = true ∧ s.seq.recovering = true ∧ s.on F.SEQ_STATUS_PFAIL_PIN = true) ∧
    (∃ s : State, s.seqLive = true ∧ s.seq.policyDue = true) :=
  ⟨⟨run, (.core .a false), by decide +kernel⟩,
   ⟨run, (.core .a false), by decide +kernel⟩,
   ⟨run, (.core .a false), 2, by decide +kernel⟩,
   ⟨(put (graph 0 0 .rest) [(F.SEQ_ACTIVE_LO_ACTIVE, 0)]), (.core .a false), 0,
     ((((put (graph 0 0 .rest) [(F.SEQ_ACTIVE_LO_ACTIVE, 0)]) : State).stepRec 0).get (by decide +kernel)), by decide +kernel⟩,
   ⟨(put run [(F.SEQ_FAULTED_LO_FAULTED, 1)]), (.core .a false), 0, by decide +kernel⟩,
   ⟨(put run [(F.SEQ_RAIL_EN_EN, 1)]), (.core .a false), 0, by decide +kernel⟩,
   ⟨{ run with seq.running := true }, by decide +kernel⟩,
   ⟨{ (put run [(F.SEQ_STATUS_PFAIL_PIN, 0), (F.SEQ_PFAIL_DROP, 1)]) with seq.holdRun := true, seq.running := true }, by decide +kernel⟩,
   ⟨{ (put run [(F.SEQ_STATUS_PFAIL_PIN, 1)]) with seq.recovering := true, seq.running := true }, by decide +kernel⟩,
   ⟨{ run with seq.policyDue := true, seq.running := true }, by decide +kernel⟩⟩

/-- The hypotheses of each clause of Obligations.VaultCommitsAct can be met. -/
theorem witness_VaultCommitsAct :
    (∃ s : State, ∃ who : Agent, ∃ w : Word, ∃ met : BitVec 2, ∃ c : Commit, s.Takes who domFRAM ∧ F.VLT_COMMIT_KEY.of w = 0xE7 ∧
      F.VLT_COMMIT_GO.has w = true ∧ (met.getLsbD 1 = false ∨ who.isCore .b = false) ∧ s.on F.VLT_STATUS_BUSY = false ∧ s.on F.VLT_STATUS_WAITING =
      false ∧ s.compose = .inl c ∧ s.gateCode c.image.length = 0) ∧
    (∃ s : State, ∃ who : Agent, ∃ w : Word, ∃ met : BitVec 2, ∃ c : Commit, s.Takes who domFRAM ∧ F.VLT_COMMIT_KEY.of w = 0xE7 ∧
      F.VLT_COMMIT_GO.has w = true ∧ (met.getLsbD 1 = false ∨ who.isCore .b = false) ∧ F.VLT_COMMIT_WAIT.of w ≠ 0 ∧ s.on F.VLT_STATUS_BUSY = false
      ∧ s.on F.VLT_STATUS_WAITING = false ∧ s.compose = .inl c ∧ (s.gateCode c.image.length = 1 ∨ s.gateCode c.image.length = 2 ∨ s.gateCode
      c.image.length = 3)) ∧
    (∃ s : State, ∃ who : Agent, ∃ w : Word, ∃ met : BitVec 2, s.Takes who domFRAM ∧ F.VLT_COMMIT_KEY.of w = 0xE7 ∧ F.VLT_COMMIT_GO.has w = true ∧
      met.getLsbD 1 = true ∧ who.isCore .b = true) ∧
    (∃ s : State, ∃ c : Commit, s.on F.VLT_STATUS_WAITING = true ∧ s.live domFRAM = true ∧ s.compose = .inl c ∧ s.gateCode c.image.length = 0) ∧
    (∃ s : State, ∃ c : Commit, s.vlt.commit = some c ∧ s.live domFRAM = true ∧ s.fl.deferred = .none) ∧
    (∃ s : State, s.on F.VLT_STATUS_WAITING = true ∧ s.live domFRAM = true) ∧
    (∃ s : State, ∃ c : Commit, s.vlt.hwWaiting = true ∧ s.lastDiffers = true ∧ s.vlt.lastDue = false ∧ s.live domFRAM = true ∧ s.on
      F.VLT_STATUS_BUSY = false ∧ s.on F.VLT_STATUS_WAITING = false ∧ s.compose = .inl c ∧ s.gateCode c.image.length = 0) ∧
    (∃ s : State, ∃ u : State, ∃ c : Commit, s.vlt.hwWaiting = true ∧ s.lastDiffers = false ∧ s.live domFRAM = true ∧ u =
      ({ s with vlt := { s.vlt with lastDue := false } } : State).unpend 1 ∧ u.vlt.pend.isEmpty = false ∧ u.on F.VLT_STATUS_BUSY = false ∧ u.on
      F.VLT_STATUS_WAITING = false ∧ u.compose = .inl c ∧ u.gateCode c.image.length = 0) :=
  ⟨⟨gate, (.core .a false), 0xE7000001, 0, (gate.compose.getLeft?).get (by decide +kernel), by decide +kernel⟩,
   ⟨run, (.core .a false), 0xE7010001, 0, (run.compose.getLeft?).get (by decide +kernel), by decide +kernel⟩,
   ⟨run, (.core .b false), 0xE7000001, 2, by decide +kernel⟩,
   ⟨(put gate [(F.VLT_STATUS_WAITING, 1)]), (((((put gate [(F.VLT_STATUS_WAITING, 1)]) : State).compose).getLeft?).get (by decide +kernel)),
     by decide +kernel⟩,
   ⟨{ run with vlt.commit := some ⟨[], 1, 0, [], [], false, false⟩ }, ((({ run with vlt.commit := some ⟨[], 1, 0, [], [], false, false⟩ } :
     State).vlt.commit).get (by decide +kernel)), by decide +kernel⟩,
   ⟨(put run [(F.VLT_STATUS_WAITING, 1)]), by decide +kernel⟩,
   ⟨{ (put gate [(F.SEQ_POLICY_POLICY, 2), (F.SEQ_STATUS_RUN, 1)]) with vlt.hwWaiting := true },
     (({ (put gate [(F.SEQ_POLICY_POLICY, 2), (F.SEQ_STATUS_RUN, 1)]) with vlt.hwWaiting := true } : State).compose.getLeft?).get
     (by decide +kernel), by decide +kernel⟩,
   ⟨pending, (({ pending with vlt := { pending.vlt with lastDue := false } } : State).unpend 1),
     (((({ pending with vlt := { pending.vlt with lastDue := false } } : State).unpend 1).compose).getLeft?).get (by decide +kernel),
     by decide +kernel⟩⟩

/-- The hypotheses of each clause of Obligations.VaultDraftAndDaybookAct can be met. -/
theorem witness_VaultDraftAndDaybookAct :
    (∃ s : State, ∃ who : Agent, s.Takes who domFRAM ∧ s.on F.VLT_STATUS_BUSY = false ∧ s.vlt.draft.length < 1024) ∧
    (∃ s : State, ∃ who : Agent, s.Takes who domFRAM ∧ ((s.on F.VLT_STATUS_BUSY = true ∨ 1024 ≤ s.vlt.draft.length))) ∧
    (∃ s : State, ∃ who : Agent, ∃ w : Word, s.Takes who domFRAM ∧ F.VLT_DRAFT_CTL_CLEAR.has w = true ∧ s.on F.VLT_STATUS_BUSY = false) ∧
    (∃ s : State, s.Open domFRAM) ∧
    (∃ s : State, ∃ w : Word, s.Open domFRAM ∧ 0x80 ≤ F.VLT_LOG_TYPE.of w ∧ s.vlt.queue.length < 16) ∧
    (∃ s : State, ∃ w : Word, s.Open domFRAM ∧ 0x80 ≤ F.VLT_LOG_TYPE.of w ∧ 16 ≤ s.vlt.queue.length) ∧
    (∃ s : State, ∃ e : DayEntry, ∃ q : List DayEntry, s.live domFRAM = true ∧ s.on F.VLT_STATUS_BUSY = false ∧ s.gateCode 32 = 0 ∧ s.ready = true
      ∧ s.waitingStarts = false ∧ s.vlt.lostSince = 0 ∧ s.vlt.queue = e :: q) :=
  ⟨⟨run, (.core .a false), by decide +kernel⟩,
   ⟨(put run [(F.VLT_STATUS_BUSY, 1)]), (.core .a false), by decide +kernel⟩,
   ⟨run, (.core .a false), 1, by decide +kernel⟩,
   ⟨run, by decide +kernel⟩,
   ⟨run, 0x80, by decide +kernel⟩,
   ⟨{ run with vlt.queue := List.replicate 16 ⟨0, 0, 0, 0, 0⟩ }, 0x80, by decide +kernel⟩,
   ⟨{ gate with vlt.lostSince := 0, vlt.queue := [⟨0, 0, 0, 0, 0⟩] }, ⟨0, 0, 0, 0, 0⟩, [], by decide +kernel⟩⟩

/-- The hypotheses of each clause of Obligations.ReserveActs can be met. -/
theorem witness_ReserveActs :
    (∃ s : State, s.frozen 0 = false ∧ s.fl.vinValid = true) ∧
    (∃ s : State, ∃ who : Agent, ∃ w : Word, s.Takes who 0 ∧ F.RSV_MEASURE_GO.has w = true ∧ s.on F.RSV_STATUS_MEASURING = false) ∧
    (∃ s : State, s.fl.vinValid = true ∧ s.frozen 0 = false ∧ s.on F.RSV_STATUS_MEASURING = false ∧ s.on F.RSV_STATUS_VALID = true) ∧
    (∃ s : State, s.fl.vinValid = true ∧ s.frozen 0 = false ∧ s.vlt.measDue = true ∧ s.pwr.phase = .run) ∧
    (∃ s : State, s.on F.RSV_STATUS_MEASURING = true ∧ s.frozen 0 = false) :=
  ⟨⟨{ run with fl.vinValid := true }, by decide +kernel⟩,
   ⟨run, (.core .a false), 1, by decide +kernel⟩,
   ⟨{ (put run [(F.RSV_STATUS_VALID, 1)]) with fl.vinValid := true }, by decide +kernel⟩,
   ⟨{ run with fl.vinValid := true, vlt.measDue := true }, by decide +kernel⟩,
   ⟨(put run [(F.RSV_STATUS_MEASURING, 1)]), by decide +kernel⟩⟩

/-- The hypotheses of each clause of Obligations.BundlesIssue can be met. -/
theorem witness_BundlesIssue :
    (∃ s : State, ∃ u : State, ∃ t0 : State, ∃ c : Core, ∃ cyc : Nat, ∃ fe : Nat, ∃ note : BusNote, ∃ p : List Nat, ∃ f : Fail, s.canIssue c = true
      ∧ s.turnWaits c note.turn = false ∧ (s.modCore c fun u => { u with cycle := (u.cycle + cyc) % 2 ^ 64 }).fetchBundle c fe = (.inl p, u) ∧
      (u.core c).divHolds p = false ∧ t0 = u.modCore c (fun x => { x with lastPc := x.pc }) ∧ t0.issueFail c p note.fill = some f) ∧
    (∃ s : State, ∃ u : State, ∃ t0 : State, ∃ c : Core, ∃ cyc : Nat, ∃ fe : Nat, ∃ note : BusNote, ∃ p : List Nat, s.canIssue c = true ∧
      s.turnWaits c note.turn = false ∧ (s.modCore c fun u => { u with cycle := (u.cycle + cyc) % 2 ^ 64 }).fetchBundle c fe = (.inl p, u) ∧
      (u.core c).divHolds p = false ∧ t0 = u.modCore c (fun x => { x with lastPc := x.pc }) ∧ t0.issueFail c p note.fill = none ∧ memSyl p = none ∧
      (p.all fun w => sylUnit w != 3) = true ∧ (t0.core c).lowDue = false) ∧
    (∃ s : State, ∃ u : State, ∃ t0 : State, ∃ c : Core, ∃ cyc : Nat, ∃ fe : Nat, ∃ note : BusNote, ∃ p : List Nat, ∃ w : Syl, s.canIssue c = true
      ∧ s.turnWaits c note.turn = false ∧ (s.modCore c fun u => { u with cycle := (u.cycle + cyc) % 2 ^ 64 }).fetchBundle c fe = (.inl p, u) ∧
      (u.core c).divHolds p = false ∧ t0 = u.modCore c (fun x => { x with lastPc := x.pc }) ∧ p = [w] ∧ sylUnit w ≤ 1 ∧ isDivide w = false ∧ opXY w
      ≠ 0x18 ∧ rdXY w ≠ 0 ∧ (t0.core c).com.length = 8 ∧ (t0.core c).ring.length = 120 ∧ t0.issueFail c p note.fill = none ∧ (t0.core c).lowDue =
      false) ∧
    (∃ s : State, ∃ u : State, ∃ t0 : State, ∃ c : Core, ∃ cyc : Nat, ∃ fe : Nat, ∃ note : BusNote, ∃ p : List Nat, ∃ w : Syl, s.canIssue c = true
      ∧ s.turnWaits c note.turn = false ∧ (s.modCore c fun u => { u with cycle := (u.cycle + cyc) % 2 ^ 64 }).fetchBundle c fe = (.inl p, u) ∧
      (u.core c).divHolds p = false ∧ t0 = u.modCore c (fun x => { x with lastPc := x.pc }) ∧ p = [w] ∧ memSyl p = some w ∧ sylLoads w = true ∧
      opMC w ≠ 10 ∧ rM w ≠ 0 ∧ (t0.core c).com.length = 8 ∧ (t0.core c).ring.length = 120 ∧ t0.issueFail c p note.fill = none ∧ t0.accessFail c w =
      none ∧ (t0.core c).lowDue = false ∧ runIn ((t0.core c).effective w) 1 sramBase 0x40000 = true ∧ t0.sramOn ((t0.core c).effective w) (sylSize
      w) = true ∧ ((t0.core c).buffered ((t0.core c).effective w) (sylSize w) = true ∨ t0.dataEcc note ((t0.core c).effective w) (sylSize w) = 0)) ∧
    (∃ s : State, ∃ u : State, ∃ t0 : State, ∃ c : Core, ∃ cyc : Nat, ∃ fe : Nat, ∃ note : BusNote, ∃ p : List Nat, ∃ w : Syl, s.canIssue c = true
      ∧ s.turnWaits c note.turn = false ∧ (s.modCore c fun u => { u with cycle := (u.cycle + cyc) % 2 ^ 64 }).fetchBundle c fe = (.inl p, u) ∧
      (u.core c).divHolds p = false ∧ t0 = u.modCore c (fun x => { x with lastPc := x.pc }) ∧ p = [w] ∧ memSyl p = some w ∧ sylLoads w = false ∧
      t0.issueFail c p note.fill = none ∧ t0.accessFail c w = none ∧ (t0.core c).lowDue = false ∧ runIn ((t0.core c).effective w) 1 sramBase
      0x40000 = true ∧ t0.sramOn ((t0.core c).effective w) (sylSize w) = true ∧ (t0.core c).sbuf.length < 4) ∧
    (∃ s : State, ∃ u : State, ∃ t0 : State, ∃ c : Core, ∃ cyc : Nat, ∃ fe : Nat, ∃ note : BusNote, ∃ p : List Nat, ∃ w : Syl, s.canIssue c = true
      ∧ s.turnWaits c note.turn = false ∧ (s.modCore c fun u => { u with cycle := (u.cycle + cyc) % 2 ^ 64 }).fetchBundle c fe = (.inl p, u) ∧
      (u.core c).divHolds p = false ∧ t0 = u.modCore c (fun x => { x with lastPc := x.pc }) ∧ memSyl p = some w ∧ t0.issueFail c p note.fill = none
      ∧ t0.accessFail c w = none ∧ strandAccess w ((t0.core c).effective w) = true) :=
  ⟨⟨(word issue 0x3F800000), (fetched (word issue 0x3F800000)).2, (noted (word issue 0x3F800000)), .a, 0, 0, {}, [0x3F800000], ((noted (word issue
     0x3F800000)).issueFail .a [0x3F800000] 0).get (by decide +kernel), by decide +kernel⟩,
   ⟨(word issue 0x20000000), (fetched (word issue 0x20000000)).2, (noted (word issue 0x20000000)), .a, 0, 0, {}, [0x20000000], by decide +kernel⟩,
   ⟨(word issue 0x20020000), (fetched (word issue 0x20020000)).2, (noted (word issue 0x20020000)), .a, 0, 0, {}, [0x20020000], 0x20020000,
     by decide +kernel⟩,
   ⟨(word { issue with coreA := issue.coreA.setReg 17 0x20000000 } 0xA0844010), (fetched (word
     { issue with coreA := issue.coreA.setReg 17 0x20000000 } 0xA0844010)).2, (noted (word { issue with coreA := issue.coreA.setReg 17 0x20000000 }
     0xA0844010)), .a, 0, 0, {}, [0xA0844010], 0xA0844010, by decide +kernel⟩,
   ⟨(word { issue with coreA := issue.coreA.setReg 17 0x20000000 } 0xA5844010), (fetched (word
     { issue with coreA := issue.coreA.setReg 17 0x20000000 } 0xA5844010)).2, (noted (word { issue with coreA := issue.coreA.setReg 17 0x20000000 }
     0xA5844010)), .a, 0, 0, {}, [0xA5844010], 0xA5844010, by decide +kernel⟩,
   ⟨(word { issue with coreA := issue.coreA.setReg 17 0x40080000 } 0xA0844010), (fetched (word
     { issue with coreA := issue.coreA.setReg 17 0x40080000 } 0xA0844010)).2, (noted (word { issue with coreA := issue.coreA.setReg 17 0x40080000 }
     0xA0844010)), .a, 0, 0, {}, [0xA0844010], 0xA0844010, by decide +kernel⟩⟩

/-- The hypotheses of each clause of Obligations.CoreStepsAct can be met. -/
theorem witness_CoreStepsAct :
    (∃ s : State, ∃ c : Core, ∃ w : Syl, (s.core c).strand = .waiting ∧ memSyl (s.core c).inFlight = some w ∧ s.writeStalls ((s.core c).effective
      w) (sylSize w) = false ∧ ((sylStores w = false ∨ (s.core c).effective w ≠ Reg.PWR_STOP))) ∧
    (∃ s : State, ∃ c : Core, (s.core c).strand = .finished) ∧
    (∃ s : State, ∃ c : Core, ∃ w : Syl, (s.core c).strand = .waiting ∧ memSyl (s.core c).inFlight = some w) ∧
    (∃ s : State, ∃ c : Core, ∃ turn : Bool, ∃ a : Nat, ∃ d : List Byte, ∃ r : List (Nat × List Byte), (s.core c).sbuf = (a, d) :: r ∧ (turn =
      false ∨ s.turnWaits c (2 ^ ((a - sramBase) / 0x10000)) = false)) ∧
    (∃ s : State, ∃ c : Core, ∃ d : Divide, s.coreRuns c = true ∧ (s.core c).div = some d) ∧
    (∃ s : State, ∃ c : Core, s.coreRuns c = true ∧ (s.core c).waiting = true ∧ (s.qualifying c).isSome = true) ∧
    (∃ s : State, ∃ c : Core, ∃ timeout : BitVec 24, (s.core c).on = true ∧ s.on (F.EVT_WDOG_CTL_EN.own c) = false ∧ timeout ≠ 0) ∧
    (∃ s : State, ∃ c : Core, (s.core c).on = true ∧ s.on (F.EVT_WDOG_CTL_EN.own c) = true) ∧
    (∃ s : State, ∃ c : Core, (s.core c).on = true) ∧
    (∃ s : State, ∃ c : Core, (s.core c).on = true ∧ s.on (F.EVT_WDOG_CTL_EN.own c) = true ∧ s.rd (F.EVT_COINCIDE_COUNT.own c) < 65535) :=
  ⟨⟨{ run with coreA.strand := .waiting, coreA.inFlight := [0x80000000] }, .a, 0x80000000, by decide +kernel⟩,
   ⟨{ run with coreA.strand := .finished }, .a, by decide +kernel⟩,
   ⟨{ run with coreA.strand := .waiting, coreA.inFlight := [0x80000000] }, .a, 0x80000000, by decide +kernel⟩,
   ⟨{ run with coreA.sbuf := [(0x20000000, [1])] }, .a, false, 0x20000000, [1], [], by decide +kernel⟩,
   ⟨{ coreRun with coreA.div := some ⟨9, 1⟩ }, .a, ⟨9, 1⟩, by decide +kernel⟩,
   ⟨{ vector with coreA.waiting := true }, .a, by decide +kernel⟩,
   ⟨coreRun, .a, 1, by decide +kernel⟩,
   ⟨(put coreRun [((F.EVT_WDOG_CTL_EN.own .a), 1), ((F.EVT_WDOG_CTL_EN.own .a), 1)]), .a, by decide +kernel⟩,
   ⟨coreRun, .a, by decide +kernel⟩,
   ⟨(put coreRun [((F.EVT_WDOG_CTL_EN.own .a), 1), ((F.EVT_WDOG_CTL_EN.own .a), 1)]), .a, by decide +kernel⟩⟩

/-- The hypotheses of each clause of Obligations.CoreEntriesAct can be met. -/
theorem witness_CoreEntriesAct :
    (∃ s : State, ∃ c : Core, ∃ turn : BitVec 4, ∃ v : Nat, ∃ l : Nat, s.qualifying c = some (v, l) ∧ s.atBoundary c = true ∧ (s.core c).ie = true
      ∧ s.turnWaits c turn.toNat = false ∧ v < 64 ∧ s.rd ((F.EVT_VEC_ADDR v).own c) ≠ 0 ∧ (s.core c).nest < 255 ∧ (s.core c).frames.length < 65535
      ∧ (s.core c).resident + 6 ≤ 30 ∧ (s.core c).stkMode = false ∧ (s.core c).ring.length = 120) ∧
    (∃ s : State, ∃ c : Core, ∃ turn : BitVec 4, ∃ v : Nat, ∃ l : Nat, s.qualifying c = some (v, l) ∧ s.atBoundary c = true ∧ (s.core c).ie = true
      ∧ s.turnWaits c turn.toNat = false ∧ v < 64 ∧ s.rd ((F.EVT_VEC_ADDR v).own c) = 0) ∧
    (∃ s : State, ∃ c : Core, ∃ turn : BitVec 4, ∃ e : Exc, (s.core c).exc = some e ∧ s.coreRuns c = true ∧ s.turnWaits c turn.toNat = false ∧ s.rd
      ((F.EVT_EXC_ADDR e.code).own c) ≠ 0 ∧ (s.core c).nest < 255 ∧ (s.core c).frames.length < 65535 ∧ (s.core c).resident + 6 ≤ 30 ∧ (s.core
      c).stkMode = false ∧ (s.core c).ring.length = 120) ∧
    (∃ s : State, ∃ c : Core, ∃ turn : BitVec 4, ∃ e : Exc, (s.core c).exc = some e ∧ s.coreRuns c = true ∧ s.turnWaits c turn.toNat = false ∧ s.rd
      ((F.EVT_EXC_ADDR e.code).own c) = 0) :=
  ⟨⟨(put vector [((F.EVT_VEC_ADDR 3).own .a, 4)]), .a, 0, 3, 2, by decide +kernel⟩,
   ⟨vector, .a, 0, 3, 2, by decide +kernel⟩,
   ⟨{ (put coreRun [((F.EVT_EXC_ADDR 4).own .a, 4)]) with coreA.exc := some ⟨4, 0, 0, 0⟩ }, .a, 0, ⟨4, 0, 0, 0⟩, by decide +kernel⟩,
   ⟨{ coreRun with coreA.exc := some ⟨4, 0, 0, 0⟩ }, .a, 0, ⟨4, 0, 0, 0⟩, by decide +kernel⟩⟩

/-- The hypotheses of each clause of Obligations.ClearingHouseActs can be met. -/
theorem witness_ClearingHouseActs :
    (∃ s : State, ∃ ev : Nat, s.routing = true ∧ ev < 320 ∧ levelSource ev = false ∧ s.kx.pulses.contains ev = true ∧
      ((s.routes.all fun r => r.source != ev) = true) ∧ ((∀ k, k < 8 → s.on (F.HST_ECI_QSRC_EN k) = false))) ∧
    (∃ s : State, ∃ ev : Nat, ∃ c : Core, ∃ r : Route, s.routing = true ∧ ev < 320 ∧ levelSource ev = false ∧ s.kx.pulses.contains ev = true ∧
      s.routes = [r] ∧ r.source = ev ∧ r.kind = c.num + 1 ∧ r.level = false ∧ r.dest < 64 ∧ ((∀ k, k < 8 → s.on (F.HST_ECI_QSRC_EN k) = false)) ∧
      s.domOn (domCore c) = true ∧ s.frozen (domCore c) = false) ∧
    (∃ s : State, s.routing = false) ∧
    (∃ s : State, ∃ sw : BitVec 8, ∃ k : Fin 8, s.Open 0 ∧ s.on F.KX_STATUS_ROUTING = true ∧ sw.getLsbD k = true) ∧
    (∃ s : State, ∃ who : Agent, ∃ src : BitVec 9, s.Takes who 0 ∧ s.on F.KX_STATUS_ROUTING = true ∧ src.toNat < 320 ∧ levelSource src.toNat = false ∧
      reservedSource src.toNat = false ∧ s.domOn (sourceDomain src.toNat) = true) ∧
    (∃ s : State, ∃ who : Agent, ∃ src : BitVec 9, s.Takes who 0 ∧ ((320 ≤ src.toNat ∨ levelSource src.toNat = true ∨
      reservedSource src.toNat = true ∨ s.domOn (sourceDomain src.toNat) = false))) :=
  ⟨⟨{ run with kx.pulses := [34] }, 34, by decide +kernel⟩,
   ⟨{ run with kx.pulses := [34], tills := [sec 0x020 ([1, 0, 0, 0] ++ leBytes 4 0x00012022 ++ leBytes 4 3)] }, 34, .a, ⟨34, 2, 1, 3, false, false⟩,
     by decide +kernel⟩,
   ⟨(put run [(F.KX_STATUS_ROUTING, 0)]), by decide +kernel⟩,
   ⟨(put run [(F.KX_STATUS_ROUTING, 1)]), 1, 0, by decide +kernel⟩,
   ⟨(put run [(F.KX_STATUS_ROUTING, 1)]), (.core .a false), 34, by decide +kernel⟩,
   ⟨run, (.core .a false), 511, by decide +kernel⟩⟩

/-- The hypotheses of each clause of Obligations.HostAccessesAct can be met. -/
theorem witness_HostAccessesAct :
    (∃ s : State, ∃ port : BitVec 16, ∃ a : Word, ∃ n : Nat, ∃ bad : Bool, ∃ p ∈ [(Instr.espiIoRead port n bad, 0, port.toNat), (.espiMemRead a n
      bad, 1, a.toNat)], s.linkLive = true ∧ (bad = false ∨ s.on F.HST_LINK_CRC_EN = false) ∧ s.hst.defer = none ∧ s.claims p.2.1 p.2.2 = none) ∧
    (∃ s : State, ∃ port : BitVec 16, ∃ a : Word, ∃ n : Nat, ∃ bad : Bool, ∃ p ∈ [(Instr.espiIoRead port n bad, 0, port.toNat), (.espiMemRead a n
      bad, 1, a.toNat)], ∃ te : TellerEntry, s.linkLive = true ∧ (bad = false ∨ s.on F.HST_LINK_CRC_EN = false) ∧ s.hst.defer = none ∧ s.claims
      p.2.1 p.2.2 = some te ∧ te.allows false = false) ∧
    (∃ s : State, ∃ port : BitVec 16, ∃ a : Word, ∃ n : Nat, ∃ bad : Bool, ∃ p ∈ [(Instr.espiIoRead port n bad, 0, port.toNat), (.espiMemRead a n
      bad, 1, a.toNat)], ∃ te : TellerEntry, s.linkLive = true ∧ (bad = false ∨ s.on F.HST_LINK_CRC_EN = false) ∧ s.hst.defer = none ∧ s.claims
      p.2.1 p.2.2 = some te ∧ te.allows false = true ∧ te.kind = 5 ∧ inWindow te p.2.2 n = n) ∧
    (∃ s : State, ∃ port : BitVec 16, ∃ a : Word, ∃ n : Nat, ∃ bad : Bool, ∃ p ∈ [(Instr.espiIoRead port n bad, 0, port.toNat), (.espiMemRead a n
      bad, 1, a.toNat)], ∃ te : TellerEntry, s.linkLive = true ∧ (bad = false ∨ s.on F.HST_LINK_CRC_EN = false) ∧ s.hst.defer = none ∧ s.claims
      p.2.1 p.2.2 = some te ∧ te.allows false = true ∧ te.kind = 0) ∧
    (∃ s : State, ∃ port : BitVec 16, ∃ a : Word, ∃ data : List Byte, ∃ us : Nat, ∃ bad : Bool, ∃ p ∈ [(Instr.espiIoWrite port data us bad, 0,
      port.toNat), (.espiMemWrite a data bad, 1, a.toNat)], s.linkLive = true ∧ (bad = false ∨ s.on F.HST_LINK_CRC_EN = false) ∧ s.hst.defer = none
      ∧ (p.2.1 = 0 ∨ s.postedFree = true) ∧ s.claims p.2.1 p.2.2 = none) ∧
    (∃ s : State, ∃ port : BitVec 16, ∃ a : Word, ∃ data : List Byte, ∃ us : Nat, ∃ bad : Bool, ∃ p ∈ [(Instr.espiIoWrite port data us bad, 0,
      port.toNat), (.espiMemWrite a data bad, 1, a.toNat)], ∃ te : TellerEntry, s.linkLive = true ∧ (bad = false ∨ s.on F.HST_LINK_CRC_EN = false)
      ∧ s.hst.defer = none ∧ (p.2.1 = 0 ∨ s.postedFree = true) ∧ s.claims p.2.1 p.2.2 = some te ∧ te.allows true = false) ∧
    (∃ s : State, ∃ port : BitVec 16, ∃ a : Word, ∃ data : List Byte, ∃ us : Nat, ∃ bad : Bool, ∃ p ∈ [(Instr.espiIoWrite port data us bad, 0,
      port.toNat), (.espiMemWrite a data bad, 1, a.toNat)], ∃ te : TellerEntry, s.linkLive = true ∧ (bad = false ∨ s.on F.HST_LINK_CRC_EN = false)
      ∧ s.hst.defer = none ∧ (p.2.1 = 0 ∨ s.postedFree = true) ∧ s.claims p.2.1 p.2.2 = some te ∧ te.allows true = true ∧ te.kind = 5 ∧ inWindow te
      p.2.2 data.length = data.length) ∧
    (∃ s : State, ∃ port : BitVec 16, ∃ a : Word, ∃ data : List Byte, ∃ us : Nat, ∃ bad : Bool, ∃ p ∈ [(Instr.espiIoWrite port data us bad, 0,
      port.toNat), (.espiMemWrite a data bad, 1, a.toNat)], ∃ te : TellerEntry, s.linkLive = true ∧ (bad = false ∨ s.on F.HST_LINK_CRC_EN = false)
      ∧ s.hst.defer = none ∧ (p.2.1 = 0 ∨ s.postedFree = true) ∧ s.claims p.2.1 p.2.2 = some te ∧ te.allows true = true ∧ te.kind = 0) ∧
    (∃ s : State, s.linkLive = true ∧ s.postedFree = false) ∧
    (∃ s : State, ∃ port : BitVec 16, ∃ te : TellerEntry, s.linkLive = true ∧ s.hst.defer = none ∧ s.claims 0 port.toNat = some te ∧ te.allows
      false = true ∧ te.kind = 1 ∧ bits te.addr 15 0 = port.toNat) ∧
    (∃ s : State, ∃ port : BitVec 16, ∃ te : TellerEntry, s.linkLive = true ∧ s.hst.defer = none ∧ s.claims 0 port.toNat = some te ∧ te.allows true
      = true ∧ te.kind = 1 ∧ bits te.addr 15 0 = port.toNat) ∧
    (∃ s : State, s.linkLive = true ∧ s.hst.defer.isSome = true) ∧
    (∃ s : State, s.linkLive = true ∧ s.on F.HST_LINK_CRC_EN = true) ∧
    (∃ s : State, s.linkLive = false) :=
  ⟨⟨run, 0, 0, 0, false, _, .head _, by decide +kernel⟩,
   ⟨(host [2, 5, 0, 1, 0x60, 0, 0, 0, 4, 0, 1, 0, 0, 0, 16, 0]), 0x60, 0, 1, false, _, .head _, ((host [2, 5, 0, 1, 0x60, 0, 0, 0, 4, 0, 1, 0, 0,
     0, 16, 0]).claims 0 0x60).get (by decide +kernel), by decide +kernel⟩,
   ⟨(host [2, 5, 0, 1, 0x60, 0, 0, 0, 4, 3, 1, 0, 0, 0, 16, 0]), 0x60, 0, 1, false, _, .head _, ((host [2, 5, 0, 1, 0x60, 0, 0, 0, 4, 3, 1, 0, 0,
     0, 16, 0]).claims 0 0x60).get (by decide +kernel), by decide +kernel⟩,
   ⟨(host [2, 0, 0, 1, 0x60, 0, 0, 0, 4, 3, 1, 0, 0, 0, 16, 0]), 0x60, 0, 1, false, _, .head _, ((host [2, 0, 0, 1, 0x60, 0, 0, 0, 4, 3, 1, 0, 0,
     0, 16, 0]).claims 0 0x60).get (by decide +kernel), by decide +kernel⟩,
   ⟨run, 0, 0, [], 0, false, _, .head _, by decide +kernel⟩,
   ⟨(host [2, 5, 0, 1, 0x60, 0, 0, 0, 4, 0, 1, 0, 0, 0, 16, 0]), 0x60, 0, [0], 0, false, _, .head _, ((host [2, 5, 0, 1, 0x60, 0, 0, 0, 4, 0, 1, 0,
     0, 0, 16, 0]).claims 0 0x60).get (by decide +kernel), by decide +kernel⟩,
   ⟨(host [2, 5, 0, 1, 0x60, 0, 0, 0, 4, 3, 1, 0, 0, 0, 16, 0]), 0x60, 0, [0], 0, false, _, .head _, ((host [2, 5, 0, 1, 0x60, 0, 0, 0, 4, 3, 1, 0,
     0, 0, 16, 0]).claims 0 0x60).get (by decide +kernel), by decide +kernel⟩,
   ⟨(host [2, 0, 0, 1, 0x60, 0, 0, 0, 4, 3, 1, 0, 0, 0, 16, 0]), 0x60, 0, [0], 0, false, _, .head _, ((host [2, 0, 0, 1, 0x60, 0, 0, 0, 4, 3, 1, 0,
     0, 0, 16, 0]).claims 0 0x60).get (by decide +kernel), by decide +kernel⟩,
   ⟨{ run with hst.queueA := List.replicate 4 ⟨4, 1, 0, false, false, 1, 0, 0, 0xFF, 0, false, false⟩ }, by decide +kernel⟩,
   ⟨kbc, 0x60, (((kbc : State).claims 0 0x60).get (by decide +kernel)), by decide +kernel⟩,
   ⟨kbc, 0x60, (((kbc : State).claims 0 0x60).get (by decide +kernel)), by decide +kernel⟩,
   ⟨{ run with hst.defer := some (1, []) }, by decide +kernel⟩,
   ⟨(put run [(F.HST_LINK_CRC_EN, 1)]), by decide +kernel⟩,
   ⟨(put run [(F.HST_STATUS_LIVE, 0)]), by decide +kernel⟩⟩

/-- The hypotheses of each clause of Obligations.HostLinkActs can be met. -/
theorem witness_HostLinkActs :
    (∃ s : State, s.linkLive = true) ∧
    (∃ s : State, s.linkLive = true ∧ bit (s.rd F.HST_LINK_CH_EN) 1 = true) ∧
    (∃ s : State, s.live domHOST = true ∧ bit (s.rd F.HST_VW_IN_WIRES) 6 = true ∧ s.hst.defer = none) ∧
    (∃ s : State, s.live domHOST = true ∧ bit (s.rd F.HST_VW_IN_WIRES) 6 = true ∧ s.hst.defer.isSome = true) ∧
    (∃ s : State, s.live domHOST = true ∧ bit (s.rd F.HST_VW_IN_WIRES) 5 = true) :=
  ⟨⟨run, by decide +kernel⟩,
   ⟨(put run [(F.HST_LINK_CH_EN, 15)]), by decide +kernel⟩,
   ⟨(put run [(F.HST_VW_IN_WIRES, 64)]), by decide +kernel⟩,
   ⟨{ (put run [(F.HST_VW_IN_WIRES, 64)]) with hst.defer := some (1, []) }, by decide +kernel⟩,
   ⟨(put run [(F.HST_VW_IN_WIRES, 32)]), by decide +kernel⟩⟩

/-- The hypotheses of each clause of Obligations.OobAndConsoleAct can be met. -/
theorem witness_OobAndConsoleAct :
    (∃ s : State, ∃ pkt : List Byte, s.linkLive = true ∧ s.hst.oobRx.length < 2 ∧ s.tellers.find? (fun t => t.binding == 2 && bits t.addr 7 0 ==
      u8At pkt 0) = none) ∧
    (∃ s : State, ∃ pkt : List Byte, ∃ te : TellerEntry, s.linkLive = true ∧ (s.tellers.find? (fun t => t.binding == 2 && bits t.addr 7 0 == u8At
      pkt 0) = some te) ∧ te.kind ≠ 5 ∧ s.hst.oobRx.length < 2) ∧
    (∃ s : State, s.linkLive = true ∧ s.hst.oobRx.length = 2) ∧
    (∃ s : State, ∃ pkt : List Byte, ∃ te : TellerEntry, s.linkLive = true ∧ s.hst.oobRx.length < 2 ∧ s.tellers.find? (fun t => t.binding == 2 &&
      bits t.addr 7 0 == u8At pkt 0) = some te ∧ te.kind = 5 ∧ u8At pkt 1 < 128 ∧ te.allows true = true) ∧
    (∃ s : State, s.linkLive = true ∧ s.hst.oobTx = []) ∧
    (∃ s : State, ∃ src : Option Nat, ∃ pkt : List Byte, ∃ rest : List (Option Nat × List Byte), s.linkLive = true ∧ s.hst.oobTx = (src, pkt) ::
      rest) ∧
    (∃ s : State, ∃ pkt : List Byte, ∃ rest : List (List Byte), ∃ te : TellerEntry, s.live domHOST = true ∧ s.hst.oobRx = pkt :: rest ∧
      (s.tellers.find? (fun t => t.binding == 2 && t.kind == 0 && bits t.addr 7 0 == u8At pkt 0) = some te) ∧ bit (memWord s.mem (te.at 0)) 8 =
      false) ∧
    (∃ s : State, ∃ n : BitVec 7, ∃ te : TellerEntry, s.Open domHOST ∧ s.oobTeller (oobCtl n 2) = some te ∧ bit (memWord s.mem (te.at 80)) 8 =
      true) ∧
    (∃ s : State, ∃ n : BitVec 7, ∃ te : TellerEntry, s.Open domHOST ∧ s.oobTeller (oobCtl n 1) = some te) ∧
    (∃ s : State, ∃ te : TellerEntry, s.live domHOST = true ∧ s.pinned .consRxd = true ∧ s.consoleTeller = some te ∧ 4 < te.ramSize ∧ te.ramSize ≤
      0x4000 ∧ (memHalf s.mem (te.at 0) % (te.ramSize - 4) + 1) % (te.ramSize - 4) ≠ memHalf s.mem (te.at 2)) ∧
    (∃ s : State, ∃ te : TellerEntry, s.live domHOST = true ∧ s.pinned .consRxd = true ∧ s.consoleTeller = some te ∧ (memHalf s.mem (te.at 0) %
      (te.ramSize - 4) + 1) % (te.ramSize - 4) = memHalf s.mem (te.at 2)) ∧
    (∃ s : State, s.Open domHOST ∧ s.hst.consTx.length < 16) ∧
    (∃ s : State, s.Open domHOST ∧ 16 ≤ s.hst.consTx.length) ∧
    (∃ s : State, ∃ x : Byte, ∃ r : List Byte, s.live domHOST = true ∧ s.hst.consTx = x :: r) :=
  ⟨⟨run, [], by decide +kernel⟩,
   ⟨((oob 0)), [0x20, 0], (((((oob 0)) : State).tellers.find? (fun t => t.binding == 2 && bits t.addr 7 0 == u8At [0x20, 0] 0)).get
     (by decide +kernel)), by decide +kernel⟩,
   ⟨{ run with hst.oobRx := [[], []] }, by decide +kernel⟩,
   ⟨(oob 5), [0x20, 0], ((oob 5).tellers.find? (fun t => t.binding == 2 && bits t.addr 7 0 == u8At [0x20, 0] 0)).get (by decide +kernel),
     by decide +kernel⟩,
   ⟨run, by decide +kernel⟩,
   ⟨{ run with hst.oobTx := [(none, [1])] }, none, [1], [], by decide +kernel⟩,
   ⟨{ ((oob 0)) with hst.oobRx := [[0x20, 0]] }, [0x20, 0], [], ((({ ((oob 0)) with hst.oobRx := [[0x20, 0]] } : State).tellers.find? (fun t =>
     t.binding == 2 && bits t.addr 7 0 == u8At [0x20, 0] 0)).get (by decide +kernel)), by decide +kernel⟩,
   ⟨{ ((oob 0)) with mem := [(0x24000051, 1)] }, 4, ((({ ((oob 0)) with mem := [(0x24000051, 1)] } : State).oobTeller (oobCtl 4 2)).get
     (by decide +kernel)), by decide +kernel⟩,
   ⟨((oob 0)), 4, (((((oob 0)) : State).oobTeller (oobCtl 4 1)).get (by decide +kernel)), by decide +kernel⟩,
   ⟨cons, (((cons : State).consoleTeller).get (by decide +kernel)), by decide +kernel⟩,
   ⟨{ cons with mem := [(0x24000002, 1)] }, ((({ cons with mem := [(0x24000002, 1)] } : State).consoleTeller).get (by decide +kernel)),
     by decide +kernel⟩,
   ⟨run, by decide +kernel⟩,
   ⟨{ run with hst.consTx := List.replicate 16 0 }, by decide +kernel⟩,
   ⟨{ run with hst.consTx := [7] }, 7, [], by decide +kernel⟩⟩

/-- The hypotheses of each clause of Obligations.TellersAct can be met. -/
theorem witness_TellersAct :
    (∃ s : State, ∃ c : Core, ∃ r : TlrReq, ∃ q : List TlrReq, s.Open domHOST ∧ s.tlrQueue (c.num + 1) = r :: q ∧ (s.hst.held.any fun h => h.owner
      == c.num + 1) = false ∧ (r.binding ≠ 3 ∨ r.waits = false)) ∧
    (∃ s : State, ∃ c : Core, ∃ r : TlrReq, ∃ q : List TlrReq, ∃ got : List Byte, s.Open domHOST ∧ s.tlrQueue (c.num + 1) = r :: q ∧
      (s.hst.held.any fun h => h.owner == c.num + 1) = false ∧ r.binding ≠ 3 ∧ r.waits = true ∧ r.write = false ∧ s.hst.defer = some (1, got)) ∧
    (∃ s : State, ∃ c : Core, ∃ r : TlrReq, ∃ q : List TlrReq, ∃ g : TwTarget, s.Open domHOST ∧ s.tlrQueue (c.num + 1) = r :: q ∧ (s.hst.held.any
      fun h => h.owner == c.num + 1) = false ∧ r.binding = 3 ∧ r.waits = true ∧ r.bytes = 1 ∧ (s.twp r.port).tgt = some g ∧ g.rest = 1) ∧
    (∃ s : State, ∃ who : Agent, ∃ c : Core, s.Open domHOST ∧ ((s.tlrQueue (c.num + 1) = [] ∨ who.isCore c = false))) ∧
    (∃ s : State, ∃ c : Core, ∃ k : Nat, ∃ r : TlrReq, s.live domHOST = true ∧ (s.tlrQueue (c.num + 1))[k]? = some r ∧ r.waits = true) ∧
    (∃ s : State, ∃ k : Nat, ∃ r : TlrReq, s.live domHOST = true ∧ s.hst.held[k]? = some r ∧ r.waits = true) ∧
    (∃ s : State, s.live domHOST = true ∧ s.hst.kbc.fw = true ∧ s.on F.HST_KBC_CMD_PENDING = true) ∧
    (∃ s : State, s.live domHOST = true ∧ s.hst.eci.fw = true ∧ s.on F.HST_ECI_CMD_PENDING = true) :=
  ⟨⟨{ run with hst.queueA := [⟨4, 1, 0, false, false, 1, 0, 0, 0xFF, 0, false, false⟩] }, .a, ⟨4, 1, 0, false, false, 1, 0, 0, 0xFF, 0, false, false⟩,
     [], by decide +kernel⟩,
   ⟨{ run with hst.queueA := [⟨4, 1, 0, false, false, 1, 0, 0, 0xFF, 0, false, false⟩], hst.defer := some (1, []) }, .a, ⟨4, 1, 0, false, false, 1,
     0, 0, 0xFF, 0, false, false⟩, [], [], by decide +kernel⟩,
   ⟨{ run with hst.queueA := [⟨6, 1, 3, false, false, 1, 0, 0, 0xFF, 0, false, false⟩], twb.ports := { tgt := some ⟨0x30, true, [], 1, 0, [], false⟩ } :: List.replicate 5 {} },
     .a, ⟨6, 1, 3, false, false, 1, 0, 0, 0xFF, 0, false, false⟩, [], ⟨0x30, true, [], 1, 0, [], false⟩, by decide +kernel⟩,
   ⟨run, (.core .a false), .a, by decide +kernel⟩,
   ⟨{ run with hst.queueA := [⟨4, 1, 0, false, false, 1, 0, 0, 0xFF, 0, false, false⟩] }, .a, 0, ⟨4, 1, 0, false, false, 1, 0, 0, 0xFF, 0, false,
     false⟩, by decide +kernel⟩,
   ⟨{ run with hst.held := [⟨4, 1, 0, false, false, 1, 0, 0, 0xFF, 0, false, false⟩] }, 0, ⟨4, 1, 0, false, false, 1, 0, 0, 0xFF, 0, false, false⟩,
     by decide +kernel⟩,
   ⟨{ (put run [(F.HST_KBC_CMD_PENDING, 1)]) with hst.kbc.fw := true }, by decide +kernel⟩,
   ⟨{ (put run [(F.HST_ECI_CMD_PENDING, 1)]) with hst.eci.fw := true }, by decide +kernel⟩⟩

/-- The hypotheses of each clause of Obligations.AutotellersAct can be met. -/
theorem witness_AutotellersAct :
    (∃ s : State, ∃ u : State, s.live domHOST = true ∧ s.kbcTeller.isSome = true ∧ s.kbcBit 1 = true ∧ s.hst.kbc.fw = false ∧ s.kbcBit 3 = true ∧
      (s.modKbc fun k => { k with param := none }).kbcCommand s.hst.kbc.inByte = some u) ∧
    (∃ s : State, s.live domHOST = true ∧ s.kbcTeller.isSome = true ∧ s.kbcBit 1 = true ∧ s.hst.kbc.fw = false ∧ s.kbcBit 3 = true ∧
      s.hst.kbc.inByte = 0xAA) ∧
    (∃ s : State, s.live domHOST = true ∧ s.kbcTeller.isSome = true ∧ s.kbcBit 1 = true ∧ s.hst.kbc.fw = false ∧ s.kbcBit 3 = true ∧ (s.modKbc fun
      k => { k with param := none }).kbcCommand s.hst.kbc.inByte = none) ∧
    (∃ s : State, s.live domHOST = true ∧ s.kbcTeller.isSome = true ∧ s.kbcBit 1 = true ∧ s.hst.kbc.fw = false ∧ s.kbcBit 3 = false ∧
      s.hst.kbc.param = none ∧ s.hst.kbc.kbdParam = none ∧ s.hst.kbc.inByte = 0xEE) ∧
    (∃ s : State, s.live domHOST = true ∧ s.hst.kbc.resetDue = true) ∧
    (∃ s : State, ∃ w : Word, s.Open domHOST ∧ F.HST_KBC_CMD_PENDING.has w = true) ∧
    (∃ s : State, ∃ w : Word, s.Open domHOST ∧ F.HST_ECI_CMD_PENDING.has w = true) ∧
    (∃ s : State, s.Open domHOST ∧ s.hst.kbc.put.length < 4) ∧
    (∃ s : State, s.Open domHOST ∧ 4 ≤ s.hst.kbc.put.length) ∧
    (∃ s : State, ∃ x : Nat, ∃ kind : Nat, ∃ r : List (Nat × Nat), s.live domHOST = true ∧ s.kbcTeller.isSome = true ∧ s.kbcBit 0 = false ∧
      s.hst.kbc.ctl = (x, kind) :: r ∧ (kind ≠ 2 ∨ s.xlatOn = false)) ∧
    (∃ s : State, s.live domHOST = true ∧ s.eciTeller.isSome = true ∧ s.hst.eci.ibf = true ∧ s.hst.eci.fw = false ∧ s.hst.eci.cmdFlag = true ∧
      s.hst.eci.inByte = 0x82) ∧
    (∃ s : State, s.live domHOST = true ∧ s.eciTeller.isSome = true ∧ s.hst.eci.ibf = true ∧ s.hst.eci.fw = false ∧ s.hst.eci.cmdFlag = false ∧
      s.hst.eci.cmd = some 0x80) ∧
    (∃ s : State, ∃ w : Word, s.Open domHOST ∧ F.HST_ECI_QUERY_VALUE.of w ≠ 0 ∧ F.HST_ECI_QUERY_VALUE.of w ∉ s.hst.eci.query ∧
      s.hst.eci.query.length < 16) ∧
    (∃ s : State, s.Open domHOST ∧ s.hst.eci.obf = false) ∧
    (∃ s : State, s.Open domHOST ∧ s.hst.eci.obf = true) ∧
    (∃ s : State, ∃ te : TellerEntry, s.live domHOST = true ∧ s.hst.nvx.busy = true ∧ s.nvxTeller = some te) :=
  ⟨⟨{ (put kbc [(F.HST_KBC_STAT_STATUS, 10)]) with hst.kbc.inByte := 0x20 },
     ((({ (put kbc [(F.HST_KBC_STAT_STATUS, 10)]) with hst.kbc.inByte := 0x20 } : State).modKbc fun k => { k with param := none }).kbcCommand
     0x20).get (by decide +kernel), by decide +kernel⟩,
   ⟨{ (put kbc [(F.HST_KBC_STAT_STATUS, 10)]) with hst.kbc.inByte := 0xAA }, by decide +kernel⟩,
   ⟨{ (put kbc [(F.HST_KBC_STAT_STATUS, 10)]) with hst.kbc.inByte := 0x00 }, by decide +kernel⟩,
   ⟨{ (put kbc [(F.HST_KBC_STAT_STATUS, 2)]) with hst.kbc.inByte := 0xEE }, by decide +kernel⟩,
   ⟨{ run with hst.kbc.resetDue := true }, by decide +kernel⟩,
   ⟨run, 0x80000000, by decide +kernel⟩,
   ⟨run, 0x80000000, by decide +kernel⟩,
   ⟨run, by decide +kernel⟩,
   ⟨{ run with hst.kbc.put := List.replicate 4 (0, false) }, by decide +kernel⟩,
   ⟨{ kbc with hst.kbc.ctl := [(7, 0)] }, 7, 0, [], by decide +kernel⟩,
   ⟨{ eci with hst.eci.ibf := true, hst.eci.cmdFlag := true, hst.eci.inByte := 0x82 }, by decide +kernel⟩,
   ⟨{ eci with hst.eci.ibf := true, hst.eci.cmd := some 0x80 }, by decide +kernel⟩,
   ⟨run, 1, by decide +kernel⟩,
   ⟨run, by decide +kernel⟩,
   ⟨{ run with hst.eci.obf := true }, by decide +kernel⟩,
   ⟨{ host [5, 4, 0, 1, 0x68, 0, 0, 0, 2, 3, 1, 0, 0, 0, 0x20, 1] with hst.nvx.busy := true },
     (({ host [5, 4, 0, 1, 0x68, 0, 0, 0, 2, 3, 1, 0, 0, 0, 0x20, 1] with hst.nvx.busy := true } : State).nvxTeller).get (by decide +kernel),
     by decide +kernel⟩⟩

/-- The hypotheses of each clause of Obligations.KeyboardActs can be met. -/
theorem witness_KeyboardActs :
    (∃ s : State, s.live domKBD = true ∧ s.on F.KBD_STATUS_RUNNING = true ∧ s.kbd.inFrame = false ∧ s.drives ≤ 20 ∧ s.senses ≤ 16) ∧
    (∃ s : State, s.on F.KBD_STATUS_RUNNING = false) ∧
    (∃ s : State, s.live domKBD = true ∧ s.kbd.inFrame = true) ∧
    (∃ s : State, ∃ m : MakeRec, s.live domKBD = true ∧ s.kbd.inFrame = true ∧ s.kbd.accBreaks = [] ∧ s.kbd.accMakes = [m] ∧ m.kind ≠ 0 ∧ s.rd
      F.KBD_CFG_DELIVER = 1 ∧ s.kbd.fifo.length < 32) ∧
    (∃ s : State, ∃ i : Nat, i < 36 ∧ s.kbd.measSet = some i ∧ s.live domKBD = true ∧ s.kbd.inFrame = true ∧ s.kbd.lineDone = false ∧ s.lineBusy i
      = false) ∧
    (∃ s : State, s.live domKBD = true ∧ s.rd F.KBD_CFG_MEAS_PERIOD ≠ 0 ∧ s.kbd.measSet = none) ∧
    (∃ s : State, ∃ who : Agent, s.Takes who domKBD ∧ s.kbd.measSet = none) ∧
    (∃ s : State, ∃ who : Agent, s.Takes who domKBD) ∧
    (∃ s : State, ∃ p : Nat, ∃ m : MakeRec, ∃ when : Nat, s.live domKBD = true ∧ s.on F.KBD_CFG_REPEAT_EN = true ∧ s.kbd.typematic = some p ∧
      s.kbd.makes.find? (·.pos == p) = some m ∧ m.kind ≠ 0 ∧ s.rd F.KBD_CFG_DELIVER = 1 ∧ s.kbd.fifo.length < 32 ∧ s.kbd.tmLeft ≤ when) ∧
    (∃ s : State, ∃ when : Nat, (when : Int) < s.kbd.tmLeft) ∧
    (∃ s : State, s.live domKBD = true ∧ s.on F.KBD_CFG_REPEAT_EN = true ∧ s.kbd.tmBroken = true ∧ s.rd F.KBD_COINCIDE_COUNT < 65535) ∧
    (∃ s : State, ∃ x : Nat, ∃ r : List Nat, s.live domKBD = true ∧ s.linkLive = true ∧ s.kbcTeller.isSome = true ∧ s.rd F.HST_KBC_STAT_FIFO < 16 ∧
      s.kbd.staging = x :: r ∧ s.kbd.overrun = false) ∧
    (∃ s : State, ∃ e : Word, ∃ r : List Word, s.Open domKBD ∧ s.kbd.fifo = e :: r) ∧
    (∃ s : State, s.Open domKBD) ∧
    (∃ s : State, ∃ i : Fin 16, s.pwr.phase = .stopped ∧ s.pinned (.kbdSns i.val) = true ∧ bit s.kbd.maskSense i.val = false) ∧
    (∃ s : State, s.pwr.phase = .stopped) :=
  ⟨⟨(put run [(F.KBD_STATUS_RUNNING, 1)]), by decide +kernel⟩,
   ⟨run, by decide +kernel⟩,
   ⟨{ run with kbd.inFrame := true }, by decide +kernel⟩,
   ⟨{ (put run [(F.KBD_CFG_DELIVER, 1)]) with kbd.inFrame := true, kbd.accMakes := [⟨0, 0x1004, 0⟩] }, ⟨0, 0x1004, 0⟩, by decide +kernel⟩,
   ⟨{ run with kbd.inFrame := true, kbd.measSet := some 0 }, 0, by decide +kernel⟩,
   ⟨(put run [(F.KBD_CFG_MEAS_PERIOD, 1)]), by decide +kernel⟩,
   ⟨run, (.core .a false), by decide +kernel⟩,
   ⟨run, (.core .a false), by decide +kernel⟩,
   ⟨{ (put run [(F.KBD_CFG_REPEAT_EN, 1), (F.KBD_CFG_DELIVER, 1)]) with kbd.makes := [⟨0, 0x1004, 0⟩], kbd.typematic := some 0 }, 0, ⟨0, 0x1004,
     0⟩, 0, by decide +kernel⟩,
   ⟨{ run with kbd.tmLeft := 1 }, 0, by decide +kernel⟩,
   ⟨{ (put run [(F.KBD_CFG_REPEAT_EN, 1)]) with kbd.tmBroken := true }, by decide +kernel⟩,
   ⟨{ kbc with kbd.staging := [7] }, 7, [], by decide +kernel⟩,
   ⟨{ run with kbd.fifo := [5] }, 5, [], by decide +kernel⟩,
   ⟨run, by decide +kernel⟩,
   ⟨{ (pins (60 + 3 * 2 ^ 24)) with pwr.phase := .stopped }, 0, by decide +kernel⟩,
   ⟨{ run with pwr.phase := .stopped }, by decide +kernel⟩⟩

/-- The hypotheses of each clause of Obligations.CalendarActs can be met. -/
theorem witness_CalendarActs :
    (∃ s : State, s.cal.setDue = false ∧ s.cal.rateDue = none) ∧
    (∃ s : State, s.cal.setDue = true) ∧
    (∃ s : State, s.cal.setDue = false ∧ s.cal.rateDue = none ∧ s.cal.frac < 2 ^ 32 ∧ s.cal.count < 2 ^ 64) ∧
    (∃ s : State, ∃ k : Fin 2, s.live 0 = true ∧ s.on (alarmEn k) = true ∧ (secondsOf s.cal.count + 2 ^ 40 - s.alarmValue k) % 2 ^ 40 < 2 ^ 39 ∧
      s.on F.KX_STATUS_ROUTING = true) ∧
    (∃ s : State, ∃ k : Fin 2, ((s.on (alarmEn k) = false ∨ 2 ^ 39 ≤ (secondsOf s.cal.count + 2 ^ 40 - s.alarmValue k) % 2 ^ 40))) ∧
    (∃ s : State, ∃ since : Nat, s.live 0 = true ∧ s.cal.started = true ∧ s.on F.CAL_CFG_PPS_EN = true ∧ s.pinned .ppsIn = true ∧
      s.cal.considered ≠ some (s.cal.phase since).2 ∧ -(1000 * s.rd F.CAL_CFG_PPS_WIN : Nat) ≤ (s.cal.phase since).1 ∧
      (s.cal.phase since).1 ≤ (1000 * s.rd F.CAL_CFG_PPS_WIN : Nat) ∧ s.cal.setDue = false) ∧
    (∃ s : State, ∃ since : Nat, s.live 0 = true ∧ s.cal.started = true ∧ s.on F.CAL_CFG_PPS_EN = true ∧ s.pinned .ppsIn = true ∧
      s.cal.considered ≠ some (s.cal.phase since).2 ∧ (((s.cal.phase since).1 < -(1000 * s.rd F.CAL_CFG_PPS_WIN : Nat) ∨
      (1000 * s.rd F.CAL_CFG_PPS_WIN : Nat) < (s.cal.phase since).1)) ∧ s.rd F.CAL_STATUS_REJ_RUN < 3) ∧
    (∃ s : State, s.live 0 = true ∧ s.cal.started = true ∧ s.on F.CAL_CFG_PPS_EN = true ∧ s.rd F.CAL_STATUS_STATE ≠ 3 ∧
      2 ^ 25 ≤ s.cal.heldFor s.cal.count + 513) ∧
    (∃ s : State, ∃ who : Agent, s.Takes who 0) ∧
    (∃ s : State, ∃ who : Agent, ∃ key : BitVec 8, s.Takes who 0 ∧ key ≠ 0xCA) ∧
    (∃ s : State, s.domOn 0 = true) ∧
    (∃ s : State, ∃ c : Core, ∃ p : Core × Nat, s.domOn 0 = true ∧ (s.cal.latch.find? (fun p => p.1 == c) = some p)) ∧
    (∃ s : State, s.live 0 = true ∧ s.fl.vinValid = true) ∧
    (∃ s : State, s.live 0 = true ∧ s.fl.vinValid = true ∧ s.pwr.xt32Fail = false) :=
  ⟨⟨run, by decide +kernel⟩,
   ⟨{ run with cal.setDue := true }, by decide +kernel⟩,
   ⟨run, by decide +kernel⟩,
   ⟨(put run [((alarmEn 0), 1), (F.KX_STATUS_ROUTING, 1)]), 0, by decide +kernel⟩,
   ⟨run, 0, by decide +kernel⟩,
   ⟨{ (put pps [(F.CAL_CFG_PPS_EN, 1)]) with cal.started := true }, 0, by decide +kernel⟩,
   ⟨{ (put pps [(F.CAL_CFG_PPS_EN, 1)]) with cal.started := true, cal.count := 2 ^ 23 }, 1000, by decide +kernel⟩,
   ⟨{ (put run [(F.CAL_CFG_PPS_EN, 1)]) with cal.started := true, cal.count := 2 ^ 25 }, by decide +kernel⟩,
   ⟨run, (.core .a false), by decide +kernel⟩,
   ⟨run, (.core .a false), 0, by decide +kernel⟩,
   ⟨run, by decide +kernel⟩,
   ⟨{ run with cal.latch := [(.a, 1)] }, .a, (.a, 1), by decide +kernel⟩,
   ⟨{ run with fl.vinValid := true }, by decide +kernel⟩,
   ⟨{ run with fl.vinValid := true }, by decide +kernel⟩⟩

/-- The hypotheses of each clause of Obligations.TimersAct can be met. -/
theorem witness_TimersAct :
    (∃ s : State, ∃ n : Fin 16, s.live domTIME = true ∧ s.tcOwn n = true ∧ s.toWrap n = s.tcDue n) ∧
    (∃ s : State, ∃ n : Fin 16, ∃ m : Fin 4, s.live domTIME = true ∧ s.tcOwn n = true ∧ s.rd (F.TC_CC_CFG_MODE n m) = 1 ∧ s.toMatch n m = s.tcDue n ∧
      s.toMatch n m < s.toWrap n) ∧
    (∃ s : State, ∃ n : Fin 16, ∃ m : Fin 4, s.live domTIME = true ∧ s.tcOwn n = true ∧ s.tcTimed n m = true ∧ s.toTimeout n m = s.tcDue n ∧
      s.toTimeout n m < s.toWrap n ∧ s.tim.chans.length = 16 ∧ (s.chan n).units.length = 4) ∧
    (∃ s : State, s.Open domTIME) ∧
    (∃ s : State, ∃ who : Agent, ∃ n : Fin 16, ∃ hi : Nat, s.Open domTIME ∧ s.on (F.TC_STAT_RUN n) = false ∧ hi < 2 ^ 16 ∧
      (s.tim.held.find? (fun p => p.1 == who.coreOf && p.2.1 == tcLo n none) = some (who.coreOf, tcLo n none, hi))) ∧
    (∃ s : State, ∃ n : Fin 16, s.Open domTIME ∧ s.on (F.TC_STAT_RUN n) = true) ∧
    (∃ s : State, ∃ who : Agent, ∃ n : Fin 16, ∃ m : Fin 4, s.Open domTIME ∧ s.on (F.TC_CC_CFG_PRELOAD n m) = false ∧
      (s.tim.held.find? (fun p => p.1 == who.coreOf && p.2.1 == tcLo n (some m)) = none)) ∧
    (∃ s : State, s.domOn domTIME = true) ∧
    (∃ s : State, ∃ c : Core, ∃ n : Fin 16, ∃ u : Option (Fin 4), ∃ p : Core × Nat × Nat, s.domOn domTIME = true ∧
      s.on (F.TC_CTRL_WIDE_MODE n) = false ∧ (s.tim.latch.find? (fun p => p.1 == c && p.2.1 == tcLo n u) = some p)) ∧
    (∃ s : State, ∃ n : Fin 16, ∃ m : Fin 4, ∃ rising : Bool, s.live domTIME = true ∧ s.pinned (.tcIn n m) = true ∧ s.rd (F.TC_CC_CFG_MODE n m) = 2 ∧
      bit (s.rd (F.TC_CC_CFG_EDGE n m)) (if rising then 0 else 1) = true ∧ s.rd (F.TC_CC_CFG_EPSC n m) ≤ (s.tunit n m).edges) :=
  ⟨⟨(put run [((F.TC_STAT_RUN 0), 1)]), 0, by decide +kernel⟩,
   ⟨((put run [((F.TC_CC_CFG_MODE 0 0), 1), ((F.TC_STAT_RUN 0), 1), ((F.TC_CC_CFG_MODE 0 0), 1)]) |> (·.setWord (Reg.TC_CC_LO 0 0) 5)), 0, 0,
     by decide +kernel⟩,
   ⟨(put run [((F.TC_STAT_RUN 0), 1), ((F.TC_CC_CFG_MODE 0 0), 2), ((F.TC_STEP_STEP 0 0), 5)]), 0, 0, by decide +kernel⟩,
   ⟨run, by decide +kernel⟩,
   ⟨{ run with tim.held := [(some .a, tcLo 0 none, 1)] }, (.core .a false), 0, 1, by decide +kernel⟩,
   ⟨(put run [((F.TC_STAT_RUN 0), 1)]), 0, by decide +kernel⟩,
   ⟨run, (.core .a false), 0, 0, by decide +kernel⟩,
   ⟨run, by decide +kernel⟩,
   ⟨{ run with tim.latch := [(.a, tcLo 0 none, 1)] }, .a, 0, none, (.a, tcLo 0 none, 1), by decide +kernel⟩,
   ⟨(put (pins (96 + 2 * 2 ^ 24)) [(F.AO_PAD_STAT_A_OK, 1), (F.TC_CC_CFG_MODE 0 0, 2), (F.TC_CC_CFG_EDGE 0 0, 3)]), 0, 0, false, by decide +kernel⟩⟩

/-- The hypotheses of each clause of Obligations.MeasurementActs can be met. -/
theorem witness_MeasurementActs :
    (∃ s : State, ∃ lists : BitVec 8, ∃ k : Fin 8, s.Open domAREF ∧ lists.getLsbD k = true ∧ s.on (F.ADC_SL_CFG_EN k) = true ∧ s.on
      (F.ADC_SL_CFG_MODE k) = false ∧ s.anyLive = true ∧ s.on (F.ADC_SL_STAT_PENDING k) = false ∧ s.listSlice k = none) ∧
    (∃ s : State, ∃ lists : BitVec 8, ∃ k : Fin 8, s.Open domAREF ∧ lists.getLsbD k = true ∧ s.on (F.ADC_SL_CFG_EN k) = true ∧ s.on
      (F.ADC_SL_CFG_MODE k) = false ∧ s.on (F.ADC_SL_STAT_PENDING k) = true ∧ s.rd (F.ADC_SL_OVR_COUNT k) < 65535) ∧
    (∃ s : State, s.Open domAREF ∧ s.adc.survey = none) ∧
    (∃ s : State, s.live domAREF = true ∧ s.rd F.ADC_CFG_SURVEY_S ≠ 0 ∧ s.adc.survey = none) ∧
    (∃ s : State, ∃ x k : Nat, s.live domAREF = true ∧ s.nextSlice = some x ∧ s.nextList = some k ∧ s.adc.slices.length = 3) ∧
    (∃ s : State, ∃ x : Fin 3, ∃ p : AdcPass, (s.slc x).pass = some p ∧ s.live domAREF = true ∧ s.slcOn x = true ∧ p.held = false ∧ p.idx < p.len ∧
      p.restart = false ∧ p.list < 8 ∧ p.idx < 16) ∧
    (∃ s : State, ∃ x : Fin 3, ∃ p : AdcPass, (s.slc x).pass = some p ∧ s.domOn domAREF = true ∧ s.frozen domAREF = true ∧ s.slcOn x = true ∧
      p.held = false ∧ p.idx < p.len ∧ p.list < 8 ∧ p.idx < 16) ∧
    (∃ s : State, ∃ x : Fin 3, ∃ p : AdcPass, (s.slc x).pass = some p ∧ s.live domAREF = true ∧ s.slcOn x = true ∧ p.list < 8 ∧ p.len ≤ p.idx) ∧
    (∃ s : State, ∃ inc : Nat, s.live domAREF = true ∧ ((List.range 3).find? (fun x => s.slcOn x && s.slcState x == 4) = some inc)) ∧
    (∃ s : State, ∃ x : Fin 3, ∃ lo hi : Nat, s.live domAREF = true ∧ s.slcOn x = true ∧ s.slcState x = 2 ∧ hi ≤ lo ∧ s.adc.slices.length = 3) ∧
    (∃ s u : State, ∃ x : Fin 3, ∃ vz lo : Nat, ∃ hi : Nat, ∃ off gain : Int, s.live domAREF = true ∧ s.slcOn x = true ∧ s.slcState x = 2 ∧
      s.fitCal lo hi = some ((off, gain), u) ∧ calPasses (u.slc x).rec0 off gain vz = true ∧ s.adc.slices.length = 3) ∧
    (∃ s : State, ∃ x : Fin 3, s.live domAREF = true ∧ s.slcOn x = true ∧ s.slcState x = 5) ∧
    (∃ s : State, ∃ cause x : Nat, s.adc.survey = some cause ∧ s.live domAREF = true ∧ ((List.range 3).find? (fun x => s.slcOn x && s.slcState x ==
      3) = some x)) ∧
    (∃ s : State, ∃ c : Fin 12, s.live domAREF = true ∧ (s.sensor (16 + c.val)).badRun = true ∧ s.sensorFault (16 + c.val) = false) ∧
    (∃ s : State, ∃ c : Fin 12, s.live domAREF = true ∧ (s.sensor (16 + c.val)).goodRun = true ∧ s.sensorFault (16 + c.val) = true) :=
  ⟨⟨(put run [((F.ADC_SL_CFG_EN 0), 1), ((F.ADC_SL_CFG_EN 0), 1)]), 1, 0, by decide +kernel⟩,
   ⟨(put run [((F.ADC_SL_CFG_EN 0), 1), ((F.ADC_SL_STAT_PENDING 0), 1)]), 1, 0, by decide +kernel⟩,
   ⟨run, by decide +kernel⟩,
   ⟨(put run [(F.ADC_CFG_SURVEY_S, 1)]), by decide +kernel⟩,
   ⟨(put run [((F.ADC_SL_CFG_EN 0), 1), ((F.ADC_SL_STAT_PENDING 0), 1)]), 0, 0, by decide +kernel⟩,
   ⟨{ run with adc.slices := [{ pass := some ⟨0, 0, 1, [0], [], false, 0, false⟩ }, {}, {}] }, 0, ⟨0, 0, 1, [0], [], false, 0, false⟩,
     by decide +kernel⟩,
   ⟨{ (put run [(F.AUD_STATUS_FROZEN, 1)]) with adc.slices := [{ pass := some ⟨0, 0, 1, [0], [], false, 0, false⟩ }, {}, {}] }, 0, ⟨0, 0, 1, [0],
     [], false, 0, false⟩, by decide +kernel⟩,
   ⟨{ run with adc.slices := [{ pass := some ⟨0, 1, 1, [0], [], false, 0, false⟩ }, {}, {}] }, 0, ⟨0, 1, 1, [0], [], false, 0, false⟩, by decide +kernel⟩,
   ⟨(put run [((F.ADC_SLICE_STATE 0), 4)]), 0, by decide +kernel⟩,
   ⟨(put run [((F.ADC_SLICE_STATE 0), 2)]), 0, 0, 0, by decide +kernel⟩,
   ⟨{ (put run [((F.ADC_SLICE_STATE 0), 2)]) with adc.slices := [{ rec0 := [24000 * 65536] }, {}, {}] },
     { (put run [((F.ADC_SLICE_STATE 0), 2)]) with adc.slices := [{ rec0 := [24000 * 65536] }, {}, {}] }, 0, 0, 204800, 1843200, 0, 24000,
     by decide +kernel⟩,
   ⟨(put run [((F.ADC_SLICE_STATE 0), 5)]), 0, by decide +kernel⟩,
   ⟨{ (put run [((F.ADC_SLICE_STATE 0), 3)]) with adc.survey := some 1 }, 1, 0, by decide +kernel⟩,
   ⟨{ run with adc.sensors := [{ badRun := true }] }, 0, by decide +kernel⟩,
   ⟨{ (put run [(F.ADC_FAULT_LO_FAULT, 0x10000)]) with adc.sensors := [{ goodRun := true }] }, 0, by decide +kernel⟩⟩

/-- The hypotheses of each clause of Obligations.TwoWireTransactionsAct can be met. -/
theorem witness_TwoWireTransactionsAct :
    (∃ s : State, ∃ p : Fin 6, s.Open domTWB ∧ s.on (F.TWB_STAT_BUSY p) = false ∧ s.on (F.TWB_CFG_EN p) = true ∧ xferBad (s.word (Reg.TWB_XFER p))
      (s.txBuf p) = false ∧ s.twb.ports.length = 6) ∧
    (∃ s : State, ∃ p : Fin 6, s.Open domTWB ∧ s.on (F.TWB_STAT_BUSY p) = false ∧ s.on (F.TWB_CFG_EN p) = false) ∧
    (∃ s : State, ∃ p : Fin 6, s.Open domTWB ∧ s.on (F.TWB_STAT_BUSY p) = false ∧ s.on (F.TWB_CFG_EN p) = true ∧ xferBad (s.word (Reg.TWB_XFER p))
      (s.txBuf p) = true) ∧
    (∃ s : State, ∃ p : Fin 6, s.Open domTWB ∧ s.on (F.TWB_STAT_BUSY p) = true) ∧
    (∃ s : State, ∃ p : Fin 6, s.Open domTWB ∧ s.on (F.TWB_STAT_BUSY p) = true ∧ ((s.twp p).wait = true ∨ (s.twp p).retry = true ∨ (s.twp
      p).clearDue = true)) ∧
    (∃ s : State, ∃ p : Fin 6, s.Open domTWB ∧ s.on (F.TWB_STAT_BUSY p) = true ∧ (s.twp p).wait = false ∧ (s.twp p).retry = false ∧ (s.twp
      p).clearDue = false ∧ s.twb.ports.length = 6) ∧
    (∃ s : State, ∃ p : Fin 6, s.Open domTWB ∧ s.on (F.TWB_STAT_BUSY p) = false ∧ s.on (F.TWB_CFG_EN p) = true ∧ (s.twp p).run = none ∧
      s.twb.ports.length = 6) ∧
    (∃ s : State, ∃ p : Fin 6, s.Open domTWB ∧ s.on (F.TWB_STAT_BUSY p) = false ∧ s.on (F.TWB_CFG_EN p) = true ∧ (s.twp p).run.isSome = true) ∧
    (∃ s : State, ∃ p : Fin 6, s.twOn p = true ∧ (s.twp p).run = none ∧ s.on (F.TWB_STAT_BUS_BUSY p) = false ∧ (s.twp p).wait = true) ∧
    (∃ s : State, ∃ p : Fin 6, s.twOn p = true ∧ (s.twp p).run = none ∧ s.on (F.TWB_STAT_BUS_BUSY p) = false ∧ (s.twp p).wait = false ∧ (s.twp
      p).retry = true ∧ (s.twp p).gap = false) ∧
    (∃ s : State, ∃ p : Fin 6, ∃ k : Fin 8, ∃ r : List Nat, s.twOn p = true ∧ (s.twp p).run = none ∧ s.on (F.TWB_STAT_BUS_BUSY p) = false ∧ (s.twp
      p).wait = false ∧ (s.twp p).retry = false ∧ s.duePolls p = k.val :: r ∧ s.twb.ports.length = 6) ∧
    (∃ s : State, ∃ p : Fin 6, ∃ e : TwEnd, ∃ code : Nat, ∃ idx : Nat, ∃ rx : List Byte, s.live domTWB = true ∧ (s.twp p).run = some .fw ∧ (∀ k rx,
      e = .cut k rx → (s.twp p).abort = true) ∧ xferEnd (s.twp p).xfer (s.twp p).tx e = (code, idx, rx) ∧ idx < 64 ∧ ((code ≠ 1 ∧ code ≠ 3) ∨ bits
      (s.twp p).xfer.toNat 31 29 ≤ s.rd (F.TWB_STAT_TRIES p) ∨ (s.twp p).abort = true)) ∧
    (∃ s : State, ∃ p : Fin 6, ∃ e : TwEnd, ∃ code : Nat, ∃ idx : Nat, ∃ rx : List Byte, s.live domTWB = true ∧ (s.twp p).run = some .fw ∧ (s.twp
      p).abort = false ∧ (s.twp p).clearDue = false ∧ (∀ k rx, e ≠ .cut k rx) ∧ xferEnd (s.twp p).xfer (s.twp p).tx e = (code, idx, rx) ∧ (code = 1
      ∨ code = 3) ∧ s.rd (F.TWB_STAT_TRIES p) < bits (s.twp p).xfer.toNat 31 29) ∧
    (∃ s : State, ∃ p : Fin 6, s.live domTWB = true ∧ (s.twp p).run = some .ara) ∧
    (∃ s : State, ∃ p : Fin 6, ∃ k : Fin 8, ∃ cfg : Word, s.live domTWB = true ∧ (s.twp p).run = some (.poll k cfg) ∧ (s.twp p).clearDue = false) ∧
    (∃ s : State, ∃ p : Fin 6, s.twOn p = true ∧ (s.twp p).retry = true ∧ (s.twp p).run = none ∧ s.on (F.TWB_STAT_BUS_BUSY p) = true) ∧
    (∃ s : State, ∃ p : Fin 6, s.twOn p = true ∧ (s.twp p).retry = true ∧ (s.twp p).run = none ∧ s.on (F.TWB_STAT_BUS_BUSY p) = false) ∧
    (∃ s : State, ∃ p : Fin 6, ∃ idx : Nat, s.live domTWB = true ∧ s.clockLowOn p = true ∧ (s.twp p).run = some .fw ∧ idx < 64) ∧
    (∃ s : State, ∃ p : Fin 6, ∃ scl : Bool, ∃ sda : Bool, ∃ freed : Bool, s.live domTWB = true ∧ s.on (F.TWB_CFG_EN p) = true ∧ (s.twp p).run =
      none ∧ (s.twp p).wait = true ∧ (scl && s.twPinned p && sda) = false ∧ (scl && s.twPinned p && (s.on (F.TWB_CFG_AUTO_CLEAR p) && freed)) =
      false) :=
  ⟨⟨(put run [((F.TWB_CFG_EN 0), 1)]), 0, by decide +kernel⟩,
   ⟨run, 0, by decide +kernel⟩,
   ⟨((put run [((F.TWB_CFG_EN 0), 1)]) |> (·.setWord (Reg.TWB_XFER 0) 0xFF)), 0, by decide +kernel⟩,
   ⟨(put run [((F.TWB_STAT_BUSY 0), 1)]), 0, by decide +kernel⟩,
   ⟨{ (put run [(F.TWB_STAT_BUSY 0, 1)]) with twb.ports := { wait := true } :: List.replicate 5 {} }, 0, by decide +kernel⟩,
   ⟨(put run [(F.TWB_STAT_BUSY 0, 1)]), 0, by decide +kernel⟩,
   ⟨(put run [((F.TWB_CFG_EN 0), 1)]), 0, by decide +kernel⟩,
   ⟨{ (put run [(F.TWB_CFG_EN 0, 1)]) with twb.ports := { run := some (.poll 0 0) } :: List.replicate 5 {} }, 0, by decide +kernel⟩,
   ⟨{ (ported run) with twb.ports := { wait := true } :: List.replicate 5 {} }, 0, by decide +kernel⟩,
   ⟨{ (ported run) with twb.ports := { retry := true } :: List.replicate 5 {} }, 0, by decide +kernel⟩,
   ⟨{ (put (ported run) [(F.TWB_SNS_CFG_EN 3, 1)]) with twb.ports := { polls := [3] } :: List.replicate 5 {} }, 0, 3, [], by decide +kernel⟩,
   ⟨{ run with twb.ports := { run := some .fw } :: List.replicate 5 {} }, 0, (.done []), 0, 0, [], (by decide +kernel), (by decide +kernel), (by
     simp), (by decide +kernel)⟩,
   ⟨{ run with twb.ports := { run := some .fw, xfer := 0x20000000 } :: List.replicate 5 {} }, 0, (.nack 0), 1, 0, [], (by decide +kernel),
     (by decide +kernel), (by decide +kernel), (by decide +kernel), (by simp), (by decide +kernel)⟩,
   ⟨{ run with twb.ports := { run := some .ara } :: List.replicate 5 {} }, 0, by decide +kernel⟩,
   ⟨{ run with twb.ports := { run := some (.poll 0 0) } :: List.replicate 5 {} }, 0, 0, 0, by decide +kernel⟩,
   ⟨{ (put (ported run) [(F.TWB_STAT_BUS_BUSY 0, 1)]) with twb.ports := { retry := true } :: List.replicate 5 {} }, 0, by decide +kernel⟩,
   ⟨{ (ported run) with twb.ports := { retry := true } :: List.replicate 5 {} }, 0, by decide +kernel⟩,
   ⟨{ run with twb.ports := { run := some .fw } :: List.replicate 5 {} }, 0, 0, by decide +kernel⟩,
   ⟨{ (put run [(F.TWB_CFG_EN 0, 1)]) with twb.ports := { wait := true } :: List.replicate 5 {} }, 0, false, false, false, by decide +kernel⟩⟩

/-- The hypotheses of each clause of Obligations.TwoWireTargetActs can be met. -/
theorem witness_TwoWireTargetActs :
    (∃ s : State, ∃ p : Fin 6, s.live domTWB = true ∧ s.on (F.TWB_CFG_EN p) = true ∧ s.clockLowOn p = true) ∧
    (∃ s : State, ∃ p : Fin 6, s.twOn p = true ∧ (s.twp p).run = none) ∧
    (∃ s : State, ∃ p : Fin 6, s.twOn p = true) ∧
    (∃ s : State, ∃ p : Fin 6, s.twOn p = true ∧ (s.twp p).run = none) ∧
    (∃ s : State, ∃ p : Fin 6, s.live domTWB = true ∧ s.twPinned p = true ∧ s.on (F.TWB_CFG_EN p) = false ∧ (s.twp p).run = none) ∧
    (∃ s : State, ∃ p : Fin 6, ∃ addr : BitVec 7, ∃ e : TellerEntry, s.twOn p = true ∧ (s.twp p).tgt = none ∧ s.domOn domHOST = true ∧ (addr.toNat
      = 0x0C → s.on (F.TWB_TGT_ALERT p) = false) ∧ s.twTeller p addr.toNat = some e ∧ e.kind ≠ 0 ∧ s.on (F.TWB_CFG_TPEC p) = false) ∧
    (∃ s : State, ∃ p : Fin 6, ∃ addr : BitVec 7, ∃ o : Byte, ∃ e : TellerEntry, s.twOn p = true ∧ (s.twp p).tgt = none ∧ s.domOn domHOST = true ∧
      s.twTeller p addr.toNat = some e ∧ e.kind ≠ 0 ∧ s.on (F.TWB_CFG_TPEC p) = false ∧ e.allows true = true ∧ o.toNat < e.span) ∧
    (∃ s : State, ∃ p : Fin 6, ∃ addr : BitVec 7, ∃ o : Byte, ∃ e : TellerEntry, s.twOn p = true ∧ (s.twp p).tgt = none ∧ s.domOn domHOST = true ∧
      s.twTeller p addr.toNat = some e ∧ e.kind = 0 ∧ e.allows true = true ∧ o.toNat < e.span ∧ s.twb.ports.length = 6 ∧ (s.tlrQueue
      e.owner).length < 4 ∧ (s.hst.held.any fun h => h.owner == e.owner) = false) ∧
    (∃ s : State, ∃ p : Fin 6, s.twOn p = true ∧ (s.twp p).tgt = none ∧ s.on (F.TWB_CFG_HN_EN p) = true ∧ s.on (F.TWB_HN_VALID p) = false ∧ s.on
      (F.TWB_CFG_TPEC p) = false) ∧
    (∃ s : State, ∃ p : Fin 6, s.twOn p = true ∧ (s.twp p).tgt = none ∧ s.on (F.TWB_CFG_HN_EN p) = true ∧ s.on (F.TWB_HN_VALID p) = true ∧ s.rd
      (F.TWB_COUNTS_HN_NACKS p) < 255) ∧
    (∃ s : State, ∃ p : Fin 6, ∃ b : List Byte, s.twOn p = true ∧ (s.twp p).tgt = none ∧ s.on (F.TWB_CFG_HN_EN p) = true ∧ s.on (F.TWB_HN_VALID p)
      = false ∧ s.on (F.TWB_CFG_TPEC p) = false ∧ b.length ≠ 3) ∧
    (∃ s : State, s.Open domTWB) ∧
    (∃ s : State, ∃ p : Fin 6, s.twOn p = true ∧ s.on (F.TWB_CFG_AUTO_ARA p) = true ∧ (s.twp p).wait = false ∧ (s.twp p).retry = false ∧ (s.twp
      p).run = none ∧ s.on (F.TWB_STAT_BUS_BUSY p) = false ∧ s.pinned (.twAlert p) = true ∧
      s.drivesAlert p = false ∧ s.twb.ports.length = 6) ∧
    (∃ s : State, ∃ k : Fin 8, s.live domTWB = true ∧ s.on (F.TWB_SNS_CFG_EN k) = true ∧ s.rd (F.TWB_SNS_CFG_PORT k) < 6 ∧ s.on (F.TWB_CFG_EN (s.rd
      (F.TWB_SNS_CFG_PORT k))) = true ∧ (s.twp (s.rd (F.TWB_SNS_CFG_PORT k))).polls.contains k.val = false ∧ s.twb.ports.length = 6) :=
  ⟨⟨(put run [((F.TWB_CFG_EN 0), 1)]), 0, by decide +kernel⟩,
   ⟨(ported run), 0, by decide +kernel⟩,
   ⟨(ported run), 0, by decide +kernel⟩,
   ⟨(ported run), 0, by decide +kernel⟩,
   ⟨(put (ported run) [(F.TWB_CFG_EN 0, 0)]), 0, by decide +kernel⟩,
   ⟨(ported (host [6, 5, 3, 1, 0, 0x30, 0, 0, 4, 3, 1, 0, 0, 0, 16, 0])), 0, 0x30, ((ported (host [6, 5, 3, 1, 0, 0x30, 0, 0, 4, 3, 1, 0, 0, 0, 16,
     0])).twTeller 0 0x30).get (by decide +kernel), by decide +kernel⟩,
   ⟨(ported (host [6, 5, 3, 1, 0, 0x30, 0, 0, 4, 3, 1, 0, 0, 0, 16, 0])), 0, 0x30, 0, ((ported (host [6, 5, 3, 1, 0, 0x30, 0, 0, 4, 3, 1, 0, 0, 0,
     16, 0])).twTeller 0 0x30).get (by decide +kernel), by decide +kernel⟩,
   ⟨(ported (host [6, 0, 3, 1, 0, 0x30, 0, 0, 4, 3, 1, 0, 0, 0, 16, 0])), 0, 0x30, 0, ((ported (host [6, 0, 3, 1, 0, 0x30, 0, 0, 4, 3, 1, 0, 0, 0,
     16, 0])).twTeller 0 0x30).get (by decide +kernel), by decide +kernel⟩,
   ⟨(put (ported run) [(F.TWB_CFG_HN_EN 0, 1)]), 0, by decide +kernel⟩,
   ⟨(put (ported run) [(F.TWB_CFG_HN_EN 0, 1), (F.TWB_HN_VALID 0, 1)]), 0, by decide +kernel⟩,
   ⟨(put (ported run) [(F.TWB_CFG_HN_EN 0, 1)]), 0, [], by decide +kernel⟩,
   ⟨run, by decide +kernel⟩,
   ⟨{ (put (ported run) [(F.TWB_CFG_AUTO_ARA 0, 1)]) with twb.ports := List.replicate 6 {} }, 0, by decide +kernel⟩,
   ⟨(put run [((F.TWB_SNS_CFG_EN 0), 1), ((F.TWB_CFG_EN 0), 1)]), 0, by decide +kernel⟩⟩

/-- The hypotheses of each clause of Obligations.FansAct can be met. -/
theorem witness_FansAct :
    (∃ s : State, ∃ n : Fin 8, s.live domFAN = true ∧ s.rd (F.FAN_CFG_MODE n) = 1 ∧ s.fan.chans.length = 8) ∧
    (∃ s : State, ∃ n : Fin 8, s.live domFAN = true ∧ s.rd (F.FAN_CFG_MODE n) = 0 ∧ s.on (F.FAN_CFG_PUMP n) = false ∧ s.fan.chans.length = 8) ∧
    (∃ s : State, ∃ n : Fin 8, ∃ dt r : Nat, s.live domFAN = true ∧ s.on (F.FAN_CFG_TACH_EN n) = true ∧ s.on (F.FAN_CFG_FREQ_LOW n) = false ∧
      (s.fch n).edgeSeen = true ∧ rpmOf ((dt :: (s.fch n).gaps).take 4) (s.rd (F.FAN_CFG_PPR n) + 1) = some r) ∧
    (∃ s : State, s.live domFAN = true) ∧
    (∃ s : State, ∃ n : Fin 8, s.live domFAN = true ∧ s.on (F.FAN_STAT_KICK n) = true) ∧
    (∃ s : State, ∃ n : Fin 8, s.live domFAN = true ∧ s.on (F.FAN_CFG_TACH_EN n) = true ∧ s.rd (F.FAN_STAT_DUTY n) ≠ 0 ∧
      s.on (F.FAN_STAT_KICK n) = false ∧ s.on (F.FAN_STAT_STALLED n) = false ∧ s.on (F.FAN_STAT_LEARNING n) = false ∧
      s.on (F.FAN_STAT_SAFE n) = false) ∧
    (∃ s : State, ∃ n : Fin 8, s.live domFAN = true ∧ s.on (F.FAN_CFG_TACH_EN n) = true ∧ s.rd (F.FAN_STAT_DUTY n) ≠ 0 ∧
      s.on (F.FAN_STAT_KICK n) = false ∧ s.on (F.FAN_STAT_STALLED n) = false ∧ s.on (F.FAN_STAT_LEARNING n) = true) ∧
    (∃ s : State, ∃ n : Fin 8, s.live domFAN = true ∧ s.on (F.FAN_STAT_STALLED n) = true ∧ s.on (F.FAN_RPM_TACH_SEEN n) = true) ∧
    (∃ s : State, ∃ n : Fin 8, s.live domFAN = true ∧ s.on (F.FAN_CFG_PUMP n) = true ∧ s.on (F.FAN_CFG_TACH_EN n) = true ∧
      s.on (F.FAN_STAT_PUMP_LOW n) = false ∧ s.rd (F.FAN_STAT_DUTY n) ≠ 0 ∧ s.rd (F.FAN_RPM_RPM n) < s.rd (F.FAN_SET_PUMP_RPM n)) ∧
    (∃ s : State, ∃ n : Fin 8, s.live domFAN = true ∧ s.on (F.FAN_STAT_PUMP_LOW n) = true ∧ s.rd (F.FAN_SET_PUMP_RPM n) ≤ s.rd (F.FAN_RPM_RPM n)) ∧
    (∃ s : State, s.live 0 = true ∧ s.fan.watched = true ∧ s.pwr.phase ≠ .stopped) ∧
    (∃ s : State, s.Open 0) ∧
    (∃ s : State, ∃ who : Agent, ∃ key : BitVec 8, s.Open 0 ∧ ((key ≠ 0xB5 ∨ who = .jtag))) ∧
    (∃ s : State, s.live 0 = true ∧ s.on F.FAN_SAFE_STAT_ARMED = true ∧ s.pwr.phase ≠ .stopped) ∧
    (∃ s : State, ∃ who : Agent, s.Takes who 0) ∧
    (∃ s : State, ∃ who : Agent, ∃ key : BitVec 8, s.Takes who 0 ∧ key ≠ 0x5F) ∧
    (∃ s : State, ∃ who : Agent, ∃ ch : Fin 8, s.Takes who domFAN ∧ s.on F.FAN_LEARN_STAT_BUSY = false ∧ s.on (F.FAN_CFG_TACH_EN ch) = true ∧
      s.on (F.FAN_STAT_SAFE ch) = false ∧ s.on (F.FAN_STAT_STALLED ch) = false) ∧
    (∃ s : State, ∃ who : Agent, ∃ ch : Fin 8, s.Takes who domFAN ∧ ((s.on F.FAN_LEARN_STAT_BUSY = true ∨ s.on (F.FAN_CFG_TACH_EN ch) = false ∨
      s.on (F.FAN_STAT_SAFE ch) = true ∨ s.on (F.FAN_STAT_STALLED ch) = true))) ∧
    (∃ s : State, ∃ who : Agent, s.Takes who domFAN ∧ s.on F.FAN_LEARN_STAT_BUSY = true) ∧
    (∃ s : State, s.live domFAN = true ∧ s.on F.FAN_LEARN_STAT_BUSY = true ∧ s.fan.learn.length < 7) ∧
    (∃ s : State, ∃ rpm : BitVec 16, s.live domFAN = true ∧ s.on F.FAN_LEARN_STAT_BUSY = true ∧ 7 ≤ s.fan.learn.length ∧
      rises (s.fan.learn ++ [rpm.toNat]) = false) ∧
    (∃ s : State, s.live domFAN = true ∧ s.fan.chans.length = 8) ∧
    (∃ s : State, ∃ n : Fin 8, ∃ q : (Nat × Nat) × (Nat × Nat), s.live domFAN = true ∧ s.fan.chans.length = 8 ∧ baseUsable (s.fch n).base = true ∧
      s.ageOk n = true ∧ bracket (s.rd (F.FAN_RPM_RPM n)) (basePoints (s.fch n).base) = some q) :=
  ⟨⟨(put run [((F.FAN_CFG_MODE 0), 1)]), 0, by decide +kernel⟩,
   ⟨run, 0, by decide +kernel⟩,
   ⟨{ (put run [((F.FAN_CFG_TACH_EN 0), 1)]) with fan.chans := { edgeSeen := true } :: List.replicate 7 {} }, 0, 1000, 60000, by decide +kernel⟩,
   ⟨run, by decide +kernel⟩,
   ⟨(put run [((F.FAN_STAT_KICK 0), 1)]), 0, by decide +kernel⟩,
   ⟨(put run [((F.FAN_CFG_TACH_EN 0), 1), ((F.FAN_STAT_DUTY 0), 50)]), 0, by decide +kernel⟩,
   ⟨(put run [((F.FAN_CFG_TACH_EN 0), 1), ((F.FAN_STAT_LEARNING 0), 1), ((F.FAN_STAT_DUTY 0), 50)]), 0, by decide +kernel⟩,
   ⟨(put run [((F.FAN_STAT_STALLED 0), 1), ((F.FAN_RPM_TACH_SEEN 0), 1)]), 0, by decide +kernel⟩,
   ⟨(put run [((F.FAN_CFG_PUMP 0), 1), ((F.FAN_CFG_TACH_EN 0), 1), ((F.FAN_STAT_DUTY 0), 50), ((F.FAN_SET_PUMP_RPM 0), 1000)]), 0, by decide +kernel⟩,
   ⟨(put run [((F.FAN_STAT_PUMP_LOW 0), 1)]), 0, by decide +kernel⟩,
   ⟨{ run with fan.watched := true }, by decide +kernel⟩,
   ⟨run, by decide +kernel⟩,
   ⟨run, (.core .a false), 0, by decide +kernel⟩,
   ⟨(put run [(F.FAN_SAFE_STAT_ARMED, 1)]), by decide +kernel⟩,
   ⟨run, (.core .a false), by decide +kernel⟩,
   ⟨run, (.core .a false), 0, by decide +kernel⟩,
   ⟨(put run [((F.FAN_CFG_TACH_EN 0), 1)]), (.core .a false), 0, by decide +kernel⟩,
   ⟨run, (.core .a false), 0, by decide +kernel⟩,
   ⟨(put run [(F.FAN_LEARN_STAT_BUSY, 1)]), (.core .a false), by decide +kernel⟩,
   ⟨(put run [(F.FAN_LEARN_STAT_BUSY, 1)]), by decide +kernel⟩,
   ⟨{ (put run [(F.FAN_LEARN_STAT_BUSY, 1)]) with fan.learn := [1, 2, 3, 4, 5, 6, 7] }, 3, by decide +kernel⟩,
   ⟨run, by decide +kernel⟩,
   ⟨{ (put run [((F.FAN_CFG_MODE 0), 1), ((F.FAN_RPM_RPM 0), 1500), ((F.FAN_RPM_TACH_SEEN 0), 1), ((F.FAN_CFG_TACH_EN 0), 1)]) with fan.chans := { base := 0 :: (List.range 8).map fun i => 65536 * (1000 * (i + 1)) + 100 * (i + 1), lastRpm := some 1500 } :: List.replicate 7 {} },
     0, ((1000, 100), (2000, 200)), by decide +kernel⟩⟩

/-- The hypotheses of each clause of Obligations.StringsAct can be met. -/
theorem witness_StringsAct :
    (∃ s : State, s.live domLAMPS = true ∧ s.lst.strs.length = 4) ∧
    (∃ s : State, ∃ x : Fin 4, s.live domLAMPS = true ∧ s.driven x = true ∧ s.onLong x = true ∧ natAt (s.str x).cal 1 = 0) ∧
    (∃ s : State, s.live domLAMPS = true) ∧
    (∃ s : State, s.live domLAMPM = true) ∧
    (∃ s : State, s.live domLAMPC = true) ∧
    (∃ s : State, ∃ x : Fin 4, s.live domLAMPS = true ∧ s.driven x = true ∧ s.on (F.LST_STAT_DROPOUT x) = false ∧ s.lowHead x = true) ∧
    (∃ s : State, ∃ x : Fin 4, s.live domLAMPS = true ∧ s.on (F.LST_STAT_DROPOUT x) = true ∧ s.goodHead x = true) ∧
    (∃ s : State, ∃ x : Fin 4, ∃ k : Nat, s.live domLAMPS = true ∧ s.shedEn x = true ∧ s.driven x = true ∧ s.on (F.LST_STAT_DROPOUT x) = true ∧
      s.lowHead x = true ∧ s.shedChoice x = some k) ∧
    (∃ s : State, ∃ ties : BitVec 4, ∃ x : Fin 4, ∃ k : Nat, s.live domLAMPS = true ∧ s.on (F.LST_STAT_DROPOUT x) = false ∧ (s.str x).shed.getLast?
      = some k ∧ s.restoreOk x k = true ∧ ties.getLsbD x = false) ∧
    (∃ s : State, ∃ x : Fin 4, s.live domLAMPS = true ∧ s.driven x = true ∧ s.rd F.LST_BST_TGT_VMAX ≤ s.rd F.LST_BST_VBST ∧ s.openLamps x = []) ∧
    (∃ s : State, ∃ x : Fin 4, ∃ k : Nat, s.live domLAMPS = true ∧ s.driven x = true ∧ s.rd F.LST_BST_TGT_VMAX ≤ s.rd F.LST_BST_VBST ∧ s.openLamps
      x = [k]) ∧
    (∃ s : State, ∃ x : Fin 4, ∃ k : Fin 8, s.live domLAMPS = true ∧ s.driven x = true ∧ bit (s.bypassed x) k = false ∧ k.val < s.lampCount x ∧
      s.rd (F.LST_VF_VF x k) < 1000) ∧
    (∃ s : State, ∃ who : Agent, s.Takes who domLAMPS) ∧
    (∃ s : State, ∃ who : Agent, ∃ key : BitVec 8, s.Takes who domLAMPS ∧ key ≠ 0x4C) ∧
    (∃ s : State, ∃ v : BitVec 16, s.live domLAMPS = true ∧ s.lst.ovpHold = false ∧ ((s.rd F.LST_BST_TGT_VMAX + 2000 < v.toNat ∨ 41000 < v.toNat))) ∧
    (∃ s : State, s.live domLAMPS = true ∧ s.on F.LST_BST_GATE_ON = true ∧ s.rd F.LST_BST_VBST + 2000 < s.rd F.LST_BST_TGT_TARGET) :=
  ⟨⟨run, by decide +kernel⟩,
   ⟨{ (put run [(F.LST_CFG_EN, 1)]) with lst.strs := { scfg := 0x88000014, onTicks := 100000 } :: List.replicate 3 {} }, 0, by decide +kernel⟩,
   ⟨run, by decide +kernel⟩,
   ⟨run, by decide +kernel⟩,
   ⟨run, by decide +kernel⟩,
   ⟨{ (put run [(F.LST_CFG_EN, 1)]) with lst.strs := { scfg := 0x88000014, vsnk := some 100 } :: List.replicate 3 {} }, 0, by decide +kernel⟩,
   ⟨{ (put run [((F.LST_STAT_DROPOUT 0), 1)]) with lst.strs := { scfg := 0x88000014, vsnk := some 1000 } :: List.replicate 3 {} }, 0,
     by decide +kernel⟩,
   ⟨{ (put run [((F.LST_STAT_DROPOUT 0), 1), (F.LST_CFG_EN, 1)]) with lst.strs := { scfg := 0x88000014, vsnk := some 100 } :: List.replicate 3 {}, tills := [sec 0x050 ((1 : Byte) :: List.replicate 31 0 ++ [0, 0, 1, 0])] },
     0, 0, by decide +kernel⟩,
   ⟨{ run with lst.strs := { scfg := 0x88000014, vsnk := some 5000, shed := [0] } :: List.replicate 3 {} }, 0, 0, 0, by decide +kernel⟩,
   ⟨{ (put run [(F.LST_CFG_EN, 1)]) with lst.strs := { scfg := 0x88000014 } :: List.replicate 3 {} }, 0, by decide +kernel⟩,
   ⟨{ (put run [(F.LST_CFG_EN, 1), ((F.LST_VF_VF 0 0), 8000)]) with lst.strs := { scfg := 0x88000014 } :: List.replicate 3 {} }, 0, 0,
     by decide +kernel⟩,
   ⟨{ (put run [(F.LST_CFG_EN, 1)]) with lst.strs := { scfg := 0x88000014 } :: List.replicate 3 {} }, 0, 0, by decide +kernel⟩,
   ⟨run, (.core .a false), by decide +kernel⟩,
   ⟨run, (.core .a false), 0, by decide +kernel⟩,
   ⟨run, 41001, by decide +kernel⟩,
   ⟨(put run [(F.LST_BST_GATE_ON, 1), (F.LST_BST_TGT_TARGET, 3000)]), by decide +kernel⟩⟩

/-- The hypotheses of each clause of Obligations.MatrixAndChainsAct can be met. -/
theorem witness_MatrixAndChainsAct :
    (∃ s : State, s.Open domLAMPM ∧ s.on F.LMX_CFG_EN = true ∧ s.on F.LMX_STAT_SWAPPING = false ∧ s.on F.LMX_STAT_SCANNING = false ∧
      s.on F.LMX_STAT_ARMED = false) ∧
    (∃ s : State, s.Open domLAMPM ∧ s.on F.LMX_CFG_EN = true ∧ s.on F.LMX_STAT_SWAPPING = false ∧ s.on F.LMX_STAT_SCANNING = false ∧
      s.on F.LMX_STAT_ARMED = true) ∧
    (∃ s : State, s.Open domLAMPM ∧ s.on F.LMX_CFG_EN = true ∧ s.on F.LMX_STAT_SCANNING = true) ∧
    (∃ s : State, ∃ src : SyncFrom, ((src = .route ∨ (src = .pin ∧ s.pinned .lmxSync = true))) ∧ s.live domLAMPM = true ∧
      s.on F.LMX_CFG_SYNC_EXT = true ∧ s.on F.LMX_CFG_EN = true ∧ s.on F.LMX_STAT_SWAPPING = false ∧ s.on F.LMX_STAT_SCANNING = false ∧
      s.on F.LMX_STAT_ARMED = false) ∧
    (∃ s : State, s.live domLAMPM = true ∧ s.on F.LMX_CFG_SYNC_EXT = false ∧ s.on F.LMX_CFG_EN = true ∧ s.on F.LMX_STAT_SWAPPING = false ∧
      s.on F.LMX_STAT_SCANNING = false ∧ s.on F.LMX_STAT_ARMED = false) ∧
    (∃ s : State, s.Open domLAMPM) ∧
    (∃ s : State, s.live domLAMPM = true ∧ s.on F.LMX_STAT_SWAPPING = false ∧ s.on F.LMX_STAT_SCANNING = true ∧ s.lmx.next < s.matrixRows) ∧
    (∃ s : State, s.live domLAMPM = true ∧ s.on F.LMX_STAT_SCANNING = true ∧ s.matrixRows ≤ s.lmx.next ∧ s.on F.LMX_STAT_QUEUED = false) ∧
    (∃ s : State, s.live domLAMPM = true ∧ s.on F.LMX_STAT_SCANNING = true ∧ s.matrixRows ≤ s.lmx.next ∧ s.on F.LMX_STAT_QUEUED = true ∧
      s.on F.LMX_STAT_SWAPPING = false ∧ s.on F.LMX_CFG_EN = true ∧ s.on F.LMX_STAT_ARMED = false) ∧
    (∃ s : State, ∃ n : Fin 4, s.Open domLAMPC ∧ s.on (F.LCH_CFG_EN n) = true ∧ s.on (F.LCH_STAT_BUSY n) = false ∧ s.lch.length = 4) ∧
    (∃ s : State, ∃ n : Fin 4, s.Open domLAMPC ∧ s.on (F.LCH_CFG_EN n) = true ∧ s.on (F.LCH_STAT_BUSY n) = true) ∧
    (∃ s : State, ∃ n : Fin 4, s.live domLAMPC = true ∧ s.on (F.LCH_CFG_SYNC_EXT n) = true ∧ s.on (F.LCH_CFG_EN n) = true ∧
      s.on (F.LCH_STAT_BUSY n) = false) ∧
    (∃ s : State, ∃ n : Fin 4, s.live domLAMPC = true ∧ s.on (F.LCH_CFG_SYNC_EXT n) = false ∧ s.on (F.LCH_CFG_EN n) = true ∧
      s.on (F.LCH_STAT_BUSY n) = false) ∧
    (∃ s : State, s.Open domLAMPC) ∧
    (∃ s : State, ∃ n : Fin 4, s.live domLAMPC = true ∧ s.on (F.LCH_STAT_BUSY n) = true ∧ s.on (F.LCH_STAT_QUEUED n) = false) ∧
    (∃ s : State, ∃ n : Fin 4, ∃ rx p : Nat, ∃ last : BitVec 24, ∃ stuck : Bool, s.live domLAMPC = true ∧ s.on (F.LCH_STAT_BUSY n) = true ∧
      s.on (F.LCH_STAT_QUEUED n) = false ∧ (F.LCH_CFG_RET_EN n).has (s.chain n).cfg = true ∧ ((s.chainJudge n rx last.toNat stuck = (0, (p : Int)) ∨
      s.chainJudge n rx last.toNat stuck = (4, (p : Int)))) ∧ p < 512) ∧
    (∃ s : State, ∃ n : Fin 4, s.live domLAMPC = true ∧ s.on (F.LCH_STAT_BUSY n) = true ∧ s.on (F.LCH_STAT_QUEUED n) = false ∧
      (F.LCH_CFG_RET_EN n).has (s.chain n).cfg = true) :=
  ⟨⟨(put run [(F.LMX_CFG_EN, 1)]), by decide +kernel⟩,
   ⟨(put run [(F.LMX_CFG_EN, 1), (F.LMX_STAT_ARMED, 1)]), by decide +kernel⟩,
   ⟨(put run [(F.LMX_CFG_EN, 1), (F.LMX_STAT_SCANNING, 1)]), by decide +kernel⟩,
   ⟨(put run [(F.LMX_CFG_SYNC_EXT, 1), (F.LMX_CFG_EN, 1)]), .route, by decide +kernel⟩,
   ⟨(put run [(F.LMX_CFG_EN, 1)]), by decide +kernel⟩,
   ⟨run, by decide +kernel⟩,
   ⟨(put run [(F.LMX_STAT_SCANNING, 1)]), by decide +kernel⟩,
   ⟨{ (put run [(F.LMX_STAT_SCANNING, 1)]) with lmx.next := 1 }, by decide +kernel⟩,
   ⟨{ (put run [(F.LMX_STAT_SCANNING, 1), (F.LMX_STAT_QUEUED, 1), (F.LMX_CFG_EN, 1)]) with lmx.next := 1 }, by decide +kernel⟩,
   ⟨(put run [((F.LCH_CFG_EN 0), 1)]), 0, by decide +kernel⟩,
   ⟨(put run [((F.LCH_CFG_EN 0), 1), ((F.LCH_STAT_BUSY 0), 1)]), 0, by decide +kernel⟩,
   ⟨(put run [((F.LCH_CFG_SYNC_EXT 0), 1), ((F.LCH_CFG_EN 0), 1)]), 0, by decide +kernel⟩,
   ⟨(put run [((F.LCH_CFG_EN 0), 1)]), 0, by decide +kernel⟩,
   ⟨run, by decide +kernel⟩,
   ⟨(put run [((F.LCH_STAT_BUSY 0), 1)]), 0, by decide +kernel⟩,
   ⟨{ (put (pins (138 + 2 ^ 24)) [(F.LCH_STAT_BUSY 0, 1), (F.AO_PAD_STAT_B_OK, 1)]) with lch := { cfg := 0x20000000 } :: List.replicate 3 {} },
     0, 24, 1, 0, false, by decide +kernel⟩,
   ⟨{ (put run [((F.LCH_STAT_BUSY 0), 1)]) with lch := { cfg := 0x20000000 } :: List.replicate 3 {} }, 0, by decide +kernel⟩⟩

/-- The hypotheses of each clause of Obligations.LoopsAct can be met. -/
theorem witness_LoopsAct :
    (∃ s : State, ∃ c : Fin 2, s.live domLOOP = true ∧ s.on (F.LOOP_CFG_EN c) = false) ∧
    (∃ s : State, ∃ c : Fin 2, s.live domLOOP = true ∧ s.on (F.LOOP_CFG_EN c) = true ∧ s.on (F.LOOP_CFG_MODE c) = false ∧ ((s.rd (F.LOOP_STAT_STATE
      c) = 0 ∨ s.rd (F.LOOP_STAT_STATE c) = 1)) ∧ s.loops.length = 2) ∧
    (∃ s : State, ∃ c : Fin 2, s.live domLOOP = true ∧ s.on (F.LOOP_CFG_EN c) = true ∧ s.on (F.LOOP_CFG_MODE c) = true ∧ ((s.rd (F.LOOP_STAT_STATE
      c) = 0 ∨ s.rd (F.LOOP_STAT_STATE c) = 1)) ∧ s.loops.length = 2) ∧
    (∃ s : State, ∃ c : Fin 2, s.live domLOOP = true ∧ s.rd (F.LOOP_STAT_STATE c) = 1 ∧ s.on (F.LOOP_STAT_MEAS_STALE c) = false ∧ s.loopI c + 50 <
      s.loopT c ∧ (s.loopCh c).retried = false) ∧
    (∃ s : State, ∃ c : Fin 2, s.live domLOOP = true ∧ s.rd (F.LOOP_STAT_STATE c) = 2 ∧ s.on (F.LOOP_STAT_MEAS_STALE c) = false ∧ s.loopExitOk c =
      true) ∧
    (∃ s : State, ∃ c : Fin 2, s.live domLOOP = true ∧ s.rd (F.LOOP_STAT_STATE c) = 1 ∧ s.on (F.LOOP_CFG_TRACK c) = true ∧ s.on
      (F.LOOP_STAT_MEAS_STALE c) = false ∧ s.on (F.LOOP_STAT_OVER c) = false ∧ (s.loopCh c).cnt ≠ 0 ∧ (s.loopCh c).broken = false ∧ (s.loopCh
      c).cleared = false ∧ (s.loopCh c).sum + (s.loopCh c).cnt < (s.loopCh c).cnt * s.loopT c ∧ sext 16 (s.rd (F.LOOP_TRIM_TRIM c)) < s.trimLim c ∧
      -(s.trimLim c : Int) ≤ sext 16 (s.rd (F.LOOP_TRIM_TRIM c))) ∧
    (∃ s : State, ∃ c : Fin 2, s.live domLOOP = true ∧ s.rd (F.LOOP_STAT_STATE c) ≠ 0 ∧ s.on (F.LOOP_STAT_MEAS_STALE c) = false ∧ s.on
      (F.LOOP_STAT_OVER c) = false ∧ s.loopT c + 200 < s.loopI c) ∧
    (∃ s : State, ∃ c : Fin 2, s.live domLOOP = true ∧ s.on (F.LOOP_STAT_OVER c) = true ∧ s.on (F.LOOP_STAT_MEAS_STALE c) = false ∧ s.loopI c ≤
      s.loopT c + 50) ∧
    (∃ s : State, ∃ c : Fin 2, s.live domLOOP = true ∧ (s.loopCh c).fresh = false) ∧
    (∃ s : State, ∃ c : Fin 2, ∃ who : Agent, s.Takes who domLOOP ∧ s.rd (F.LOOP_STAT_STATE c) = 2) ∧
    (∃ s : State, ∃ who : Agent, s.Takes who domLOOP) ∧
    (∃ s : State, ∃ who : Agent, ∃ key : BitVec 8, s.Takes who domLOOP ∧ key ≠ 0x1C) :=
  ⟨⟨run, 0, by decide +kernel⟩,
   ⟨(put run [((F.LOOP_CFG_EN 0), 1)]), 0, by decide +kernel⟩,
   ⟨(put run [((F.LOOP_CFG_EN 0), 1), ((F.LOOP_CFG_MODE 0), 1)]), 0, by decide +kernel⟩,
   ⟨(put run [((F.LOOP_STAT_STATE 0), 1), ((F.LOOP_TARGET_TARGET_UA 0), 1000)]), 0, by decide +kernel⟩,
   ⟨(put run [((F.LOOP_STAT_STATE 0), 2)]), 0, by decide +kernel⟩,
   ⟨{ (put run [((F.LOOP_STAT_STATE 0), 1), ((F.LOOP_CFG_TRACK 0), 1), ((F.LOOP_TARGET_TARGET_UA 0), 1000)]) with loops := [{ sum := 500, cnt := 1 }, {}] },
     0, by decide +kernel⟩,
   ⟨(put run [((F.LOOP_STAT_STATE 0), 1), ((F.LOOP_MEAS_I_UA 0), 1000)]), 0, by decide +kernel⟩,
   ⟨(put run [((F.LOOP_STAT_OVER 0), 1)]), 0, by decide +kernel⟩,
   ⟨run, 0, by decide +kernel⟩,
   ⟨(put run [((F.LOOP_STAT_STATE 0), 2)]), 0, (.core .a false), by decide +kernel⟩,
   ⟨run, (.core .a false), by decide +kernel⟩,
   ⟨run, (.core .a false), 0, by decide +kernel⟩⟩

/-- The hypotheses of each clause of Obligations.PanelActs can be met. -/
theorem witness_PanelActs :
    (∃ s : State, s.live domDISP = true ∧ s.vtotal ≠ 0 ∧ s.on F.DSP_CTRL_EN = false ∧ s.on F.DSP_STATUS_RUNNING = true) ∧
    (∃ s : State, s.live domDISP = true ∧ s.vtotal ≠ 0 ∧ s.on F.DSP_CTRL_EN = true ∧ s.dsp.start = true ∧ s.vactive < 2048) ∧
    (∃ s : State, ∃ n : Nat, s.live domDISP = true ∧ s.vtotal ≠ 0 ∧ s.on F.DSP_CTRL_EN = true ∧ s.dsp.start = false ∧
      n = (if s.dsp.last then 0 else s.rd F.DSP_STATUS_LINE + 1) ∧ n < 2048) ∧
    (∃ s : State, ∃ i : Nat, s.live domDISP = true ∧ s.on F.DSP_CTRL_EN = true ∧ s.dsp.start = false ∧ s.dsp.last = false ∧
      s.rd F.DSP_STATUS_LINE + 2 = s.vtotal ∧ s.rd F.DSP_STATUS_LINE + 1 < 2048 ∧ s.on F.DSP_STATUS_FRAME_PEND = true ∧
      s.on F.DSP_XSPI_STAT_BUSY = false ∧ i < 16) ∧
    (∃ s : State, ∃ i : Nat, s.live domDISP = true ∧ s.vtotal ≠ 0 ∧ s.on F.DSP_CTRL_EN = true ∧ s.dsp.start = false ∧ s.dsp.last = false ∧
      s.rd F.DSP_STATUS_LINE + 2 = s.rdA F.DSP_LINE_AT_LINE ∧ s.on F.DSP_STATUS_LINE_PEND = true ∧ i < 5) ∧
    (∃ s : State, s.Open domDISP) ∧
    (∃ s : State, ∃ who : Agent, s.Takes who domDISP) ∧
    (∃ s : State, ∃ who : Agent, ∃ w : Word, s.Takes who domDISP ∧ F.DSP_XSPI_CMD_KEY.of w = 0x58 ∧ F.DSP_XSPI_CMD_GO.has w = true ∧
      s.xspiScanned = false ∧ s.on F.DSP_XSPI_CFG_EN = true ∧ s.on F.DSP_XSPI_STAT_BUSY = false) ∧
    (∃ s : State, ∃ who : Agent, ∃ w : Word, s.Takes who domDISP ∧ F.DSP_XSPI_CMD_KEY.of w = 0x58 ∧ F.DSP_XSPI_CMD_GO.has w = true ∧
      ((s.xspiScanned = true ∨ s.on F.DSP_XSPI_CFG_EN = false ∨ s.on F.DSP_XSPI_STAT_BUSY = true))) ∧
    (∃ s : State, ∃ r : XspiRun, s.dsp.xrun = some r ∧ s.live domDISP = true) ∧
    (∃ s : State, ∃ r : XspiRun, s.dsp.xrun = some r ∧ r.dir = 2 ∧ s.live domDISP = true) ∧
    (∃ s : State, s.live domDISP = true ∧ s.on F.DSP_XSPI_CFG_EN = true ∧ s.on F.DSP_XSPI_STAT_BUSY = false) ∧
    (∃ s : State, ∃ off : BitVec 26, s.Open domDISP ∧ s.on F.DSP_XSPI_CFG_EN = true ∧ off.toNat < s.xspiSize ∧ s.on F.DSP_XSPI_STAT_BUSY = true) ∧
    (∃ s : State, ∃ off : BitVec 26, s.Open domDISP ∧ s.on F.DSP_XSPI_CFG_EN = true ∧ off.toNat < s.xspiSize ∧ s.on F.DSP_XSPI_STAT_BUSY = false) :=
  ⟨⟨(put panel [(F.DSP_STATUS_RUNNING, 1)]), by decide +kernel⟩,
   ⟨{ (put panel [(F.DSP_CTRL_EN, 1)]) with dsp.start := true }, by decide +kernel⟩,
   ⟨{ (put panel [(F.DSP_CTRL_EN, 1)]) with dsp.start := false, dsp.last := true }, 0, by decide +kernel⟩,
   ⟨{ (put panel [(F.DSP_CTRL_EN, 1), (F.DSP_STATUS_FRAME_PEND, 1), (F.DSP_STATUS_LINE, 18)]) with dsp.start := false }, 0, by decide +kernel⟩,
   ⟨{ (put panel [(F.DSP_CTRL_EN, 1), (F.DSP_STATUS_LINE_PEND, 1), (F.DSP_STATUS_LINE, 3), ((activeCopy F.DSP_LINE_AT_LINE), 5)]) with dsp.start := false },
     0, by decide +kernel⟩,
   ⟨run, by decide +kernel⟩,
   ⟨run, (.core .a false), by decide +kernel⟩,
   ⟨(put run [(F.DSP_XSPI_CFG_EN, 1)]), (.core .a false), 0x58000001, by decide +kernel⟩,
   ⟨run, (.core .a false), 0x58000001, by decide +kernel⟩,
   ⟨{ run with dsp.xrun := some { dir := 1, len := 4 } }, { dir := 1, len := 4 }, by decide +kernel⟩,
   ⟨{ run with dsp.xrun := some { dir := 2, len := 4 } }, { dir := 2, len := 4 }, by decide +kernel⟩,
   ⟨(put run [(F.DSP_XSPI_CFG_EN, 1)]), by decide +kernel⟩,
   ⟨(put run [(F.DSP_XSPI_CFG_EN, 1), (F.DSP_XSPI_STAT_BUSY, 1)]), 0, by decide +kernel⟩,
   ⟨(put run [(F.DSP_XSPI_CFG_EN, 1)]), 0, by decide +kernel⟩⟩

/-- The hypotheses of each clause of Obligations.FreezeActs can be met. -/
theorem witness_FreezeActs :
    (∃ s : State, ∃ pin route : Bool, ∃ cause : Nat, s.fl.vinValid = true ∧ s.freezing = false ∧ s.pwr.phase ≠ .stopped ∧ s.ready = true ∧
      ((cause = 1 ∧ pin = true ∧ s.on F.AUD_CFG_PIN_EN = true ∨ cause = 2 ∧ route = true ∧ (pin = false ∨ s.on F.AUD_CFG_PIN_EN = false)))) ∧
    (∃ s : State, s.fl.vinValid = true ∧ s.freezing = true ∧ s.aud.releasing = none ∧ s.rd F.AUD_EXTRA_COUNT < 65535) ∧
    (∃ s : State, s.fl.vinValid = true ∧ s.freezing = false ∧ s.pwr.phase ≠ .stopped ∧ s.ready = false ∧ s.aud.held = none) ∧
    (∃ s : State, s.aud.applying = true ∧ s.allStopped = true) ∧
    (∃ s : State, ((s.aud.applying = false ∨ s.allStopped = false))) ∧
    (∃ s : State, s.freezing = true ∧ s.aud.releasing = none ∧ s.rd F.AUD_CFG_WINDOW ≠ 0) ∧
    (∃ s : State, s.on F.AUD_CFG_PIN_RELEASE = true ∧ s.freezing = true ∧ s.aud.releasing = none) ∧
    (∃ s : State, ∃ cause : Nat, s.aud.releasing = some cause ∧ s.on F.AUD_STATUS_FROZEN = true ∧ s.aud.tap.busy = false ∧ s.aud.held = none ∧
      s.aud.queue = [] ∧ s.fl.waitFreeze = false ∧ s.kx.heldRoutes = []) :=
  ⟨⟨{ (put run [(F.AUD_CFG_PIN_EN, 1)]) with fl.vinValid := true }, true, false, 1, by decide +kernel⟩,
   ⟨{ (put run [(F.AUD_STATUS_FROZEN, 1)]) with fl.vinValid := true }, by decide +kernel⟩,
   ⟨{ (put run [(F.AO_FL_STATUS_READY, 0)]) with fl.vinValid := true }, by decide +kernel⟩,
   ⟨{ run with aud.applying := true }, by decide +kernel⟩,
   ⟨run, by decide +kernel⟩,
   ⟨(put run [(F.AUD_STATUS_FROZEN, 1), (F.AUD_CFG_WINDOW, 1)]), by decide +kernel⟩,
   ⟨(put run [(F.AUD_CFG_PIN_RELEASE, 1), (F.AUD_STATUS_FROZEN, 1)]), by decide +kernel⟩,
   ⟨{ (put run [(F.AUD_STATUS_FROZEN, 1)]) with aud.releasing := some 1 }, 1, by decide +kernel⟩⟩

/-- The hypotheses of each clause of Obligations.JtagActs can be met. -/
theorem witness_JtagActs :
    (∃ s : State, s.fl.vinValid = true) ∧
    (∃ s : State, s.fl.vinValid = true ∧ s.jtagTakes 0x00 = true) ∧
    (∃ s : State, s.fl.vinValid = true ∧ s.jtagTakes 0x00 = false) ∧
    (∃ s : State, s.fl.vinValid = true ∧ s.jtagTakes 0x02 = true) ∧
    (∃ s : State, s.fl.vinValid = true ∧ s.jtagTakes 0x04 = true) ∧
    (∃ s : State, s.fl.vinValid = true ∧ s.jtagTakes 0x05 = true) ∧
    (∃ s : State, s.fl.vinValid = true ∧ s.jtagTakes 0x10 = true ∧ s.freezing = false ∧ s.pwr.phase ≠ .stopped ∧ s.ready = true) ∧
    (∃ s : State, s.fl.vinValid = true ∧ s.jtagTakes 0x11 = true ∧ s.freezing = true ∧ s.aud.releasing = none) ∧
    (∃ s : State, s.fl.vinValid = true ∧ s.jtagTakes 0x14 = true ∧ s.aud.tap.busy = false) ∧
    (∃ s : State, s.aud.tap.busy = true ∧ s.auditLocked = true ∧ s.aud.tap.op ≠ 2) ∧
    (∃ s : State, ∃ v : Nat, s.aud.tap.busy = true ∧ s.auditLocked = false ∧ s.aud.tap.op = 1 ∧ s.aud.tap.addr = 0x28000000 + 4 * v ∧ v < 0x4000) ∧
    (∃ s : State, s.aud.tap.busy = true ∧ s.auditLocked = false ∧ s.aud.tap.op = 3 ∧
      ((regBlock s.aud.tap.addr).any (fun b => (snapBlocks s.aud.snapOf).contains b) = true)) ∧
    (∃ s : State, s.fl.vinValid = true ∧ s.jtagTakes 0x20 = true ∧ s.domOn domSEAL = true ∧ s.frozen domSEAL = false ∧
      s.on F.SEAL_STATUS_RNG_BAD = false) ∧
    (∃ s : State, ∃ words : List Word, s.fl.vinValid = true ∧ s.jtagTakes 0x21 = true ∧ s.on F.AUD_LC_RESULT_BUSY = false ∧ s.frozen domFRAM = false ∧
      (lcBlock words).op ≠ 5 ∧ (lcBlock words).op ≠ 6) ∧
    (∃ s : State, s.fl.vinValid = true ∧ s.jtagTakes 0x22 = true) :=
  ⟨⟨{ run with fl.vinValid := true }, by decide +kernel⟩,
   ⟨{ (put run [(F.AUD_STATUS_FROZEN, 1)]) with fl.vinValid := true }, by decide +kernel⟩,
   ⟨{ run with fl.vinValid := true }, by decide +kernel⟩,
   ⟨{ run with fl.vinValid := true }, by decide +kernel⟩,
   ⟨{ (put run [(F.AUD_STATUS_FROZEN, 1)]) with fl.vinValid := true }, by decide +kernel⟩,
   ⟨{ (put run [(F.AUD_STATUS_FROZEN, 1)]) with fl.vinValid := true }, by decide +kernel⟩,
   ⟨{ run with fl.vinValid := true }, by decide +kernel⟩,
   ⟨{ (put run [(F.AUD_STATUS_FROZEN, 1)]) with fl.vinValid := true }, by decide +kernel⟩,
   ⟨{ run with fl.vinValid := true }, by decide +kernel⟩,
   ⟨{ (put run [(F.AUD_LC_STATE_STATE, 2)]) with aud.tap.busy := true, aud.tap.op := 1 }, by decide +kernel⟩,
   ⟨{ run with aud.tap.busy := true, aud.tap.op := 1, aud.tap.addr := 0x28000000 }, 0, by decide +kernel⟩,
   ⟨{ run with aud.tap.busy := true, aud.tap.op := 3, aud.tap.addr := 0x40000000, aud.snapOf := 1 }, by decide +kernel⟩,
   ⟨{ run with fl.vinValid := true }, by decide +kernel⟩,
   ⟨{ run with fl.vinValid := true }, [], by decide +kernel⟩,
   ⟨{ run with fl.vinValid := true }, by decide +kernel⟩⟩

/-- The hypotheses of each clause of Obligations.LifecycleActs can be met. -/
theorem witness_LifecycleActs :
    (∃ s : State, ∃ path : Option Agent, ∃ arg : BitVec 8, ∃ signer : BitVec 8, ∃ payload : List Word, ∃ sig : List Word, ∃ k : Nat × Instr,
      s.LcOpen path ∧ s.on F.AUD_LC_RESULT_BUSY = false ∧ s.frozen domFRAM = false ∧
      k ∈ [(1, Instr.installKey path arg signer payload sig), (3, Instr.advance path arg signer sig)]) ∧
    (∃ s : State, ∃ path : Option Agent, ∃ arg : BitVec 8, ∃ signer : BitVec 8, ∃ sig : List Word, ∃ k : Nat × Instr, s.LcOpen path ∧
      s.on F.AUD_LC_RESULT_BUSY = false ∧ s.frozen domFRAM = false ∧
      k ∈ [(2, Instr.revoke path arg signer sig), (4, Instr.raiseEpoch path arg signer sig)]) ∧
    (∃ s : State, ∃ path : Option Agent, s.LcOpen path ∧ s.on F.AUD_LC_RESULT_BUSY = false ∧ s.frozen domFRAM = false) ∧
    (∃ s : State, ∃ path : Option Agent, s.LcOpen path ∧ s.on F.AUD_LC_RESULT_BUSY = true) ∧
    (∃ s : State, ∃ path : Option Agent, s.LcOpen path ∧ s.on F.AUD_LC_RESULT_BUSY = false ∧ s.frozen domFRAM = true) ∧
    (∃ s : State, ∃ who : Agent, who.user = false ∧ s.domOn domSEAL = true ∧ s.frozen domSEAL = false ∧ s.on F.SEAL_STATUS_RNG_BAD = false) ∧
    (∃ who : Agent, ∃ key : BitVec 8, who.user = false ∧ key ≠ 0x7A) ∧
    (∃ who : Agent, who.user = true) ∧
    (∃ s : State, ∃ i : Nat, s.lc.nonce = true ∧ i < 8) ∧
    (∃ s : State, ∃ l : LcStore, s.lc.run = some l ∧ s.live domFRAM = true) :=
  ⟨⟨run, (some (.core .a false)), 0, 0, [], [], (1, _), rfl, by decide +kernel, by decide +kernel, .head _⟩,
   ⟨run, (some (.core .a false)), 0, 0, [], (2, _), rfl, by decide +kernel, by decide +kernel, .head _⟩,
   ⟨run, (some (.core .a false)), rfl, by decide +kernel⟩,
   ⟨(put run [(F.AUD_LC_RESULT_BUSY, 1)]), (some (.core .a false)), rfl, by decide +kernel⟩,
   ⟨(put run [(F.AUD_STATUS_FROZEN, 1)]), (some (.core .a false)), rfl, by decide +kernel⟩,
   ⟨run, (.core .a false), by decide +kernel⟩,
   ⟨(.core .a false), 0, by decide +kernel⟩,
   ⟨(.core .a true), by decide +kernel⟩,
   ⟨{ run with lc.nonce := true }, 0, by decide +kernel⟩,
   ⟨{ run with lc.run := some {} }, {}, by decide +kernel⟩⟩

/-- The hypotheses of each clause of Obligations.SealActs can be met. -/
theorem witness_SealActs :
    (∃ s : State, ∃ who : Agent, ∃ k : Nat × Instr, s.Takes who domSEAL ∧ s.on F.SEAL_STATUS_BUSY = false ∧ s.sealEng.waits = none ∧ k ∈ [(1,
      Instr.hashStart who 0x3E), (2, Instr.hashData who 0x3E), (3, Instr.hashEnd who 0x3E), (4, Instr.verify who 0x3E), (5, Instr.encrypt who
      0x3E), (6, Instr.decrypt who 0x3E), (7, Instr.random who 0x3E), (8, Instr.keyStore who 0x3E), (9, Instr.keyLock who 0x3E)]) ∧
    (∃ s : State, ∃ who : Agent, ∃ c : Instr, s.Takes who domSEAL ∧ ((s.on F.SEAL_STATUS_BUSY = true ∨ s.sealEng.waits ≠ none)) ∧ c ∈
      [Instr.hashStart who 0x3E, Instr.hashData who 0x3E, Instr.hashEnd who 0x3E, Instr.verify who 0x3E, Instr.encrypt who 0x3E, Instr.decrypt who
      0x3E, Instr.random who 0x3E, Instr.keyStore who 0x3E, Instr.keyLock who 0x3E]) ∧
    (∃ s : State, ∃ who : Agent, ∃ key : BitVec 8, ∃ c : Instr, s.Takes who domSEAL ∧ key ≠ 0x3E ∧ c ∈ [Instr.hashStart who key, Instr.hashData who
      key, Instr.hashEnd who key, Instr.verify who key, Instr.encrypt who key, Instr.decrypt who key, Instr.random who key, Instr.keyStore who key,
      Instr.keyLock who key, Instr.wipe who key]) ∧
    (∃ s : State, ∃ op : Nat, s.live domSEAL = true ∧ s.rd F.SEAL_STATUS_HOLDER = 0 ∧ s.pwr.phase = .run ∧ s.sealEng.waits = some op) ∧
    (∃ s : State, ∃ r : SealRun, s.sealEng.run = some r ∧ s.live domSEAL = true) ∧
    (∃ s : State, ∃ who : Agent, ∃ i : Nat, s.Takes who domSEAL ∧ i < 8) ∧
    (∃ s : State, s.domOn domSEAL = true ∧ s.sealEng.rngReady = true) ∧
    (∃ s : State, s.domOn domSEAL = true ∧ s.sealEng.rngReady = false) ∧
    (∃ s : State, s.domOn domSEAL = true) ∧
    (∃ s : State, s.live domSEAL = true ∧ s.sealEng.rngReady = false ∧ s.on F.SEAL_STATUS_RNG_BAD = false) ∧
    (∃ s : State, s.live domSEAL = true) :=
  ⟨⟨run, (.core .a false), (1, _), by decide +kernel, by decide +kernel, rfl, .head _⟩,
   ⟨(put run [(F.SEAL_STATUS_BUSY, 1)]), (.core .a false), _, by decide +kernel, .inl (by decide +kernel), .head _⟩,
   ⟨run, (.core .a false), 0, _, by decide +kernel, by decide +kernel, .head _⟩,
   ⟨{ run with sealEng.waits := some 1 }, 1, by decide +kernel⟩,
   ⟨{ run with sealEng.run := some ⟨1, 0, 0, 0, 0, [], 0⟩ }, ⟨1, 0, 0, 0, 0, [], 0⟩, by decide +kernel⟩,
   ⟨run, (.core .a false), 0, by decide +kernel⟩,
   ⟨{ run with sealEng.rngReady := true }, by decide +kernel⟩,
   ⟨run, by decide +kernel⟩,
   ⟨run, by decide +kernel⟩,
   ⟨run, by decide +kernel⟩,
   ⟨run, by decide +kernel⟩⟩

/-- The hypotheses of each clause of Obligations.RegisterAccessesAct can be met. -/
theorem witness_RegisterAccessesAct :
    (∃ s : State, ∃ who : Agent, ∃ a : BitVec 32, a.toNat % 4 = 0 ∧ 0x40100000 ≤ a.toNat ∧ a.toNat < 0x40110000 ∧ a.toNat ≠ Reg.SEQ_CMD ∧ s.Takes
      who 0) ∧
    (∃ s : State, ∃ a : BitVec 32, a.toNat % 4 = 0 ∧ 0x20000000 ≤ a.toNat ∧ a.toNat < 0x20040000 ∧ s.sramOn a.toNat 4 = true) ∧
    (∃ s : State, ∃ a : BitVec 32, a.toNat % 4 = 0 ∧ 0x400F0000 ≤ a.toNat ∧ a.toNat < 0x40100000 ∧ s.Open 0) ∧
    (∃ s : State, s.Open domFRAM) ∧
    (∃ s : State, s.Open 0) :=
  ⟨⟨run, (.core .a false), 0x40100000, by decide +kernel⟩,
   ⟨run, 0x20000000, by decide +kernel⟩,
   ⟨run, 0x400F0000, by decide +kernel⟩,
   ⟨run, by decide +kernel⟩,
   ⟨run, by decide +kernel⟩⟩

/-- The hypothesis of each frame, that exec answers a next state, can be met: here by one command of each frame statement. -/
theorem witness_frames : ∀ c ∈ [Instr.ledgerWindowIdle, .reconcileSnapshot, .sequencerCycle 0, .vaultGateOpen false, .divideComplete .a, .getVwire,
    .kbcConsume, .calendarTick, .timerWrap 0, .adcPassStart, .twbRetry 0, .fanStall 0, .lampPeriodBoundary, .loopUpdate 0, .freezeApplied,
    .rngFailure], ∃ s t, exec c s = .next t := by
  intro c h
  refine ⟨run, ?_⟩
  revert c
  simp only [List.forall_mem_cons, List.not_mem_nil, false_implies, implies_true, and_true]
  exact ⟨⟨_, rfl⟩, ⟨_, rfl⟩, ⟨_, rfl⟩, ⟨_, rfl⟩, ⟨_, rfl⟩, ⟨_, rfl⟩, ⟨_, rfl⟩, ⟨_, rfl⟩, ⟨_, rfl⟩, ⟨_, rfl⟩, ⟨_, rfl⟩, ⟨_, rfl⟩, ⟨_, rfl⟩,
    ⟨_, rfl⟩, ⟨_, rfl⟩, ⟨_, rfl⟩⟩

/-- The hypotheses of Obligations.StepRunsFront can be met. -/
theorem witness_StepRunsFront : (∃ (s : State) (c : Instr) (rest : List Instr), s.pending = c :: rest) ∧ (∃ s : State, s.pending = []) :=
  ⟨⟨{ run with pending := [.por] }, .por, [], rfl⟩, ⟨run, rfl⟩⟩

/-- The hypotheses of Obligations.StepKeepsCanonical can be met by a step that runs a command. -/
theorem witness_StepKeepsCanonical : ∃ s t : State, s.Canonical ∧ s.pending ≠ [] ∧ step s = .next t :=
  ⟨{ run with pending := [.calendarTick] }, _, by decide +kernel, by simp, rfl⟩

/-- The address ranges of Obligations.ResetState have members. -/
theorem witness_ResetState : (∃ a : Nat, a < 0x8000000) ∧ (∃ a : Nat, 0x8000000 ≤ a ∧ a < 0x8200000) := ⟨⟨0x7FFFFFF, by decide⟩, ⟨0x81FFFFF, by decide⟩⟩

/-- The hypotheses of the clauses of Obligations.WritesFindTheirBlock can be met, here for domain 0's neighbour FRAM. -/
theorem witness_WritesFindTheirBlock : (∃ s : State, s.domOn domFRAM = false) ∧
    (∃ (s : State) (who : Agent), s.domOn domFRAM = true ∧ who.user = true) ∧
    (∃ (s : State) (who : Agent), s.domOn domFRAM = true ∧ (true && who.user) = false ∧ s.frozen domFRAM = true ∧ s.aud.queue.length < 16) :=
  ⟨⟨put run [(F.PWR_STATUS_ON, 1)], by decide +kernel⟩, ⟨run, .core .b true, by decide +kernel⟩,
    ⟨put { run with aud.queue := List.replicate 15 (0x40010000, 0) } [(F.AUD_STATUS_FROZEN, 1)], .jtag, by decide +kernel⟩⟩

/-- The hypotheses of Obligations.StoppedIslandsDoNothing can be met: domains off, and AO frozen. -/
theorem witness_StoppedIslandsDoNothing : (∃ s : State, ∀ d ∈ [domKBD, domTIME, domAREF, domTWB, domFAN, domLAMPS, domLAMPM, domLAMPC, domLOOP, domDISP,
    domSEAL, domFRAM, domFLASH, domHOST], s.live d = false) ∧ (∃ s : State, s.frozen 0 = true) :=
  ⟨⟨put run [(F.PWR_STATUS_ON, 1)], by decide +kernel⟩, ⟨put run [(F.AUD_STATUS_FROZEN, 1)], by decide +kernel⟩⟩

/-- The hypotheses of Obligations.JtagReadsChangeNothing can be met. -/
theorem witness_JtagReadsChangeNothing : (∃ a : BitVec 32, 0x40000000 ≤ a.toNat) ∧
    (∃ s : State, s.aud.tap.busy = true ∧ s.aud.tap.op ≠ 2 ∧ 0x40000000 ≤ s.aud.tap.addr) :=
  ⟨⟨0x40000000, by decide⟩, ⟨{ run with aud.tap := { busy := true, op := 1, addr := 0xFFFFFFFC } }, by decide +kernel⟩⟩

/-- The hypotheses of Obligations.CalendarReadLatch can be met. -/
theorem witness_CalendarReadLatch : (∃ s : State, s.domOn 0 = true) ∧ (∃ c d : Core, d ≠ c) ∧
    (∃ (s : State) (c : Core) (h : Nat), s.domOn 0 = true ∧ s.cal.latch.find? (·.1 == c) = some (c, h)) ∧
    (∃ (s : State) (c : Core), s.domOn 0 = true ∧ s.cal.latch.find? (·.1 == c) = none) :=
  ⟨⟨run, by decide +kernel⟩, ⟨.a, .b, by decide⟩, ⟨{ run with cal.latch := [(.b, 7)] }, .b, 7, by decide +kernel⟩, ⟨run, .a, by decide +kernel⟩⟩


/-! ## Commands that are not well formed -/

/-- Each check of WellFormed refuses a command whose operand is out of its range. -/
theorem test_ill_formed : ∀ c ∈ [
    Instr.stepDelayElapsed 64, .railSettled 64, .pgLate 64, .pgStuck 64, .seqFallLate 64, .dischargeTimeout 32, .railRetryRestart 32,
    .reserveSample 65536 0 true, .reserveSample 0 65536 true, .reserveMeasureDone 20000001 false,
    .bundleIssue .a (2 ^ 64) 0 {}, .bundleIssue .a 0 3 {}, .bundleIssue .a 0 0 { ecc := 3 }, .strandAccessComplete .a { met := 2 ^ 24 },
    .eventAccept [320] {} 0 {}, .eventAccept [] {} 321 {}, .eventAccept [] {} 0 { advs := List.replicate 17 0 },
    .putOob [0, 0, 0] false, .putOob (List.replicate 69 0) false, .espiIoRead 0 3 false, .espiIoWrite 0 [] 0 false,
    .espiMemRead 0 0 false, .espiMemRead 0 65 false, .espiMemWrite 0 [] false, .tellerDeadline (.queued .a 4),
    .kbdFrameStart (List.replicate 21 0) 0, .reliefCalibrationDone 0 (2 ^ 25) 0 0, .reliefCalibrationDone 0 0 (2 ^ 25) 0,
    .reliefCalibrationDone 0 0 0 (2 ^ 25), .twbTransactionEnd 0 (.done (List.replicate 257 0)), .twbTransactionEnd 0 (.nack 1024),
    .twbTransactionEnd 0 (.lost 1024), .twbTransactionEnd 0 (.cut 1024 []), .twbTransactionEnd 0 (.cut 0 (List.replicate 257 0)),
    .twbClockLowTimeout 0 ⟨0, List.replicate 37 0⟩ false, .snapshot .jtag (List.replicate 17 0), .headroomSample 0 0 (List.replicate 9 0),
    .chainFrameEnd 0 (2 ^ 32) 0 0 false, .chainRetTimeout 0 (2 ^ 32) 0 0 false false, .extest none [],
    .samplePreload (some []) (List.replicate 633 false), .audAccessDone { advs := List.replicate 17 0 }, .lcCmd [],
    .installKey none 0 0 [] (List.replicate 16 0), .installKey none 0 0 (List.replicate 16 0) [], .revoke none 0 0 [], .advance none 0 0 [],
    .raiseEpoch none 0 0 [], .unlock none 0 [], .registerWrite .jtag 0 0 { bad := 2 ^ 48 }, .registerWrite .jtag 0 0 { turn := 16 }],
    WellFormed c = false := by decide +kernel

/-- A recovery frame's payload is shorter than its 32-bit length field can say. -/
theorem test_ill_formed_frame (payload : List Byte) (h : payload.length = 2 ^ 32) : WellFormed (.recoveryFrame 0 payload 0 0) = false :=
  decide_eq_false (by omega)

/-! ## Figures of the spec's worked examples, and published check values -/

/-- The stop budget of P-14 at 78 °C with two blocks retained: 458 µA at 83 °C (chapter 04). -/
theorem test_stop_budget : let r := ({ run with pwr.retained := 3 } : State).budgetCheck 78
    r.1 = false ∧ r.2.rd F.PWR_STOP_STAT_EST_UA = 458 ∧ r.2.rd F.PWR_STOP_STAT_TJ_USED = 83 := by decide +kernel

/-- Four blocks at 120 °C exceed the budget (chapter 04). -/
theorem test_stop_budget_refused : (({ run with pwr.retained := 15 } : State).budgetCheck 120).1 = true := by decide +kernel

/-- Budget 21 µJ and gate 26 µJ for 5,120 bytes at 3,290 mV and 60 mA (chapter 06). -/
theorem test_vault_gate : let s := put run [(F.RSV_VHOLD_MV, 3290), (F.RSV_CFG_I_BUDGET, 60), (F.RSV_LOAD_MA, 41)]
    s.budget 5120 = 21 ∧ s.gateEnergy 5120 = 26 := by decide +kernel

/-- 1,020 µF at 3,290 mV hold 1,225 µJ (chapter 06). -/
theorem test_reserve_energy :
    (put run [(F.RSV_VHOLD_MV, 3290), (F.RSV_CAP_UF, 1020)]).updateEnergy.rd F.RSV_ENERGY_UJ = 1225 := by decide +kernel

/-- LUI x17, 0x4008 is 0x34A2_4008 and gives x17 = 0x4008_0000; the PC moves past it (chapter 08). -/
theorem test_lui : ∃ t, Sys2Proof.Machine.execBundleIssue .a 1 0 {} { issue with mem := memWrite [] 0x20000000 (leBytes 4 0x34A24008) } = .next t ∧
    t.coreA.reg 17 = 0x40080000 ∧ t.coreA.pc = 0x20000004 := ⟨_, rfl, by decide +kernel⟩

/-- LDW x16, [x17 + 0x10] is 0xA084_4010 and reaches 0x4008_0010 (chapter 08). -/
theorem test_ldw : memSyl [0xA0844010] = some 0xA0844010 ∧
    ((run.coreA.setReg 17 0x40080000).effective 0xA0844010) = 0x40080010 := by decide +kernel

/-- EV278 to vector 3 of core A at priority 14, level (Table 09-9). -/
theorem test_route : routeOf 0x0001E116 0x00010003 = ⟨278, 14, 1, 3, true, false⟩ := by decide

/-- MUL 8, ADD 4 and a rise of 2.41 µs settle in 5.82 µs (chapter 11). -/
theorem test_settle : settleOf (8 * 2 ^ 10 + 4 * 2 ^ 5) 241 = 582 := by decide

/-- Code 1,640.0 of a 10 kΩ thermistor with BETA 3,435 is 35.8125 °C (chapter 13). -/
theorem test_thermistor : thValue (1640 * 16) 10000 1000 3435 = 573 := by decide +kernel

/-- The PEC of the battery's Read Word is 0x16 (chapter 14). -/
theorem test_pec : crc8 [0x16, 0x09, 0x17, 0xC0, 0x30] = 0x16 := by decide +kernel

/-- Edges 8,523 µs apart with PPR 2 read 3,519 RPM (chapter 15). -/
theorem test_rpm : rpmOf [8523, 8523] 2 = some 3519 := by decide

/-- String B sheds lamp 3 first (chapter 16). -/
theorem test_shed_order : ({ run with
    tills := [sec 0x050 (List.replicate 8 0 ++ [0, 0, 3, 1, 2, 1] ++ List.replicate 20 0 ++ [2, 0])]
    lst.strs := [{}, { scfg := 0xA800003C }, {}, {}] } : State).shedChoice 1 = some 3 := by decide +kernel

/-- At T = 1,040 loop 0 takes 17,000 µA, DAC code 22,238, and R_MAX is 997 Ω at 24 V (chapter 17). -/
theorem test_loop : ∃ t, Sys2Proof.Machine.execLoopUpdate 0 (put run [(F.LOOP_CFG_EN 0, 1), (F.LOOP_CFG_MODE 0, 1), (F.LOOP_CFG_SRC 0, 16),
      (F.LOOP_MAP_T_HI 0, 1280), (F.ADC_CH_VALID 16, 1), (F.ADC_CH_VALUE 16, 1040), (F.ADC_CH_VALUE 37, 24000)]) = .next t ∧
    t.rd (F.LOOP_TARGET_TARGET_UA 0) = 17000 ∧ t.rd (F.LOOP_TARGET_DAC 0) = 22238 ∧ t.rd (F.LOOP_RES_R_MAX 0) = 997 :=
  ⟨_, rfl, by decide +kernel⟩

/-- P-14's balls: C5 at ALT 3, E5 at ALT 1, G18 at ALT 1 (Table 20-11). -/
theorem test_balls : ballFn 44 3 = some (.kbdDrv 4) ∧ ballFn 84 1 = some (.twSda 1) ∧ ballFn 137 1 = some (.lchDo 0) := by decide

/-- The check value of CRC-32: "123456789" gives 0xCBF43926. -/
theorem test_crc32 : crc32 [0x31, 0x32, 0x33, 0x34, 0x35, 0x36, 0x37, 0x38, 0x39] = 0xCBF43926 := by decide +kernel

/-- SHA-256 of "abc" begins 0xBA7816BF (FIPS 180-4). -/
theorem test_sha256 : (sha256 [0x61, 0x62, 0x63]).take 4 = [0xBA, 0x78, 0x16, 0xBF] := by decide +kernel

/-- AES-128 of FIPS 197, appendix C.1. -/
theorem test_aes : aesEncrypt (List.range 16) ((List.range 16).map (17 * ·)) =
    [0x69, 0xC4, 0xE0, 0xD8, 0x6A, 0x7B, 0x04, 0x30, 0xD8, 0xCD, 0xB7, 0x80, 0x70, 0xB4, 0xC5, 0x5A] := by decide +kernel

/-! ## The word interface -/

/-- No word spells a command, so a word changes nothing. -/
theorem test_no_words : decodeTableWord 32 0x34A24008 = none ∧ run.withFetchWord 32 0x34A24008 = run := ⟨rfl, rfl⟩

/-- Under the bare Ledger the console takes AOP73 and AOP74 (R660), and an input takes PULL alone (Table 20-8, the WAKE0_N word of Table 20-11). -/
theorem test_pads : (State.reset.ballFunction 73 = some .consTxd ∧ State.reset.ballFunction 74 = some .consRxd ∧
    State.reset.ballFunction 75 = none) ∧ (pins 0x02800048).ballFunction 72 = some (.wake 0) ∧ (pins 0x02800048).padFields 72 = (2, 0, 0) := by
  decide

end Sys2Proof.Tests
end

section
/-! PROOF. O59: an access of the Audit chain to the Vault read window that meets an uncorrectable error in the image mirror notes the error,
and so changes the Vault. -/

namespace Sys2Proof.Machine

/-- A word of the Vault read window lies in no region that ends below the window. -/
theorem runIn_vaultWindow_eq_false (off base size : Nat) (h : base + size ≤ 0x50000000) :
    runIn (0x50000000 + off) 4 base size = false := by
  simp only [runIn, Bool.and_eq_false_iff, decide_eq_false_iff_not]
  omega

/-- A word that lies whole in the Vault read window. -/
theorem runIn_vaultWindow (off : Nat) (h : off + 4 ≤ 0x10000) : runIn (0x50000000 + off) 4 0x50000000 0x10000 = true := by
  simp only [runIn, Bool.and_eq_true, decide_eq_true_eq]
  omega

/-- R240: a read of a record's word in the Vault read window that meets an uncorrectable error notes it, whoever reads. -/
theorem State.busRead_vaultError (s : State) (n : BusNote) (who : Agent) (off id : Nat) (hoff : off + 4 ≤ 0x10000)
    (hd : s.domOn domFRAM = true) (he : n.ecc = 2) (hr : recordAt (recordsOf s.vlt.mirror) off = some id) :
    ∃ w, s.busRead n who (0x50000000 + off) 4 = (s.mirrorError id).reply (.word w) := by
  have hrom : ¬ 0x50000000 + off < 0x8000 := by omega
  refine ⟨wordOf ((s.mirrorError id).getBytes (0x50000000 + off) 4), ?_⟩
  simp [State.busRead, hrom, flashBase, sramBase, tellerRam, shadowBase, displayRam, runIn_vaultWindow_eq_false,
    runIn_vaultWindow off hoff, hd, he, hr]

/-- The Vault read window holds none of the core views of Table 19-5. -/
theorem privateView_vaultWindow (off : Nat) (h : off + 4 ≤ 0x10000) : privateView (0x50000000 + off) = false := by
  simp only [privateView, runIn, Bool.or_eq_false_iff, Bool.and_eq_false_iff, decide_eq_false_iff_not, beq_eq_false_iff_ne]
  omega

/-- The Vault read window holds no island register block. -/
theorem regBlock_vaultWindow (off : Nat) : regBlock (0x50000000 + off) = none := by
  rw [regBlock, if_neg (by omega)]

/-- R618: the Audit chain's unlocked read of such a word, of the snapshot too, goes through the address map and notes the error. -/
theorem State.auditAccess_vaultError (s : State) (n : BusNote) (op off id : Nat) (w : Word) (hl : s.auditLocked = false) (hop : op ≠ 2)
    (hoff : off + 4 ≤ 0x10000) (hd : s.domOn domFRAM = true) (he : n.ecc = 2)
    (hr : recordAt (recordsOf s.vlt.mirror) off = some id) :
    ∃ v, s.auditAccess n op (0x50000000 + off) w = (0, v, (s.mirrorError id).reply (.word v)) := by
  obtain ⟨v, hv⟩ := s.busRead_vaultError n .jtag off id hoff hd he hr
  refine ⟨v, ?_⟩
  simp [State.auditAccess, hl, hop, privateView_vaultWindow off hoff, regBlock_vaultWindow off, hv]

/-- A read of the Audit chain that completes leaves the Vault as its access left it. -/
theorem vlt_of_exec_audAccessDone_read (s t : State) (n : BusNote) (hb : s.aud.tap.busy = true) (hop : s.aud.tap.op ≠ 2)
    (h : exec (.audAccessDone n) s = .next t) :
    t.vlt = (s.auditAccess n s.aud.tap.op s.aud.tap.addr s.aud.tap.data).2.2.vlt := by
  have hwait : (!s.aud.tap.busy || s.aud.tap.op == 2 && s.writeStalls s.aud.tap.addr 4) = false := by simp [hb, hop]
  have hexec : exec (.audAccessDone n) s = execAudAccessDone n s := rfl
  simp only [hexec, execAudAccessDone, hwait, Bool.false_eq_true, if_false, Host.Outcome.next.injEq] at h
  rw [← h]
  rfl

/-- A running device with record 5, without data, as its image mirror; the Audit chain's read of the record's first word is in progress. -/
def mirrorReadInProgress : State :=
  { State.reset.wr F.PWR_STATUS_ON 0xFFFFFF with
    fl := { State.reset.fl with vinValid := true }
    vlt := { State.reset.vlt with mirror := leBytes 4 5 }
    aud := { State.reset.aud with tap := { State.reset.aud.tap with ir := 0x14, busy := true, op := 1, addr := 0x50000000, code := 9 } } }

theorem mirrorReadInProgress_record : recordAt (recordsOf mirrorReadInProgress.vlt.mirror) 0 = some 5 := by decide

theorem mirrorReadInProgress_open :
    mirrorReadInProgress.auditLocked = false ∧ mirrorReadInProgress.domOn domFRAM = true := by decide

/-- Refutes O59 by its third clause, whose addresses take in the Vault read window, and whose notes a memory error: the read finds an
uncorrectable error in the image mirror, and the record joins mirrorBad (R240), which is no side effect of an RS field. -/
theorem not_jtagReadsChangeNothing : ¬ Obligations.JtagReadsChangeNothing := by
  unfold Obligations.JtagReadsChangeNothing
  rintro ⟨-, -, hdone⟩
  obtain ⟨hl, hd⟩ := mirrorReadInProgress_open
  obtain ⟨t, hexec, hkeep⟩ := hdone mirrorReadInProgress { ecc := 2 } rfl (by decide) (by decide)
  have hkept : t.vlt = mirrorReadInProgress.vlt := by rw [hkeep]
  have hnoted : t.vlt = (mirrorReadInProgress.mirrorError 5).vlt := by
    obtain ⟨v, hv⟩ := mirrorReadInProgress.auditAccess_vaultError { ecc := 2 } 1 0 5 0 hl (by decide) (by decide) hd rfl
      mirrorReadInProgress_record
    have hvlt := vlt_of_exec_audAccessDone_read mirrorReadInProgress t { ecc := 2 } rfl (by decide) hexec
    exact hvlt.trans (congrArg (·.2.2.vlt) hv)
  have hbad : mirrorReadInProgress.vlt.mirrorBad = [5] := congrArg (·.mirrorBad) (hkept.symm.trans hnoted)
  exact absurd hbad (by decide)

end Sys2Proof.Machine
end

section
/-! PROOF. O2: the Ledger's write window and the store check. First what the fields of a register read after the small writes a command is made of,
then one lemma for each outcome of a register write (LGR_WR_CTRL, LGR_WR_DATA, LGR_CHECK) and of the check's end, then a lemma per command. -/

namespace Sys2Proof.Machine

/-! ## Fields after small writes -/

/-- A field reads the same where its register's word is the same. -/
theorem State.rd_congr (s t : State) (f : Fld) (h : t.word f.reg = s.word f.reg) : t.rd f = s.rd f := by rw [State.rd, State.rd, h]

theorem State.on_setOn_same (s : State) (f : Fld) (hf : f.hi < 32) (h : f.lo = f.hi) : (s.setOn f).on f = true := s.on_wrB_same f true hf h

theorem State.on_clr_same (s : State) (f : Fld) (hf : f.hi < 32) : (s.clr f).on f = false := by
  rw [State.on, State.clr, s.rd_wr_same f 0 hf, Nat.zero_mod]
  rfl

theorem State.rd_setOn_other (s : State) (f g : Fld) (hf : f.hi < 32) (h : f.reg ≠ g.reg ∨ f.hi < g.lo ∨ g.hi < f.lo) :
    (s.setOn f).rd g = s.rd g := s.rd_wr_other f g 1 hf h

theorem State.on_setOn_other (s : State) (f g : Fld) (hf : f.hi < 32) (h : f.reg ≠ g.reg ∨ f.hi < g.lo ∨ g.hi < f.lo) :
    (s.setOn f).on g = s.on g := s.on_wr_other f g 1 hf h

theorem State.on_clr_other (s : State) (f g : Fld) (hf : f.hi < 32) (h : f.reg ≠ g.reg ∨ f.hi < g.lo ∨ g.hi < f.lo) :
    (s.clr f).on g = s.on g := s.on_wr_other f g 0 hf h

/-- Raising a source changes the fields of KX_MERGED alone. -/
theorem State.rd_raise (s : State) (ev : Nat) (f : Fld) (h : f.reg ≠ Reg.KX_MERGED) : (s.raise ev).rd f = s.rd f :=
  State.rd_congr _ _ f (s.word_raise ev f.reg h)

theorem State.on_raise (s : State) (ev : Nat) (f : Fld) (h : f.reg ≠ Reg.KX_MERGED) : (s.raise ev).on f = s.on f := by
  rw [State.on, s.rd_raise ev f h, State.on]

theorem b2n_lt (b : Bool) : b2n b < 2 := by cases b <;> decide

theorem core_num_lt (c : Core) : c.num < 2 := by cases c <;> decide

/-- A one-bit field holds a truth value's number whole. -/
theorem State.rd_wr_b2n (s : State) (f : Fld) (b : Bool) (hf : f.hi < 32) (h : f.lo = f.hi) : (s.wr f (b2n b)).rd f = b2n b := by
  rw [s.rd_wr_same f _ hf, h, show f.hi + 1 - f.hi = 1 by omega, pow_one, Nat.mod_eq_of_lt (b2n_lt b)]

/-! ## The word LGR_WR_CTRL is written with -/

theorem lgrCtrlWord_toNat (key : BitVec 8) (store opn : Bool) :
    (lgrCtrlWord key store opn).toNat = key.toNat * 2 ^ 24 + 2 * b2n store + b2n opn := by
  have hkey := key.isLt
  have hstore := b2n_lt store
  have hopn := b2n_lt opn
  rw [lgrCtrlWord, BitVec.toNat_ofNat]
  omega

/-- The fields of Table 02-12 in the word, as it was put together. -/
theorem fields_of_lgrCtrlWord (key : BitVec 8) (store opn : Bool) :
    F.LGR_WR_CTRL_KEY.of (lgrCtrlWord key store opn) = key.toNat ∧ F.LGR_WR_CTRL_STORE.of (lgrCtrlWord key store opn) = b2n store ∧
      F.LGR_WR_CTRL_OPEN.has (lgrCtrlWord key store opn) = opn := by
  have hkey := key.isLt
  have hstore := b2n_lt store
  have hopn := b2n_lt opn
  obtain ⟨hkeyOf, hstoreOf, hopnOf⟩ : F.LGR_WR_CTRL_KEY.get (lgrCtrlWord key store opn) = key.toNat ∧
      F.LGR_WR_CTRL_STORE.get (lgrCtrlWord key store opn) = b2n store ∧ F.LGR_WR_CTRL_OPEN.get (lgrCtrlWord key store opn) = b2n opn := by
    simp only [Fld.get, lgrCtrlWord_toNat, bits, Nat.shiftRight_eq_div_pow]
    omega
  refine ⟨hkeyOf, hstoreOf, ?_⟩
  rw [Fld.has, hopnOf]
  cases opn <;> rfl

/-! ## A write of LGR_WR_CTRL (R87, R90) -/

/-- The window open on a store for a core: what a granted open request leaves. -/
def State.windowOpened (s : State) (c : Core) (store : Bool) : State :=
  ((((s.wr F.LGR_WR_CTRL_STORE (b2n store)).setOn F.LGR_WR_CTRL_OPEN).setOn F.LGR_STATUS_WR_OPEN).wr F.LGR_STATUS_WR_STORE (b2n store)).wr
    F.LGR_STATUS_WR_OWNER c.num

/-- R87 names what refuses a core's open request; met adds core A's request of the same cycle (R102). -/
def State.refusesOpen (s : State) (c : Core) (store met : Bool) : Bool :=
  s.runsFrom (b2n store) || s.on F.LGR_STATUS_WR_OPEN || !s.on F.SEQ_STATUS_PFAIL_PIN || (met && c == .b)

/-- A core's open request with the right key is refused or granted. -/
theorem State.lgrCtrlWrite_open (s : State) (c : Core) (user store met : Bool) :
    s.lgrCtrlWrite (.core c user) (lgrCtrlWord 0x3C store true) met =
      if s.refusesOpen c store met then (s.wr F.LGR_WR_CTRL_STORE (b2n store)).refuseLedger else s.windowOpened c store := by
  have hopen : (s.wr F.LGR_WR_CTRL_STORE (b2n store)).on F.LGR_STATUS_WR_OPEN = s.on F.LGR_STATUS_WR_OPEN :=
    s.on_wr_other _ _ _ (by decide) (by decide)
  have hpin : (s.wr F.LGR_WR_CTRL_STORE (b2n store)).on F.SEQ_STATUS_PFAIL_PIN = s.on F.SEQ_STATUS_PFAIL_PIN :=
    s.on_wr_other _ _ _ (by decide) (by decide)
  have hruns : (s.wr F.LGR_WR_CTRL_STORE (b2n store)).runsFrom (b2n store) = s.runsFrom (b2n store) := by
    rw [State.runsFrom, s.on_wr_other _ _ _ (by decide) (by decide), State.wr_fl, State.runsFrom]
  obtain ⟨hkey, hstore, hopn⟩ := fields_of_lgrCtrlWord 0x3C store true
  rw [State.lgrCtrlWrite, hkey, hstore, hopn, if_neg (by decide)]
  simp only [hopen, hpin, hruns, Bool.not_true, Bool.false_eq_true, if_false]
  rfl

/-- A close with the right key closes any window but JTAG's. -/
theorem State.lgrCtrlWrite_close (s : State) (who : Agent) (store met : Bool) (hjtag : s.on F.LGR_STATUS_WR_JTAG = false) :
    s.lgrCtrlWrite who (lgrCtrlWord 0x3C store false) met = (s.wr F.LGR_WR_CTRL_STORE (b2n store)).closeWindow := by
  have hkept : (s.wr F.LGR_WR_CTRL_STORE (b2n store)).on F.LGR_STATUS_WR_JTAG = false :=
    (s.on_wr_other _ _ _ (by decide) (by decide)).trans hjtag
  obtain ⟨hkey, hstore, hopn⟩ := fields_of_lgrCtrlWord 0x3C store false
  rw [State.lgrCtrlWrite, hkey, hstore, hopn, if_neg (by decide)]
  simp only [hkept, Bool.not_false, Bool.false_eq_true, if_true, if_false]

theorem State.windowOpened_shows (s : State) (c : Core) (store : Bool) :
    (s.windowOpened c store).on F.LGR_STATUS_WR_OPEN = true ∧ (s.windowOpened c store).rd F.LGR_STATUS_WR_STORE = b2n store ∧
      (s.windowOpened c store).rd F.LGR_STATUS_WR_OWNER = c.num := by
  refine ⟨?_, ?_, ?_⟩ <;> rw [State.windowOpened]
  · rw [State.on_wr_other _ _ _ _ (by decide) (by decide), State.on_wr_other _ _ _ _ (by decide) (by decide),
      State.on_setOn_same _ _ (by decide) rfl]
  · rw [State.rd_wr_other _ _ _ _ (by decide) (by decide), State.rd_wr_b2n _ _ _ (by decide) rfl]
  · rw [State.rd_wr_same _ _ _ (by decide)]
    exact Nat.mod_eq_of_lt (core_num_lt c)

theorem State.on_closeWindow_open (s : State) : s.closeWindow.on F.LGR_STATUS_WR_OPEN = false := by
  rw [State.closeWindow, State.on_clr_other _ _ _ (by decide) (by decide), State.on_clr_other _ _ _ (by decide) (by decide),
    State.on_clr_same _ _ (by decide)]

/-! ## A write of LGR_WR_DATA (R88) -/

/-- The opening core's word is stored while the window is open and FRAM is on. -/
theorem State.lgrDataWrite_taken (s : State) (c : Core) (user : Bool) (w : Word) (hopen : s.on F.LGR_STATUS_WR_OPEN = true)
    (hjtag : s.on F.LGR_STATUS_WR_JTAG = false) (howner : s.rd F.LGR_STATUS_WR_OWNER = c.num) (hfram : s.domOn domFRAM = true) :
    s.lgrDataWrite (.core c user) w false = s.storeWord w := by
  simp [State.lgrDataWrite, hopen, hjtag, howner, hfram]

/-- The address the next word of the window goes to. -/
def State.windowAddr (s : State) : Nat := storeBase (s.rd F.LGR_STATUS_WR_STORE) + 4 * s.rd F.LGR_WR_ADDR_WORD

theorem State.storeWord_mem (s : State) (w : Word) : (s.storeWord w).mem = (s.store s.windowAddr (leBytes 4 w.toNat)).mem := rfl

theorem State.storeWord_holdsWord (s : State) (w : Word) : (s.storeWord w).HoldsWord s.windowAddr w := by
  rw [State.HoldsWord, s.storeWord_mem]
  exact s.holdsWord_store s.windowAddr w

theorem State.storeWord_sameMemoryBut (s : State) (w : Word) : SameMemoryBut s.windowAddr 4 s (s.storeWord w) := by
  intro a ha
  rw [s.storeWord_mem]
  exact s.memGet_store_out _ _ a (by rwa [leBytes_length])

/-- The word address advances and wraps at its 14 bits. -/
theorem State.storeWord_addr (s : State) (w : Word) :
    (s.storeWord w).rd F.LGR_WR_ADDR_WORD = (s.rd F.LGR_WR_ADDR_WORD + 1) % 2 ^ 14 :=
  State.rd_wr_same _ F.LGR_WR_ADDR_WORD _ (by decide)

/-! ## A write of LGR_CHECK and the check's end (R91) -/

/-- What a check that starts leaves. -/
def State.checkStarted (s : State) (store : Bool) : State :=
  ((s.wr F.LGR_CHECK_STORE (b2n store)).wr F.LGR_STATUS_CHECK_STORE (b2n store)).setOn F.LGR_STATUS_CHECK_BUSY

theorem store_of_checkWord (store : Bool) : F.LGR_CHECK_STORE.of (BitVec.ofNat 32 (2 * b2n store + 1)) = b2n store := by
  cases store <;> decide

theorem go_of_checkWord (store : Bool) : F.LGR_CHECK_GO.has (BitVec.ofNat 32 (2 * b2n store + 1)) = true := by
  cases store <;> decide

/-- GO starts a check of a store that is not open while no check runs. -/
theorem State.lgrCheckWrite_starts (s : State) (store : Bool) (hidle : s.on F.LGR_STATUS_CHECK_BUSY = false)
    (hfree : s.on F.LGR_STATUS_WR_OPEN = false ∨ s.rd F.LGR_STATUS_WR_STORE ≠ b2n store) :
    s.lgrCheckWrite (BitVec.ofNat 32 (2 * b2n store + 1)) = s.checkStarted store := by
  have hbusy : (s.wr F.LGR_CHECK_STORE (b2n store)).on F.LGR_STATUS_CHECK_BUSY = false :=
    (s.on_wr_other _ _ _ (by decide) (by decide)).trans hidle
  have hapart : (s.on F.LGR_STATUS_WR_OPEN && s.rd F.LGR_STATUS_WR_STORE == b2n store) = false := by
    rcases hfree with hclosed | hother
    · rw [hclosed, Bool.false_and]
    · rw [beq_false_of_ne hother, Bool.and_false]
  simp (disch := decide) only [State.lgrCheckWrite, store_of_checkWord, go_of_checkWord, hbusy, hapart, State.on_wr_other, State.rd_wr_other,
    Bool.not_true, Bool.or_self, Bool.false_eq_true, if_false, State.checkStarted]

theorem State.checkStarted_shows (s : State) (store : Bool) :
    (s.checkStarted store).on F.LGR_STATUS_CHECK_BUSY = true ∧ (s.checkStarted store).rd F.LGR_STATUS_CHECK_STORE = b2n store := by
  refine ⟨State.on_setOn_same _ _ (by decide) rfl, ?_⟩
  rw [State.checkStarted, State.rd_setOn_other _ _ _ (by decide) (by decide), State.rd_wr_b2n _ _ _ (by decide) rfl]

/-- The end of a check shows DONE and its code, with BUSY at 0. -/
theorem State.checkEnd_shows (s : State) (code : Nat) :
    (s.checkEnd code).on F.LGR_STATUS_CHECK_BUSY = false ∧ (s.checkEnd code).on F.LGR_STATUS_CHECK_DONE = true ∧
      (s.checkEnd code).rd F.LGR_STATUS_CHECK_CODE = code % 16 := by
  refine ⟨?_, ?_, ?_⟩ <;> rw [State.checkEnd]
  · rw [State.on_raise _ _ _ (by decide), State.on_setOn_other _ _ _ (by decide) (by decide),
      State.on_wr_other _ _ _ _ (by decide) (by decide), State.on_clr_same _ _ (by decide)]
  · rw [State.on_raise _ _ _ (by decide), State.on_setOn_same _ _ (by decide) rfl]
  · rw [State.rd_raise _ _ _ (by decide), State.rd_setOn_other _ _ _ (by decide) (by decide)]
    exact State.rd_wr_same _ F.LGR_STATUS_CHECK_CODE code (by decide)

/-! ## The commands -/

/-- R87: the window opens for a core's request that nothing refuses. -/
theorem gives_ledgerWindowOpen_granted (s : State) (c : Core) (store met : Bool) (htakes : s.Takes (.core c false) 0)
    (hgranted : s.refusesOpen c store met = false) :
    Gives (.ledgerWindowOpen (.core c false) 0x3C store met) s fun t =>
      t.on F.LGR_STATUS_WR_OPEN = true ∧ t.rd F.LGR_STATUS_WR_STORE = b2n store ∧ t.rd F.LGR_STATUS_WR_OWNER = c.num := by
  refine ⟨_, rfl, ?_⟩
  have hreply : (s.reply .none).refusesOpen c store met = false := hgranted
  rw [s.access_takes _ _ _ _ _ _ htakes, State.lgrCtrlWrite_open, hreply, if_neg Bool.false_ne_true]
  exact (s.reply .none).windowOpened_shows c store

/-- R87: a refused request shows WR_REFUSED and leaves the window as it is. -/
theorem gives_ledgerWindowOpen_refused (s : State) (c : Core) (store met : Bool) (htakes : s.Takes (.core c false) 0)
    (hrefused : s.refusesOpen c store met = true) :
    Gives (.ledgerWindowOpen (.core c false) 0x3C store met) s fun t =>
      t.on F.LGR_STATUS_WR_REFUSED = true ∧ t.on F.LGR_STATUS_WR_OPEN = s.on F.LGR_STATUS_WR_OPEN := by
  refine ⟨_, rfl, ?_⟩
  have hreply : (s.reply .none).refusesOpen c store met = true := hrefused
  rw [s.access_takes _ _ _ _ _ _ htakes, State.lgrCtrlWrite_open, hreply, if_pos rfl, State.refuseLedger]
  refine ⟨State.on_setOn_same _ _ (by decide) rfl, ?_⟩
  rw [State.on_setOn_other _ _ _ (by decide) (by decide), State.on_wr_other _ _ _ _ (by decide) (by decide), State.on_reply]

/-- R90: the window closes, for whichever supervisor asks (log entry 21), unless a JTAG load holds it. -/
theorem gives_ledgerWindowClose (s : State) (who : Agent) (store : Bool) (htakes : s.Takes who 0)
    (hjtag : s.on F.LGR_STATUS_WR_JTAG = false) :
    Gives (.ledgerWindowClose who 0x3C store) s fun t => t.on F.LGR_STATUS_WR_OPEN = false := by
  refine ⟨_, rfl, ?_⟩
  rw [s.access_takes _ _ _ _ _ _ htakes, (s.reply .none).lgrCtrlWrite_close who store false hjtag]
  exact State.on_closeWindow_open _

/-- R88: the opening core's word goes into the open store at LGR_WR_ADDR, which advances. -/
theorem gives_ledgerWordWrite (s : State) (c : Core) (w : Word) (htakes : s.Takes (.core c false) 0)
    (hopen : s.on F.LGR_STATUS_WR_OPEN = true) (hjtag : s.on F.LGR_STATUS_WR_JTAG = false)
    (howner : s.rd F.LGR_STATUS_WR_OWNER = c.num) (hfram : s.domOn domFRAM = true) :
    Gives (.ledgerWordWrite (.core c false) w false) s fun t =>
      t.HoldsWord s.windowAddr w ∧ SameMemoryBut s.windowAddr 4 s t ∧ t.rd F.LGR_WR_ADDR_WORD = (s.rd F.LGR_WR_ADDR_WORD + 1) % 2 ^ 14 := by
  refine ⟨_, rfl, ?_⟩
  rw [s.access_takes _ _ _ _ _ _ htakes, (s.reply .none).lgrDataWrite_taken c false w hopen hjtag howner hfram]
  exact ⟨(s.reply .none).storeWord_holdsWord w, (s.reply .none).storeWord_sameMemoryBut w, (s.reply .none).storeWord_addr w⟩

/-- R90: the idle limit closes a core's window while nothing is frozen. -/
theorem gives_ledgerWindowIdle (s : State) (hao : s.domOn 0 = true) (hfree : s.freezing = false) (hopen : s.on F.LGR_STATUS_WR_OPEN = true)
    (hjtag : s.on F.LGR_STATUS_WR_JTAG = false) :
    Gives .ledgerWindowIdle s fun t => t.on F.LGR_STATUS_WR_OPEN = false := by
  refine ⟨_, rfl, ?_⟩
  simp only [hao, hfree, hopen, hjtag, Bool.not_true, Bool.or_self, Bool.false_eq_true, if_false]
  exact s.on_closeWindow_open

/-- R91: GO starts the check of a store that is not open. -/
theorem gives_ledgerCheck (s : State) (who : Agent) (store : Bool) (htakes : s.Takes who 0) (hidle : s.on F.LGR_STATUS_CHECK_BUSY = false)
    (hfree : s.on F.LGR_STATUS_WR_OPEN = false ∨ s.rd F.LGR_STATUS_WR_STORE ≠ b2n store) :
    Gives (.ledgerCheck who store) s fun t =>
      t.on F.LGR_STATUS_CHECK_BUSY = true ∧ t.rd F.LGR_STATUS_CHECK_STORE = b2n store := by
  refine ⟨_, rfl, ?_⟩
  rw [s.access_takes _ _ _ _ _ _ htakes, (s.reply .none).lgrCheckWrite_starts store hidle hfree]
  exact (s.reply .none).checkStarted_shows store

/-- R91: the check in progress ends, with the code its store has when it ends (log entry 22). -/
theorem gives_ledgerCheckDone (s : State) (hbusy : s.on F.LGR_STATUS_CHECK_BUSY = true) (hruns : s.checkRuns = true) :
    Gives .ledgerCheckDone s fun t => t.on F.LGR_STATUS_CHECK_BUSY = false ∧ t.on F.LGR_STATUS_CHECK_DONE = true ∧
      t.rd F.LGR_STATUS_CHECK_CODE = (s.storeCheck (s.rd F.LGR_STATUS_CHECK_STORE)).code % 16 := by
  refine ⟨_, rfl, ?_⟩
  simp only [hbusy, hruns, Bool.not_true, Bool.or_self, Bool.false_eq_true, if_false]
  exact State.checkEnd_shows _ _

/-- Settles O2: the clauses are the command lemmas above; for an open request, what R87 and R102 name decides whether it is refused. -/
theorem ledgerWindowActs : Obligations.LedgerWindowActs := by
  unfold Obligations.LedgerWindowActs
  refine ⟨?granted, ?refused, gives_ledgerWindowClose, gives_ledgerWordWrite, gives_ledgerWindowIdle, gives_ledgerCheck, gives_ledgerCheckDone⟩
  case granted =>
    intro s c store met htakes hruns hopen hpin hmet
    refine gives_ledgerWindowOpen_granted s c store met htakes ?_
    have htie : (met && c == .b) = false := by
      rcases hmet with rfl | rfl
      · rfl
      · exact Bool.and_false met
    rw [State.refusesOpen, hruns, hopen, hpin, htie]
    rfl
  case refused =>
    intro s c store met htakes hcause
    refine gives_ledgerWindowOpen_refused s c store met htakes ?_
    rw [State.refusesOpen]
    rcases hcause with h | h | h <;> simp [h]

end Sys2Proof.Machine
end

section
/-! PROOF. O60: the two reads of the Calendar's count (R422). First the list of latches as a map from a core to its latched bits, with what latching
and releasing leave in it, then one lemma for each outcome of a read, then a lemma per command. -/

namespace Sys2Proof.Machine

/-! ## The latch of a core -/

/-- What a core's latch holds. -/
def Calendar.latchOf (x : Calendar) (c : Core) : Option (Core × Nat) := x.latch.find? fun p => p.1 == c

/-- The Calendar with the core's latch released. -/
def Calendar.released (x : Calendar) (c : Core) : Calendar := { x with latch := x.latch.filter fun p => p.1 != c }

/-- The Calendar with the high word of its count latched for the core, in place of what its latch held. -/
def Calendar.latched (x : Calendar) (c : Core) : Calendar := { x with latch := (c, x.count / 2 ^ 32) :: (x.released c).latch }

/-- An empty latch is found empty: the filter leaves no entry of that core. -/
theorem Calendar.latchOf_released_self (x : Calendar) (c : Core) : (x.released c).latchOf c = none := by
  rw [Calendar.latchOf, Calendar.released, List.find?_eq_none]
  intro p hp
  have hother : (p.1 != c) = true := (List.mem_filter.mp hp).2
  simpa using hother

/-- Releasing a core's latch leaves the other core's: an entry of d passes the filter for c. -/
theorem Calendar.latchOf_released_other (x : Calendar) {c d : Core} (h : d ≠ c) : (x.released c).latchOf d = x.latchOf d := by
  have hpass (p : Core × Nat) : ((p.1 != c) && (p.1 == d)) = (p.1 == d) := by
    by_cases hp : p.1 = d
    · simp [hp, h]
    · simp [hp]
  simp only [Calendar.latchOf, Calendar.released, List.find?_filter, Bool.decide_and, Bool.decide_eq_true, hpass]

theorem Calendar.latchOf_latched_self (x : Calendar) (c : Core) : (x.latched c).latchOf c = some (c, x.count / 2 ^ 32) :=
  List.find?_cons_of_pos (beq_self_eq_true c)

/-- Latching for a core leaves the other core's latch: the new entry is not d's, and the release before it keeps d's. -/
theorem Calendar.latchOf_latched_other (x : Calendar) {c d : Core} (h : d ≠ c) : (x.latched c).latchOf d = x.latchOf d := by
  have hskip : (x.latched c).latchOf d = (x.released c).latchOf d := List.find?_cons_of_neg (by simpa using h.symm)
  rw [hskip, x.latchOf_released_other h]

/-! ## The outcomes of a read -/

theorem State.calNowLo_core (s : State) (c : Core) (user : Bool) :
    s.calNowLo (.core c user) = (BitVec.ofNat 32 s.cal.count, s.modCal fun x => x.latched c) := rfl

theorem State.calNowLo_jtag (s : State) : s.calNowLo .jtag = (BitVec.ofNat 32 s.cal.count, s) := rfl

/-- A core whose latch holds bits reads them and releases the latch. -/
theorem State.calNowHi_latched (s : State) (c : Core) (user : Bool) (p : Core × Nat) (hlatch : s.cal.latchOf c = some p) :
    s.calNowHi (.core c user) = (BitVec.ofNat 32 p.2, s.modCal fun x => x.released c) := by
  rw [Calendar.latchOf] at hlatch
  simp only [State.calNowHi, hlatch]
  rfl

/-- A core without a latch reads the live bits. -/
theorem State.calNowHi_live (s : State) (c : Core) (user : Bool) (hlatch : s.cal.latchOf c = none) :
    s.calNowHi (.core c user) = (BitVec.ofNat 32 (s.cal.count / 2 ^ 32), s) := by
  rw [Calendar.latchOf] at hlatch
  simp only [State.calNowHi, hlatch]

theorem State.calNowHi_jtag (s : State) : s.calNowHi .jtag = (BitVec.ofNat 32 (s.cal.count / 2 ^ 32), s) := rfl

/-! ## The commands -/

theorem exec_calNowLoRead (s : State) (who : Agent) (hon : s.domOn 0 = true) :
    exec (.calNowLoRead who) s = .next ((s.calNowLo who).2.reply (.word (s.calNowLo who).1)) := by
  have hexec : exec (.calNowLoRead who) s = execCalNowLoRead who s := rfl
  simp [hexec, execCalNowLoRead, hon]

theorem exec_calNowHiRead (s : State) (who : Agent) (hon : s.domOn 0 = true) :
    exec (.calNowHiRead who) s = .next ((s.calNowHi who).2.reply (.word (s.calNowHi who).1)) := by
  have hexec : exec (.calNowHiRead who) s = execCalNowHiRead who s := rfl
  simp [hexec, execCalNowHiRead, hon]

/-- R422: a core's read of CAL_NOW_LO latches the high word for that core and leaves the other core's latch and the count. -/
theorem gives_calNowLoRead_core (s : State) (c : Core) (user : Bool) (hon : s.domOn 0 = true) :
    Gives (.calNowLoRead (.core c user)) s fun t => t.resp = .word (BitVec.ofNat 32 s.cal.count) ∧
      t.cal.latchOf c = some (c, s.cal.count / 2 ^ 32) ∧ (∀ d, d ≠ c → t.cal.latchOf d = s.cal.latchOf d) ∧ t.cal.count = s.cal.count := by
  refine ⟨_, exec_calNowLoRead s _ hon, ?_⟩
  rw [s.calNowLo_core c user]
  exact ⟨rfl, s.cal.latchOf_latched_self c, fun d hd => s.cal.latchOf_latched_other hd, rfl⟩

/-- R422: that core's next read of CAL_NOW_HI returns the latched bits and releases its latch alone. -/
theorem gives_calNowHiRead_latched (s : State) (c : Core) (user : Bool) (h : Nat) (hon : s.domOn 0 = true)
    (hlatch : s.cal.latchOf c = some (c, h)) :
    Gives (.calNowHiRead (.core c user)) s fun t => t.resp = .word (BitVec.ofNat 32 h) ∧ t.cal.latchOf c = none ∧
      ∀ d, d ≠ c → t.cal.latchOf d = s.cal.latchOf d := by
  refine ⟨_, exec_calNowHiRead s _ hon, ?_⟩
  rw [s.calNowHi_latched c user (c, h) hlatch]
  exact ⟨rfl, s.cal.latchOf_released_self c, fun d hd => s.cal.latchOf_released_other hd⟩

/-- R422: a read of CAL_NOW_HI without a latch returns the live bits. -/
theorem gives_calNowHiRead_live (s : State) (c : Core) (user : Bool) (hon : s.domOn 0 = true) (hlatch : s.cal.latchOf c = none) :
    Gives (.calNowHiRead (.core c user)) s fun t => t.resp = .word (BitVec.ofNat 32 (s.cal.count / 2 ^ 32)) ∧ t.cal = s.cal := by
  refine ⟨_, exec_calNowHiRead s _ hon, ?_⟩
  rw [s.calNowHi_live c user hlatch]
  exact ⟨rfl, rfl⟩

/-- R12, R422: a read by JTAG leaves all but the answer. -/
theorem exec_calNowReads_jtag (s : State) (hon : s.domOn 0 = true) :
    exec (.calNowLoRead .jtag) s = .next (s.reply (.word (BitVec.ofNat 32 s.cal.count))) ∧
      exec (.calNowHiRead .jtag) s = .next (s.reply (.word (BitVec.ofNat 32 (s.cal.count / 2 ^ 32)))) := by
  rw [exec_calNowLoRead s .jtag hon, exec_calNowHiRead s .jtag hon, s.calNowLo_jtag, s.calNowHi_jtag]
  exact ⟨rfl, rfl⟩

/-- Settles O60: its clauses are the four command lemmas above, with a core's latch written out as the search for its entry. -/
theorem calendarReadLatch : Obligations.CalendarReadLatch := by
  unfold Obligations.CalendarReadLatch
  exact ⟨gives_calNowLoRead_core, gives_calNowHiRead_latched, gives_calNowHiRead_live, exec_calNowReads_jtag⟩

end Sys2Proof.Machine
end
